-- ==== Sys2Proof/Word.lean ====
section
/-!
DEFINITION. The word types of the DT4824 and its plainest arithmetic: words of the two ports, bytes, stored samples,
and reading and setting an element of a bank of like things by its number.
-/

namespace Sys2Proof

/-- A word of the controller port or of the memory port: 32 bits on a 4-byte boundary. -/
abbrev Word := BitVec 32

/-- One byte lane of a word. -/
abbrev Byte := BitVec 8

/-- A halfword: a stored sample, a CRC register. -/
abbrev Half := BitVec 16

/-- The set of enabled byte lanes of an access; bit i stands for lane i. -/
abbrev Lanes := BitVec 4

/-- Element `i` of a bank; `d` for a number the bank does not have. -/
def bankGet {α : Type} {n : Nat} (xs : Vector α n) (i : Nat) (d : α) : α := xs[i]?.getD d

/-- The bank with element `i` set to `a`; a number the bank does not have changes nothing. -/
def bankSet {α : Type} {n : Nat} (xs : Vector α n) (i : Nat) (a : α) : Vector α n := xs.setIfInBounds i a

/-- The saturating sum of R1: it stops at `top`. -/
def satAdd (top a b : Nat) : Nat := min top (a + b)

end Sys2Proof
end

