-- ==== Sys2Proof/Config.lean ====
section
/-!
DEFINITION. What the manual fixes as numbers, and the choices it leaves to the moment ("either may be taken first"):
the types in which such a choice is written down, and the free constants that make it where no sender does.
-/

namespace Sys2Proof

/-- The parts of one frame event that R133, R142, R163, R166 and R121 leave in no set order among themselves. -/
inductive FrameTask where
  /-- the frame of a sounding voice (R133) -/
  | voice (v : Nat)
  /-- the follow fire of the voice's COMPLETE end (R142) -/
  | follow (v : Nat)
  /-- the forming of a bus (R163) -/
  | bus (b : Nat)
  /-- the fire of a timer that the frame event brings to 0, taken within the same step (R121) -/
  | timer (t : Nat)
  /-- CLOCK_LOST or CLOCK_HOUSE of the same event (R168, R170) -/
  | clock
  deriving DecidableEq, Repr, Inhabited

/-- One choice of an order. Tasks that are named come first, in the order given; tasks that are due and not named follow,
lowest number first. `first` orders the voices' frames, `later` what R133 processes after them. -/
structure FrameChoice where
  first : List FrameTask
  later : List FrameTask
  deriving DecidableEq, Repr, Inhabited

/-- The choice that names nothing: everything lowest number first. -/
def FrameChoice.plain : FrameChoice := ⟨[], []⟩

namespace Config

/-- What a byte of SDRAM, or of the shadow, that nothing has written reads as (DESIGN CHOICE, assumption 2; unsafe). -/
def unwritten : Byte := 0

/-- Capacity of the pending queue (R173). -/
def queueCapacity : Nat := 16
/-- From this many records on, the Report Writer stands at place 3 (R15). -/
def queueUrgent : Nat := 12
/-- Entries of a voice FIFO (R144). -/
def fifoCapacity : Nat := 32
/-- Most frames of one burst (R148). -/
def burstFrames : Nat := 8
/-- Fill plus flight up to which a voice requests (R145). -/
def requestBelow : Nat := 24
/-- Fill at or below which a voice is urgent (R145). -/
def urgentFill : Nat := 4
/-- Most frames of a head (R67). -/
def headFrames : Nat := 256
/-- Reference periods of a line unit (R1). -/
def lineUnit : Nat := 120
/-- Reference periods of an internal frame (R1). -/
def framePeriod : Nat := 250
/-- Length of the relock gap timer in reference periods (R167). -/
def gapPeriod : Nat := 750
/-- Clean WCLK periods of a relock (R168). -/
def relockPeriods : Nat := 4800
/-- Most frames of a clip (R40). -/
def maxFrames : Nat := 4194304
/-- End of clip memory (R41). -/
def memoryEnd : Nat := 0x10000000

/-- FREE (assumption 6). Which of several expiries that stand due together an idle part takes first; argument: the draw. -/
opaque pick : Nat → Nat

/-- FREE (assumption 7). The loop start and loop end that a voice without an active loop shows; argument: the draw. -/
opaque noLoopPoints : Nat → Nat × Nat

/-- FREE (assumption 6). The order of a frame event that no command gives an order for: one that an idle part takes by
itself, or that TIMER_EXPIRY or BOARD_INTERVAL_EXPIRY names; argument: the draw. -/
opaque frameChoice : Nat → FrameChoice

end Config

end Sys2Proof
end

