-- ==== Sys2Proof/Syntax.lean ====
section
/-!
DEFINITION. The commands: one constructor per row of spec/opcode_table.json. A command names one whole step of the part
(spec/95_what_each_step_holds.md). A step that a thing outside the part brings about carries what that thing supplies: the
access at the controller port, the straps read at a reset, the level of a line. A step that ends what the part holds
already (an access on the memory port, a timer) carries nothing more: its data are in the state.
-/

namespace Sys2Proof

inductive Instr where
  /-- POWER_ON. Supply is applied; `straps` is CRB3–CRB0 as read (R2, R33). -/
  | powerOn (straps : BitVec 4)
  /-- RST_ASSERT. RST# is asserted (R20). -/
  | rstAssert
  /-- RST_RELEASE. RST# is released; `straps` is CRB3–CRB0 as read (R2, R33). -/
  | rstRelease (straps : BitVec 4)
  /-- SWEEP_WRITE. One 16-byte write of the sweep ends (R34). -/
  | sweepWrite
  /-- PLAIN_ACCESS. A controller access that is classified plain arrives (R5). -/
  | plainAccess (write : Bool) (addr : BitVec 28) (lanes : Lanes) (data : Word)
  /-- CONTROL_REGION_READ. A controller read in the Control Region arrives (R7). -/
  | controlRegionRead (addr : BitVec 28)
  /-- MEMORY_ACCESS_END. A plain or Control Region access of the controller ends on the memory port (R16). -/
  | memoryAccessEnd
  /-- NO_LANE_WRITE. A controller write with no lane enabled arrives (R13). -/
  | noLaneWrite (addr : BitVec 28) (data : Word)
  /-- REPORT_AREA_WRITE. A controller write to the report area arrives (R8). -/
  | reportAreaWrite (addr : BitVec 28) (lanes : Lanes) (data : Word)
  /-- CLIP_EXTENT_WRITE. A controller write into a guarded extent arrives (R11). -/
  | clipExtentWrite (addr : BitVec 28) (lanes : Lanes) (data : Word)
  /-- LOAD_WINDOW_WRITE. A controller write in the Load Window of an open session arrives (R52). -/
  | loadWindowWrite (addr : BitVec 28) (lanes : Lanes) (data : Word)
  /-- CONVERTED_WRITE_HALF_END. One of the memory writes of a converted write ends (R51). -/
  | convertedWriteHalfEnd
  /-- VERIFY_READ. A controller read in the Load Window of an open session arrives (R55). -/
  | verifyRead (addr : BitVec 28)
  /-- VERIFY_READ_HALF_END. One of the memory reads of a verify read ends (R56). -/
  | verifyReadHalfEnd
  /-- SHADOWED_WRITE_ARRIVAL. A controller write to the Setup Block, Cue Deck or Trigger Ring arrives (R6). -/
  | shadowedWriteArrival (addr : BitVec 28) (lanes : Lanes) (data : Word)
  /-- SHADOW_WRITE. An accepted shadowed write without a row of its own is performed (R25). -/
  | shadowWrite
  /-- RD_WRITE. An accepted write whose lanes hold Rd is performed (R176). -/
  | rdWrite
  /-- LWB_WRITE. An accepted write whose lanes hold LWB is performed (R3). -/
  | lwbWrite
  /-- LINE_MODE_WRITE. A merge changes the mode of a line (R104). -/
  | lineModeWrite
  /-- POLARITY_WRITE. A merge changes a line polarity or the TALK polarity (R103). -/
  | polarityWrite
  /-- TIMER_PRELOAD_WRITE. A write to a timer preload is performed (R31). -/
  | timerPreloadWrite
  /-- CLOCK_PREFERENCE_WRITE. A merge changes the clock preference (R171). -/
  | clockPreferenceWrite
  /-- BOARD_INTERVAL_WRITE. A write to the board interval is performed (R178). -/
  | boardIntervalWrite
  /-- CUE_LEVEL_EDIT. A merge changes the level of a cue (R81). -/
  | cueLevelEdit
  /-- UNKNOWN_COMMAND. A trigger whose command byte has no meaning is taken (R97). -/
  | unknownCommand
  /-- FIRE is taken (R124). -/
  | fire
  /-- RELEASE is taken (R138). -/
  | release
  /-- LOCK_ARM is taken (R114). -/
  | lockArm
  /-- LOCK_REARM is taken (R114). -/
  | lockRearm
  /-- LOCK_RESET is taken (R114). -/
  | lockReset
  /-- TIMER_START is taken (R117). -/
  | timerStart
  /-- TIMER_STOP is taken (R117). -/
  | timerStop
  /-- LOAD_OPEN is taken (R42). -/
  | loadOpen
  /-- LOAD_CLOSE is taken (R44). -/
  | loadClose
  /-- LOAD_ABORT is taken (R45). -/
  | loadAbort
  /-- CLIP_DISCARD is taken (R65). -/
  | clipDiscard
  /-- PIN is taken (R68). -/
  | pin
  /-- UNPIN is taken (R71). -/
  | unpin
  /-- METER_CLEAR is taken (R99). -/
  | meterClear
  /-- RESULT_WRITE. The result write of a taken command ends (R95). -/
  | resultWrite
  /-- CLAMP_WRITE_BACK. A clamp write-back ends (R29). -/
  | clampWriteBack
  /-- EVENT_RECORD_WRITE. An event record write ends (R175). -/
  | eventRecordWrite
  /-- STATUS_BLOCK_WRITE. A write of a Status Block block ends (R179). -/
  | statusBlockWrite
  /-- DIRECTORY_MIRROR_WRITE. A write of a Directory mirror entry ends (R63). -/
  | directoryMirrorWrite
  /-- VOICE_BOARD_QUARTER_WRITE. A write of a quarter of a Voice Board record ends (R178). -/
  | voiceBoardQuarterWrite
  /-- FETCH_BURST_LAND. A voice's burst ends on the port (R149). -/
  | fetchBurstLand
  /-- HEAD_FILL_BURST_LAND. A head fill burst ends on the port (R69). -/
  | headFillBurstLand
  /-- LINE_EDGE. `after` reference periods later, line pin `line` (0–7 BZ0–BZ7, 8 PANIC, 9 TALK) takes level `high` (R102). -/
  | lineEdge (line : Fin 10) (high : Bool) (after : Nat)
  /-- FILTER_TIMER_EXPIRY. The filter timer of `line` expires (R102). -/
  | filterTimerExpiry (line : Fin 10)
  /-- PENALTY_END. The penalty counter of BZ`line` reaches 0 (R113). -/
  | penaltyEnd (line : Fin 8)
  /-- TIMER_EXPIRY. Cue timer `t`, counting, reaches 0 at the next frame event of the frame timer (R118). -/
  | timerExpiry (t : Fin 4)
  /-- BOARD_INTERVAL_EXPIRY. The board interval count reaches the board interval at the next frame event of the frame timer (R178). -/
  | boardIntervalExpiry
  /-- FRAME_TIMER_EXPIRY. The internal frame timer expires (R169); `order` is the order its free parts fall in. -/
  | frameTimerExpiry (order : FrameChoice)
  /-- WCLK_EDGE. `after` reference periods later, WCLK rises (R168); `order` as for a frame timer expiry. -/
  | wclkEdge (after : Nat) (order : FrameChoice)
  /-- GAP_TIMER_EXPIRY. The relock gap timer expires (R168). -/
  | gapTimerExpiry
  deriving DecidableEq, Repr

end Sys2Proof
end

