-- ==== Sys2Proof/Decode.lean ====
section
/-!
DEFINITION. The command a word spells. The DT4824 has no instruction words: no row of spec/opcode_table.json gives bits, and
a command reaches the part as an access at a port, an edge of a pin or the running out of a timer. So no word spells one.
-/

namespace Sys2Proof

/-- The command spelled by `nbits` bits of `w`: none, since the table gives no row any bits. -/
def decodeTableWord (_nbits _w : Nat) : Option Instr := none

end Sys2Proof
end

