-- ==== Sys2Proof/Machine/Layout.lean ====
section
/-!
DEFINITION. Memory as a list of cells in one canonical form, and how words, lanes and little-endian numbers lie in it; the map
of the Control Region (chapter 2) and the default words of the Setup Block. Clip memory and the Control Shadow are both
held in this form: memory by byte address, the shadow by byte offset within the Control Region.
-/

namespace Sys2Proof.Machine

/-- Cells by address, lowest first. -/
abbrev Cells := List Host.Cell

/-- The byte at `a`; what a byte that is not listed reads as is `Config.unwritten`. -/
def readByte : Cells → Nat → Byte
  | [], _ => Config.unwritten
  | (a', b) :: m, a => if a' = a then b else readByte m a

/-- Put `b` at `a`, keeping the canonical form: a byte equal to `Config.unwritten` is not listed. -/
def writeByte : Cells → Nat → Byte → Cells
  | [], a, b => if b = Config.unwritten then [] else [(a, b)]
  | (a', b') :: m, a, b =>
    if a < a' then (if b = Config.unwritten then (a', b') :: m else (a, b) :: (a', b') :: m)
    else if a = a' then (if b = Config.unwritten then m else (a, b) :: m)
    else (a', b') :: writeByte m a b

/-- The canonical form: addresses strictly rising, no entry equal to what an unlisted byte reads as. -/
def cellsWf : Cells → Bool
  | [] => true
  | (a, b) :: m => decide (b ≠ Config.unwritten) && m.all (fun c => decide (a < c.1)) && cellsWf m

/-- `n` bytes from `a` upward. -/
def readBytes (m : Cells) (a n : Nat) : List Byte := (List.range n).map (fun i => readByte m (a + i))

/-- Bytes stored from `a` upward. -/
def writeBytes (m : Cells) (a : Nat) : List Byte → Cells
  | [] => m
  | b :: bs => writeBytes (writeByte m a b) (a + 1) bs

/-- Lane `i` of a word: lane 0 is the lowest-addressed byte, and the data are little-endian. -/
def laneOf (w : Word) (i : Nat) : Byte := w.extractLsb' (8 * i) 8

/-- A word from its four lanes, lane 0 first. -/
def wordOfLanes (b0 b1 b2 b3 : Byte) : Word := b3 ++ b2 ++ b1 ++ b0

/-- The word at `a`. -/
def readWord (m : Cells) (a : Nat) : Word :=
  wordOfLanes (readByte m a) (readByte m (a + 1)) (readByte m (a + 2)) (readByte m (a + 3))

/-- One lane of a word written where it is enabled. -/
def writeLane (m : Cells) (a : Nat) (lanes : Lanes) (w : Word) (i : Nat) : Cells :=
  if lanes.getLsbD i then writeByte m (a + i) (laneOf w i) else m

/-- The enabled lanes of `w` written to the word at `a` (R6, R25). -/
def writeLanes (m : Cells) (a : Nat) (lanes : Lanes) (w : Word) : Cells :=
  writeLane (writeLane (writeLane (writeLane m a lanes w 0) a lanes w 1) a lanes w 2) a lanes w 3

/-- `w` with the enabled lanes of `data` merged over it (R25). -/
def mergeLanes (w : Word) (lanes : Lanes) (data : Word) : Word :=
  let pick := fun i => if lanes.getLsbD i then laneOf data i else laneOf w i
  wordOfLanes (pick 0) (pick 1) (pick 2) (pick 3)

/-- `data` with the lanes that are not enabled read as zero (R28). -/
def enabledData (lanes : Lanes) (data : Word) : Word := mergeLanes 0 lanes data

/-- The number `n` as `k` bytes, lowest first. -/
def leBytes : Nat → Nat → List Byte
  | 0, _ => []
  | k + 1, n => BitVec.ofNat 8 n :: leBytes k (n / 256)

/-- The little-endian number of `k` bytes at `a`. -/
def readLe (m : Cells) (a : Nat) : Nat → Nat
  | 0 => 0
  | k + 1 => (readByte m a).toNat + 256 * readLe m (a + 1) k

/-- The halfword at `a`. -/
def readHalf (m : Cells) (a : Nat) : Half := readByte m (a + 1) ++ readByte m a

/-! ### Map of the Control Region (section 2.1) -/

/-- Byte address of the Control Region for a strap value (R2). -/
def regionBase (crb : Nat) : Nat := crb * 0x1000000
/-- Length of the Control Region. -/
def regionSize : Nat := 0x10000
/-- Byte address of the Load Window for an index (R3). -/
def windowBase (lwb : Nat) : Nat := lwb * 0x2000000
/-- Length of the Load Window. -/
def windowSize : Nat := 0x2000000

def deckBase : Nat := 0x1000
def ringBase : Nat := 0x5000
def boardBase : Nat := 0x8000
def statusBase : Nat := 0x8800
def mirrorBase : Nat := 0xA000
def eventBase : Nat := 0xC000

/-- The parts of the Control Region: what R5 tells apart. -/
inductive RegionPart where
  | setup | deck | ring | report | other
  deriving DecidableEq, Repr

/-- The part an offset lies in (section 2.1). -/
def regionPart (off : Nat) : RegionPart :=
  if off < 0x100 then .setup
  else if 0x1000 ≤ off ∧ off < 0x5000 then .deck
  else if 0x5000 ≤ off ∧ off < 0x5400 then .ring
  else if 0x8000 ≤ off ∧ off < 0x8600 then .report
  else if 0x8800 ≤ off ∧ off < 0x8900 then .report
  else if 0xA000 ≤ off ∧ off < 0xA800 then .report
  else if 0xC000 ≤ off ∧ off < 0xD000 then .report
  else .other

/-- The default LWB for a strap value (R3). -/
def defaultLwb (crb : Nat) : Nat := if crb = 14 ∨ crb = 15 then 6 else 7

/-- The default words of the Setup Block that are not zero, with their offsets (section 2.2). -/
def defaultSetupWords (crb : Nat) : List (Nat × Word) :=
  [(0x00, if defaultLwb crb = 6 then 0x00000600 else 0x00000700),
   (0x04, 0x12C06400), (0x08, 0x61A80040), (0x0C, 0x00000960),
   (0x50, 0x04001000), (0x54, 0x00040010), (0x58, 0x00000001),
   (0x5C, 0x04001000), (0x60, 0x00040010), (0x64, 0x00000001),
   (0x68, 0x04001000), (0x6C, 0x00040010),
   (0x74, 0x04001000), (0x78, 0x00040010)]

/-- The Setup Block of the defaults, as cells. -/
def defaultSetup (crb : Nat) : Cells :=
  (defaultSetupWords crb).foldl (fun m w => writeLanes m w.1 0xF w.2) []

/-- The Cue Deck's cells of a shadow (R33: what a line reset keeps). -/
def deckCells (m : Cells) : Cells := m.filter (fun c => decide (0x1000 ≤ c.1) && decide (c.1 < 0x5000))

/-! ### Byte ranges -/

/-- Two byte ranges, upper ends exclusive, share at least one byte (R62). -/
def rangesMeet (a b : Nat × Nat) : Bool := decide (max a.1 b.1 < min a.2 b.2)

/-- The byte range of the Control Region. -/
def regionRange (crb : Nat) : Nat × Nat := (regionBase crb, regionBase crb + regionSize)
/-- The byte range of the Load Window. -/
def windowRange (lwb : Nat) : Nat × Nat := (windowBase lwb, windowBase lwb + windowSize)

end Sys2Proof.Machine
end

