-- ==== Sys2Proof/Machine/State.lean ====
section
/-!
DEFINITION. The state of the DT4824, block by block as the manual's table of blocks has it, with its value at reset; the
reasons for which a step could stop.
-/

namespace Sys2Proof.Machine

/-! ### The Memory Path -/

/-- A controller access: the 28-bit byte address of a word, the direction, the enabled lanes and the data of a write. -/
structure Access where
  addr : Nat
  write : Bool
  lanes : Lanes
  data : Word
  deriving DecidableEq, Repr

/-- The Trigger Intake's verdict on a shadowed write (R92). -/
inductive Verdict where
  /-- the write is no trigger -/
  | data
  /-- a trigger at slot E with sequence number S -/
  | taken
  /-- any other trigger -/
  | misplaced
  deriving DecidableEq, Repr

/-- The four packings of a load session (section 3.2). -/
inductive Packing where
  | p16 | p24l | p12r | pu8
  deriving DecidableEq, Repr

/-- What a verify read needs until it is done (R55): where its positions lie and the words read so far. -/
structure VerifyJob where
  packing : Packing
  channels : Nat
  base : Nat
  capacity : Nat
  /-- window offset of the word read -/
  offset : Nat
  /-- memory words still to be read, lowest address first -/
  todo : List Nat
  /-- memory words read, with their addresses -/
  got : List (Nat × Word)
  deriving DecidableEq, Repr

/-- One memory write of a converted write. -/
structure HalfWrite where
  addr : Nat
  lanes : Lanes
  data : Word
  deriving DecidableEq, Repr

/-- The class a held access was given, with the verdict passed on it (R5). -/
inductive AccessClass where
  /-- plain, or a read of the Control Region: one memory access -/
  | direct
  /-- an accepted shadowed write: its offset, the lanes left to it, and the Intake's verdict -/
  | shadowed (off : Nat) (lanes : Lanes) (verdict : Verdict)
  /-- a converted write: whether one of its memory writes has ended, and those still to be performed -/
  | converted (started : Bool) (todo : List HalfWrite)
  /-- a verify read -/
  | verify (job : VerifyJob)
  deriving DecidableEq, Repr

/-- The access at the controller port; without a class while a reset or a sweep holds it (R18, R20). -/
structure Held where
  access : Access
  cls : Option AccessClass
  deriving DecidableEq, Repr

/-- A burst of a voice on the memory port (R148). -/
structure Burst where
  voice : Nat
  epoch : BitVec 8
  start : Nat
  frames : Nat
  addr : Nat
  channels : Nat
  stale : Bool
  deriving DecidableEq, Repr

/-- A burst of a head fill on the memory port (R69). -/
structure FillBurst where
  slot : Nat
  frames : Nat
  addr : Nat
  channels : Nat
  stale : Bool
  deriving DecidableEq, Repr

/-- What a Report Writer write carries (R177). -/
inductive ReportKind where
  | event
  | result (slot : Nat)
  | clamp (off : Nat)
  | status (block : Nat)
  | mirror (clip : Nat)
  | board (voice : Nat) (quarter : Nat)
  deriving DecidableEq, Repr

/-- The access on the memory port and who it belongs to. `orphan` marks a write that a reset met on the port: it runs to its
end in memory and nothing of the part waits for it (R20). -/
inductive PortAccess where
  | controller
  | sweep (addr : Nat) (bytes : List Byte) (orphan : Bool)
  | burst (b : Burst)
  | fill (b : FillBurst)
  | report (kind : ReportKind) (addr : Nat) (bytes : List Byte) (orphan : Bool)
  deriving DecidableEq, Repr

/-! ### The Control Shadow -/

/-- A pending clamp write-back of the field of `width` bytes at Setup Block offset `off` (R29). -/
structure WriteBack where
  off : Nat
  width : Nat
  value : Nat
  deriving DecidableEq, Repr

/-! ### The Load Converter -/

/-- An open load session (R40). -/
structure Session where
  clip : Nat
  packing : Packing
  channels : Nat
  base : Nat
  capacity : Nat
  highest : Option Nat
  peak : Nat
  crc : Half
  orderGood : Bool
  nextOffset : Nat
  deriving DecidableEq, Repr

/-! ### The Clip Directory -/

inductive ClipState where
  | empty | loading | ready | faulty | retiring
  deriving DecidableEq, Repr

inductive CrcStatus where
  | notChecked | matched | mismatch | order
  deriving DecidableEq, Repr

/-- A clip entry (R61). -/
structure ClipEntry where
  state : ClipState
  channels : Nat
  base : Nat
  capacity : Nat
  length : Nat
  peak : Nat
  crc : Half
  crcStatus : CrcStatus
  uses : Nat
  headSlot : Option Nat
  deriving DecidableEq, Repr

/-- An EMPTY entry: every other field is cleared (R61). -/
def ClipEntry.blank : ClipEntry := ⟨.empty, 0, 0, 0, 0, 0, 0, .notChecked, 0, none⟩

/-- A CLIP_EMPTY event owed to the end of a sweep (R75). -/
structure OwedEmpty where
  clip : Nat
  cause : Nat
  base : Nat
  deriving DecidableEq, Repr

/-! ### The Head Store -/

/-- One frame of samples; a mono clip's one sample stands on both sides (R160). -/
structure Frame where
  left : Half
  right : Half
  deriving DecidableEq, Repr

inductive SlotState where
  | free | filling | ready | draining
  deriving DecidableEq, Repr

/-- A head slot (R67). `frames` are the frames that have landed. -/
structure HeadSlot where
  state : SlotState
  clip : Nat
  headLength : Nat
  fillPos : Nat
  readers : Nat
  frames : List Frame
  deriving DecidableEq, Repr

/-- A FREE slot. -/
def HeadSlot.blank : HeadSlot := ⟨.free, 0, 0, 0, 0, []⟩

/-! ### Result codes -/

/-- The result codes of chapter 2 other than 00h. -/
inductive ResultCode where
  | done | badCommand | badArgument | panicHeld | cueNotArmed | clipNotReady | cueRange | noRoute | alreadyPlaying
  | noVoice | lockState | loadBusy | noLoad | loadOverlap | loadEmpty | clipBusy | headFull | alreadyPinned | notPinned
  deriving DecidableEq, Repr

/-! ### The Lines block -/

inductive FilterState where
  | up | pressing | down | releasing
  deriving DecidableEq, Repr

/-- A line: its pin, its filter and filter timer (R101), the held cue of a MOMENTARY line (R105) and the penalty of a buzzer
line (R109). The filter timer and the penalty are held as the reference periods left to them, 120 to a line unit (R1): the
penalty counter of R109 is `penalty` in line units rounded up, and none is a counter of 0. At 0 periods left the expiry stands due
(assumption 5). -/
structure Line where
  high : Bool
  filter : FilterState
  timer : Nat
  heldCue : Option Nat
  penalty : Option Nat
  deriving DecidableEq, Repr

inductive LockState where
  | unlocked | armed | locked
  deriving DecidableEq, Repr

/-- The lockout (R109); its state OPEN is written `unlocked`. The two clocks are held in reference periods, 120 to a line unit,
up to the line units they saturate at (assumption 5); `reaction` and the delays of `late` are in line units. -/
structure Lockout where
  state : LockState
  winner : Option Nat
  barred : BitVec 8
  late : List (Nat × Nat)
  reaction : Nat
  armClock : Nat
  winClock : Nat
  deriving DecidableEq, Repr

/-- The lockout after a reset (R109). -/
def Lockout.blank : Lockout := ⟨.unlocked, none, 0, [], 0, 0, 0⟩

inductive TimerPhase where
  | stopped | waiting | counting | held
  deriving DecidableEq, Repr

/-- A cue timer (R116). -/
structure CueTimer where
  phase : TimerPhase
  counter : Nat
  deriving DecidableEq, Repr

/-- A timer after a reset (R116). -/
def CueTimer.blank : CueTimer := ⟨.stopped, 0⟩

/-! ### The Voice Engine and the Fetcher -/

inductive VoiceState where
  | idle | priming | rising | steady | falling
  deriving DecidableEq, Repr

inductive Source where
  | ring | line | timer | follow
  deriving DecidableEq, Repr

inductive Retrigger where
  | restart | ignore | layer
  deriving DecidableEq, Repr

inductive DuckRole where
  | none | ducker | duckable
  deriving DecidableEq, Repr

/-- End reasons (R140); `none` before a voice's first end. -/
inductive EndReason where
  | none | complete | released | cut | choked | stolen | restarted | panic
  deriving DecidableEq, Repr

/-- An entry of a voice FIFO (R144). -/
structure FifoEntry where
  frame : Frame
  pos : Nat
  epoch : BitVec 8
  deriving DecidableEq, Repr

/-- A voice record (R122) with the Fetcher's values of the voice (R144). `sounded`: the voice has given at least one frame in
this life (R141, R136). -/
structure Voice where
  state : VoiceState
  cue : Nat
  clip : Nat
  channels : Nat
  source : Source
  number : Nat
  preview : Bool
  mask : BitVec 4
  priority : Nat
  choke : Nat
  retrigger : Retrigger
  role : DuckRole
  stamp : BitVec 32
  start : Nat
  effEnd : Nat
  loop : Bool
  ls : Nat
  le : Nat
  fi : Nat
  fo : Nat
  tail : Bool
  followOn : Bool
  followCue : Nat
  due : Nat
  lc : Nat
  lt : Nat
  n : Nat
  m : Nat
  er : Nat
  fallLength : Nat
  fallReason : EndReason
  lastEnv : Nat
  headFlag : Bool
  headSlot : Nat
  sounded : Bool
  fifo : List FifoEntry
  fetchPos : Nat
  epoch : BitVec 8
  inFlight : Nat
  underruns : Nat
  lastEnd : EndReason
  boardFlag : Bool
  deriving DecidableEq, Repr

/-- A voice record after a reset: IDLE with every field 0 (R122, R143). -/
def Voice.blank : Voice :=
  { state := .idle, cue := 0, clip := 0, channels := 0, source := .ring, number := 0, preview := false, mask := 0,
    priority := 0, choke := 0, retrigger := .restart, role := .none, stamp := 0, start := 0, effEnd := 0, loop := false,
    ls := 0, le := 0, fi := 0, fo := 0, tail := false, followOn := false, followCue := 0, due := 0, lc := 0, lt := 0,
    n := 0, m := 0, er := 0, fallLength := 0, fallReason := .none, lastEnv := 0, headFlag := false, headSlot := 0,
    sounded := false, fifo := [], fetchPos := 0, epoch := 0, inFlight := 0, underruns := 0, lastEnd := .none,
    boardFlag := false }

/-! ### The Mixer and the Frame Clock -/

/-- A bus (R157): duck gain, clip counter, the output pair last formed, and the pair its serial output carries (R165). -/
structure Bus where
  duck : Nat
  clips : Nat
  left : Int
  right : Int
  saoLeft : Int
  saoRight : Int
  deriving DecidableEq, Repr

/-- A bus after a reset (R157). -/
def Bus.blank : Bus := ⟨4096, 0, 0, 0, 0, 0⟩

inductive ClockState where
  | freerun | relocking | house
  deriving DecidableEq, Repr

/-- The Frame Clock (R166) but for the frame counter. Timers in reference periods; 0 is an expiry that stands due, or, for
the gap timer outside RELOCKING, a timer that is stopped. -/
structure FrameClock where
  state : ClockState
  frameTimer : Nat
  relock : Nat
  gap : Nat
  bridge : Nat
  deriving DecidableEq, Repr

/-! ### The Report Writer -/

/-- Event kinds (section 2.2). -/
inductive EventKind where
  | powerUp | lineReset | cueStart | cueEnd | cueRefused | cueAdjusted | underrun | lockWon | lockLate | lockEarly
  | loadDone | loadPartial | loadRange | clipEmpty | pinDone | guardWrite | setupRefused | ringSeq | clockLost
  | clockHouse | panicOn | panicOff | busClip | lost
  deriving DecidableEq, Repr

/-- An event record (R173). -/
structure EventRecord where
  seq : BitVec 16
  kind : EventKind
  repeats : Nat
  stamp : BitVec 32
  subjectA : BitVec 16
  subjectB : BitVec 16
  value : BitVec 32
  deriving DecidableEq, Repr

/-- The copy of a voice record that is being written to the Voice Board (R178): `next` is the quarter due next. -/
structure BoardCopy where
  voice : Nat
  next : Nat
  bytes : List Byte
  deriving DecidableEq, Repr

/-! ### The whole part -/

/-- The state of the DT4824 with the SDRAM behind it. -/
structure State where
  /-- commands waiting, first in, first out -/
  pending : List Instr
  /-- RST# is asserted -/
  rst : Bool
  /-- Memory Path: the latched strap value (R2) -/
  crb : Nat
  /-- Memory Path: the access at the controller port -/
  held : Option Held
  /-- Memory Path: the controller port shows done -/
  done : Bool
  /-- Memory Path: the data the controller port last returned -/
  readData : Word
  /-- Memory Path: the access on the memory port -/
  port : Option PortAccess
  /-- the SDRAM -/
  mem : Cells
  /-- Control Shadow: the 4,416 shadowed words, by offset within the Control Region (R24) -/
  shadow : Cells
  /-- Control Shadow: pending clamp write-backs -/
  writeBacks : List WriteBack
  /-- Control Shadow: the deck-clear flag (R38) -/
  deckClear : Bool
  /-- Control Shadow: the sweep, while it runs: the number of the write it presents (R34) -/
  sweep : Option Nat
  /-- Load Converter: the load session -/
  session : Option Session
  /-- Clip Directory: the entries -/
  clips : Vector ClipEntry 128
  /-- Clip Directory: the mirror flags (R63) -/
  mirrorFlags : Vector Bool 128
  /-- Clip Directory: the entry whose mirror write is on the port has changed since its grant (R63) -/
  mirrorAgain : Bool
  /-- Clip Directory: CLIP_EMPTY events owed to the end of the sweep (R75) -/
  owed : List OwedEmpty
  /-- Head Store: the slots -/
  slots : Vector HeadSlot 8
  /-- Head Store: the slot whose burst is offered to the Fetcher (R69) -/
  offer : Option Nat
  /-- Trigger Intake: the expected slot E -/
  expSlot : Nat
  /-- Trigger Intake: the expected sequence number S -/
  expSeq : Nat
  /-- Trigger Intake: the last taken sequence number -/
  lastSeq : Nat
  /-- Trigger Intake: pending result writes, in the order taken (R95) -/
  results : List (Nat × ResultCode)
  /-- Lines block: BZ0–BZ7, PANIC, TALK -/
  lines : Vector Line 10
  /-- Lines block: the lockout -/
  lockout : Lockout
  /-- Lines block: the cue timers -/
  timers : Vector CueTimer 4
  /-- Voice Engine: the voice records -/
  voices : Vector Voice 24
  /-- Mixer: the buses -/
  buses : Vector Bus 4
  /-- Frame Clock -/
  clock : FrameClock
  /-- Frame Clock: the frame counter -/
  frameCounter : BitVec 32
  /-- Report Writer: the pending queue (R173) -/
  queue : List EventRecord
  /-- Report Writer: the lost count (R174) -/
  lost : Nat
  /-- Report Writer: the next sequence number -/
  nextSeq : BitVec 16
  /-- Report Writer: the write index W (R175) -/
  w : BitVec 8
  /-- the ATTN output (R176) -/
  attn : Bool
  /-- Report Writer: the marks of Status Block blocks 0–4 (R179) -/
  marks : Vector Bool 5
  /-- Report Writer: the board interval count (R178) -/
  boardCount : Nat
  /-- Report Writer: the voice record being written -/
  boardCopy : Option BoardCopy
  /-- the MODEL's own: free values drawn so far (assumptions 6 and 7) -/
  draws : Nat
  deriving DecidableEq, Repr

/-- Why the machine would stop. The manual gives the DT4824 no condition on which it stops, and every address an access can
carry exists: a 28-bit address spans exactly the 256 MiB of the console, and part accesses lie in the Control Region or in a
clip extent. So nothing raises a fault and the type has no constructor. -/
inductive Fault
  deriving DecidableEq, Repr

/-- Why a command would have no meaning. -/
inductive Refusal where
  /-- raised by an arm of `exec` for a command that is not modelled: none is left, so nothing raises it; safe -/
  | notModelled (mnemonic : String)
  deriving DecidableEq, Repr

/-- The outcome of a step. -/
abbrev Outcome := Host.Outcome State Fault Refusal

/-- A line after a reset: UP with its timer stopped (R103); `high` is its pin. -/
def Line.released (high : Bool) : Line := ⟨high, .up, 0, none, none⟩

/-- The machine right after power-on, strapped with CRB 0 and every line at its high level (assumption 3): every block at the
values the manual gives for power-on, and the sweep's first write granted the free memory port (R15, R18). -/
def State.reset : State where
  pending := []
  rst := false
  crb := 0
  held := none
  done := false
  readData := 0
  port := some (.sweep 0 (readBytes (defaultSetup 0) 0 16) false)
  mem := []
  shadow := defaultSetup 0
  writeBacks := []
  deckClear := true
  sweep := some 0
  session := none
  clips := Vector.replicate 128 ClipEntry.blank
  mirrorFlags := Vector.replicate 128 false
  mirrorAgain := false
  owed := []
  slots := Vector.replicate 8 HeadSlot.blank
  offer := none
  expSlot := 0
  expSeq := 1
  lastSeq := 0
  results := []
  lines := Vector.replicate 10 (Line.released true)
  lockout := Lockout.blank
  timers := Vector.replicate 4 CueTimer.blank
  voices := Vector.replicate 24 Voice.blank
  buses := Vector.replicate 4 Bus.blank
  clock := ⟨.freerun, Config.framePeriod, 0, 0, 0⟩
  frameCounter := 0
  queue := []
  lost := 0
  nextSeq := 1
  w := 0
  attn := false
  marks := Vector.replicate 5 false
  boardCount := 0
  boardCopy := none
  draws := 0

end Sys2Proof.Machine
end

