-- ==== Sys2Proof/Machine/Operands.lean ====
section
/-!
DEFINITION. Reading operands: the fields of the Setup Block, of a cue record and of a ring slot, each from the bits that
section 2.2 gives it (R22), and the codes of the coded fields.
-/

namespace Sys2Proof.Machine

/-- Byte `off` of a shadow as a number. -/
def byteAt (sh : Cells) (off : Nat) : Nat := (readByte sh off).toNat

/-- Bit `i` of byte `off` of a shadow. -/
def bitAt (sh : Cells) (off i : Nat) : Bool := (readByte sh off).getLsbD i

/-! ### Setup Block -/

/-- PLAY -/
def play (sh : Cells) : Bool := bitAt sh 0x00 0
/-- LWB, 0..7 -/
def lwb (sh : Cells) : Nat := byteAt sh 0x01 % 8
/-- The clock preference is INTERNAL. -/
def preferInternal (sh : Cells) : Bool := bitAt sh 0x02 0
/-- TALK enable -/
def talkEnable (sh : Cells) : Bool := bitAt sh 0x03 0
/-- TALK polarity: active high -/
def talkActiveHigh (sh : Cells) : Bool := bitAt sh 0x03 1
/-- Event read index Rd -/
def rd (sh : Cells) : BitVec 8 := readByte sh 0x04
/-- Glitch filter G, line units -/
def glitch (sh : Cells) : Nat := byteAt sh 0x05
/-- Board interval, frames -/
def boardInterval (sh : Cells) : Nat := readLe sh 0x06 2
/-- Ride step -/
def rideStep (sh : Cells) : Nat := readLe sh 0x08 2
/-- Early penalty P, line units -/
def earlyPenalty (sh : Cells) : Nat := readLe sh 0x0A 2
/-- Panic fade, frames -/
def panicFade (sh : Cells) : Nat := readLe sh 0x0C 2

/-- The modes of a buzzer line. -/
inductive LineMode where
  | off | lockout | key | momentary | hold
  deriving DecidableEq, Repr

/-- A mode code as the part reads it: 5, 6 and 7 are OFF (R22). -/
def lineModeOfCode (n : Nat) : LineMode :=
  if n = 1 then .lockout else if n = 2 then .key else if n = 3 then .momentary else if n = 4 then .hold else .off

/-- The mode code of line `n`. -/
def lineModeCode (sh : Cells) (n : Nat) : Nat := byteAt sh (0x10 + 4 * n) % 8
/-- The mode of line `n`. -/
def lineMode (sh : Cells) (n : Nat) : LineMode := lineModeOfCode (lineModeCode sh n)
/-- The polarity of line `n`: active high. -/
def lineActiveHigh (sh : Cells) (n : Nat) : Bool := bitAt sh (0x11 + 4 * n) 0
/-- The bound cue of line `n`. -/
def lineCue (sh : Cells) (n : Nat) : Nat := byteAt sh (0x12 + 4 * n)

/-- The modes of a cue timer. -/
inductive TimerMode where
  | oneShot | repeating | hold | win
  deriving DecidableEq, Repr

/-- The mode code of timer `t`. -/
def timerModeCode (sh : Cells) (t : Nat) : Nat := byteAt sh (0x30 + 8 * t) % 4
/-- The mode of timer `t`. -/
def timerMode (sh : Cells) (t : Nat) : TimerMode :=
  let c := timerModeCode sh t
  if c = 0 then .oneShot else if c = 1 then .repeating else if c = 2 then .hold else .win
/-- The bound cue of timer `t`. -/
def timerCue (sh : Cells) (t : Nat) : Nat := byteAt sh (0x31 + 8 * t)
/-- The bound line of timer `t`. -/
def timerLine (sh : Cells) (t : Nat) : Nat := byteAt sh (0x32 + 8 * t) % 8
/-- The preload of timer `t`, frames. -/
def timerPreload (sh : Cells) (t : Nat) : Nat := readLe sh (0x34 + 8 * t) 3

/-- Trim of bus `b` -/
def trim (sh : Cells) (b : Nat) : Nat := readLe sh (0x50 + 12 * b) 2
/-- Duck depth of bus `b` -/
def duckDepth (sh : Cells) (b : Nat) : Nat := readLe sh (0x52 + 12 * b) 2
/-- Duck down step of bus `b` -/
def duckDown (sh : Cells) (b : Nat) : Nat := readLe sh (0x54 + 12 * b) 2
/-- Duck up step of bus `b` -/
def duckUp (sh : Cells) (b : Nat) : Nat := readLe sh (0x56 + 12 * b) 2
/-- Talk-duck enable of bus `b` -/
def talkDuck (sh : Cells) (b : Nat) : Bool := bitAt sh (0x58 + 12 * b) 0

/-! ### Cue records -/

/-- A cue record as the Voice Engine reads it (R78). -/
structure CueRecord where
  armed : Bool
  clip : Nat
  level : Nat
  fi : Nat
  fo : Nat
  start : Nat
  stop : Nat
  ls : Nat
  le : Nat
  loopEnable : Bool
  tail : Bool
  followOn : Bool
  followCue : Nat
  mask : BitVec 4
  priority : Nat
  choke : Nat
  retrigger : Retrigger
  role : DuckRole
  deriving DecidableEq, Repr

/-- Offset of cue `c`. -/
def cueOffset (c : Nat) : Nat := deckBase + 0x40 * c

/-- A retrigger code as the part reads it: 3 is RESTART (R22). -/
def retriggerOfCode (n : Nat) : Retrigger := if n = 1 then .ignore else if n = 2 then .layer else .restart

/-- A duck role code as the part reads it: 3 is NONE (R22). -/
def roleOfCode (n : Nat) : DuckRole := if n = 1 then .ducker else if n = 2 then .duckable else .none

/-- The level field of cue `c`, as written. -/
def cueLevel (sh : Cells) (c : Nat) : Nat := readLe sh (cueOffset c + 2) 2

/-- The record of cue `c` (section 2.2). -/
def cueRecord (sh : Cells) (c : Nat) : CueRecord :=
  let o := cueOffset c
  { armed := bitAt sh o 0
    clip := byteAt sh (o + 1) % 128
    level := cueLevel sh c
    fi := readLe sh (o + 0x04) 2
    fo := readLe sh (o + 0x06) 2
    start := readLe sh (o + 0x08) 4 % 4194304
    stop := readLe sh (o + 0x0C) 4 % 8388608
    ls := readLe sh (o + 0x10) 4 % 8388608
    le := readLe sh (o + 0x14) 4 % 8388608
    loopEnable := bitAt sh (o + 0x18) 0
    tail := bitAt sh (o + 0x18) 1
    followOn := bitAt sh (o + 0x18) 2
    followCue := byteAt sh (o + 0x19)
    mask := BitVec.ofNat 4 (byteAt sh (o + 0x1A))
    priority := byteAt sh (o + 0x1B) % 8
    choke := byteAt sh (o + 0x1C) % 16
    retrigger := retriggerOfCode (byteAt sh (o + 0x1D) % 4)
    role := roleOfCode (byteAt sh (o + 0x1E) % 4) }

/-! ### Ring slots -/

/-- Offset of ring slot `k`. -/
def slotOffset (k : Nat) : Nat := ringBase + 0x10 * k

/-- The arguments of a taken command: words 1–3 of its slot in the shadow (R93). -/
structure CommandArgs where
  /-- byte `i` of word 1 -/
  b0 : Nat
  b1 : Nat
  b2 : Nat
  /-- word 2 -/
  w2 : Nat
  /-- word 3 -/
  w3 : Nat
  deriving DecidableEq, Repr

/-- The arguments in slot `k`. -/
def commandArgs (sh : Cells) (k : Nat) : CommandArgs :=
  let o := slotOffset k
  ⟨byteAt sh (o + 4), byteAt sh (o + 5), byteAt sh (o + 6), readLe sh (o + 8) 4, readLe sh (o + 12) 4⟩

/-! ### Codes -/

/-- Result bytes (section 2.2). -/
def ResultCode.code : ResultCode → Nat
  | .done => 0x01 | .badCommand => 0x02 | .badArgument => 0x03 | .panicHeld => 0x04 | .cueNotArmed => 0x05
  | .clipNotReady => 0x06 | .cueRange => 0x07 | .noRoute => 0x08 | .alreadyPlaying => 0x09 | .noVoice => 0x0A
  | .lockState => 0x0B | .loadBusy => 0x0C | .noLoad => 0x0D | .loadOverlap => 0x0E | .loadEmpty => 0x0F
  | .clipBusy => 0x10 | .headFull => 0x11 | .alreadyPinned => 0x12 | .notPinned => 0x13

/-- Event kind bytes (section 2.2). -/
def EventKind.code : EventKind → Nat
  | .powerUp => 0x01 | .lineReset => 0x02 | .cueStart => 0x10 | .cueEnd => 0x11 | .cueRefused => 0x12
  | .cueAdjusted => 0x13 | .underrun => 0x14 | .lockWon => 0x20 | .lockLate => 0x21 | .lockEarly => 0x22
  | .loadDone => 0x30 | .loadPartial => 0x31 | .loadRange => 0x32 | .clipEmpty => 0x33 | .pinDone => 0x34
  | .guardWrite => 0x40 | .setupRefused => 0x41 | .ringSeq => 0x42 | .clockLost => 0x50 | .clockHouse => 0x51
  | .panicOn => 0x60 | .panicOff => 0x61 | .busClip => 0x70 | .lost => 0x7F

/-- The merging kinds (section 11.1). -/
def EventKind.merges : EventKind → Bool
  | .loadPartial | .loadRange | .guardWrite | .setupRefused | .ringSeq | .busClip => true
  | _ => false

/-- Voice Board state codes. -/
def VoiceState.code : VoiceState → Nat
  | .idle => 0 | .priming => 1 | .rising => 2 | .steady => 3 | .falling => 4

/-- Source codes. -/
def Source.code : Source → Nat
  | .ring => 0 | .line => 1 | .timer => 2 | .follow => 3

/-- Retrigger codes. -/
def Retrigger.code : Retrigger → Nat
  | .restart => 0 | .ignore => 1 | .layer => 2

/-- Duck role codes. -/
def DuckRole.code : DuckRole → Nat
  | .none => 0 | .ducker => 1 | .duckable => 2

/-- End reason codes (R140). -/
def EndReason.code : EndReason → Nat
  | .none => 0 | .complete => 1 | .released => 2 | .cut => 3 | .choked => 4 | .stolen => 5 | .restarted => 6 | .panic => 7

/-- Clip state codes. -/
def ClipState.code : ClipState → Nat
  | .empty => 0 | .loading => 1 | .ready => 2 | .faulty => 3 | .retiring => 4

/-- CRC status codes. -/
def CrcStatus.code : CrcStatus → Nat
  | .notChecked => 0 | .matched => 1 | .mismatch => 2 | .order => 3

/-- Clock state codes. -/
def ClockState.code : ClockState → Nat
  | .freerun => 0 | .relocking => 1 | .house => 2

/-- Lockout state codes. -/
def LockState.code : LockState → Nat
  | .unlocked => 0 | .armed => 1 | .locked => 2

/-- A number from a truth value. -/
def bit (b : Bool) : Nat := if b then 1 else 0

end Sys2Proof.Machine
end

