-- ==== Sys2Proof/Machine/Flags.lean ====
section
/-!
DEFINITION. Flag computations: the marks of the Status Block (R179), the mirror flags (R63), ATTN (R176), the states of lines
that other blocks read as flags (PANIC asserted, TALK asserted, in penalty), and voice conditions (sounding, requesting,
urgent).
-/

namespace Sys2Proof.Machine

/-- Mark block `i` of the Status Block. -/
def mark (i : Nat) (s : State) : State := { s with marks := bankSet s.marks i true }

/-- Mark blocks 0 to 4. -/
def markAll (s : State) : State := { s with marks := Vector.replicate 5 true }

/-- The mirror write of clip `c` is on the port. -/
def mirrorOnPort (s : State) (c : Nat) : Bool :=
  match s.port with
  | some (.report (.mirror d) _ _ false) => d == c
  | _ => false

/-- Set the mirror flag of clip `c`; one set while the entry's write is on the port calls for another write (R63). -/
def flagMirror (c : Nat) (s : State) : State :=
  { s with mirrorFlags := bankSet s.mirrorFlags c true, mirrorAgain := s.mirrorAgain || mirrorOnPort s c }

/-- ATTN is asserted while W differs from Rd; a reset holds it deasserted (R176, R180). -/
def judgeAttn (s : State) : State := { s with attn := !s.rst && decide (s.w ≠ rd s.shadow) }

/-- The record of line `n`. -/
def lineOf (s : State) (n : Nat) : Line := bankGet s.lines n (Line.released false)

/-- Write the record of line `n`. -/
def setLine (n : Nat) (l : Line) (s : State) : State := { s with lines := bankSet s.lines n l }

/-- Number of the PANIC line. -/
def panicLine : Nat := 8
/-- Number of the TALK line. -/
def talkLine : Nat := 9

/-- The polarity a line is judged against: PANIC has none and is active low (R101). -/
def activeHigh (sh : Cells) (n : Nat) : Bool :=
  if n = panicLine then false else if n = talkLine then talkActiveHigh sh else lineActiveHigh sh n

/-- The line reads active (R101). -/
def readsActive (sh : Cells) (n : Nat) (l : Line) : Bool := l.high == activeHigh sh n

/-- A line is asserted from its press taken until its release taken (R101). -/
def asserted (l : Line) : Bool := l.filter == .down || l.filter == .releasing

/-- PANIC is asserted. -/
def panicAsserted (s : State) : Bool := asserted (lineOf s panicLine)

/-- TALK is asserted. -/
def talkAsserted (s : State) : Bool := asserted (lineOf s talkLine)

/-- A line is in penalty while its penalty counter is above 0 (R109). -/
def inPenalty (s : State) (n : Nat) : Bool := (lineOf s n).penalty.isSome

/-- The set of those n below `k` that `p` holds of, bit n for n. -/
def bitSet (p : Nat → Bool) : Nat → Nat
  | 0 => 0
  | k + 1 => bitSet p k + (if p k then 2 ^ k else 0)

/-- The set of lines in penalty. -/
def penaltySet (s : State) : Nat := bitSet (inPenalty s) 8

/-- A penalty of `u` line units from now on (R113). -/
def penaltyOf (u : Nat) : Option Nat := if u = 0 then none else some (u * Config.lineUnit)

/-- Set the penalty counter of line `n` to `u` line units; a line that enters or leaves penalty marks the Status Block (R113). -/
def setPenalty (n u : Nat) (s : State) : State :=
  let l := lineOf s n
  let s' := setLine n { l with penalty := penaltyOf u } s
  if l.penalty.isSome = (penaltyOf u).isSome then s' else mark 0 s'

/-- Write the lockout; every change of what the Status Block shows of it marks its blocks (R109, R179). -/
def setLockout (lo : Lockout) (s : State) : State :=
  let old := s.lockout
  let s1 := { s with lockout := lo }
  let s2 := if old.state = lo.state ∧ old.winner = lo.winner ∧ old.barred = lo.barred ∧ old.reaction = lo.reaction
    then s1 else mark 0 s1
  if old.late = lo.late then s2 else mark 2 (mark 1 s2)

/-- Write the Frame Clock; a change of clock state marks block 0 (R179). -/
def setClock (c : FrameClock) (s : State) : State :=
  let s' := { s with clock := c }
  if s.clock.state = c.state then s' else mark 0 s'

/-- The sounding states (R123). -/
def sounding (v : Voice) : Bool := v.state == .rising || v.state == .steady || v.state == .falling

/-- The FIFO fill. -/
def fill (v : Voice) : Nat := v.fifo.length

/-- The voice has frames to fetch (R145). -/
def hasFrames (v : Voice) : Bool := v.loop || decide (v.fetchPos < v.effEnd)

/-- The voice requests a burst (R145). -/
def requests (v : Voice) : Bool :=
  v.state != .idle && hasFrames v && decide (fill v + v.inFlight ≤ Config.requestBelow)

/-- The voice is urgent (R145). -/
def urgent (v : Voice) : Bool := v.state == .priming || (decide (fill v ≤ Config.urgentFill) && hasFrames v)

/-- The record of timer `t`. -/
def timerOf (s : State) (t : Nat) : CueTimer := bankGet s.timers t CueTimer.blank

/-- Write the record of timer `t`. -/
def setTimer (t : Nat) (x : CueTimer) (s : State) : State := { s with timers := bankSet s.timers t x }

/-- A timer is running in every phase but STOPPED (R116). -/
def running (x : CueTimer) : Bool := x.phase != .stopped

end Sys2Proof.Machine
end

