-- ==== Sys2Proof/Machine/Ops.lean ====
section
/-!
DEFINITION. The named operations that several commands share: raising an event (R173), reading and writing the clip entries,
head slots and voices, leaving a slot, counting uses, and the work on the controller port and the SDRAM.
-/

namespace Sys2Proof.Machine

/-! ### Raising events -/

/-- The head record's write into the Event Ring has been granted: it takes no merge (R173). -/
def headGranted (s : State) : Bool :=
  match s.port with
  | some (.report .event _ _ false) => true
  | _ => false

/-- A record of this kind and subject A. -/
def sameSubject (k : EventKind) (a : BitVec 16) (r : EventRecord) : Bool := r.kind == k && r.subjectA == a

/-- One more merged event in the first record of this kind and subject A (R173, step 1). -/
def bumpFirst (k : EventKind) (a : BitVec 16) : List EventRecord → List EventRecord
  | [] => []
  | r :: rs => if sameSubject k a r then { r with repeats := satAdd 255 r.repeats 1 } :: rs else r :: bumpFirst k a rs

/-- The records that may take a merge, and those before them. -/
def splitQueue (s : State) : List EventRecord × List EventRecord :=
  if headGranted s then (s.queue.take 1, s.queue.drop 1) else ([], s.queue)

/-- Append a record and give it the next sequence number (R173, step 2). -/
def appendEvent (k : EventKind) (a b : Nat) (value : Word) (s : State) : State :=
  { s with
    queue := s.queue ++ [⟨s.nextSeq, k, 0, s.frameCounter, BitVec.ofNat 16 a, BitVec.ofNat 16 b, value⟩]
    nextSeq := s.nextSeq + 1 }

/-- Count an event lost (R174). -/
def loseEvent (s : State) : State := { s with lost := satAdd 65535 s.lost 1 }

/-- A block raises an event (R173). While RST# is asserted nothing is raised (R172); while the sweep runs every event raised
is counted as lost (R35). -/
def raiseEvent (k : EventKind) (a b : Nat) (value : Word) (s : State) : State :=
  if s.rst then s
  else if s.sweep.isSome then loseEvent s
  else
    let (granted, waiting) := splitQueue s
    if k.merges && waiting.any (sameSubject k (BitVec.ofNat 16 a)) then
      { s with queue := granted ++ bumpFirst k (BitVec.ofNat 16 a) waiting }
    else if s.queue.length < Config.queueCapacity then appendEvent k a b value s
    else loseEvent s

/-! ### Clip entries and head slots -/

/-- Clip entry `c`. -/
def clipOf (s : State) (c : Nat) : ClipEntry := bankGet s.clips c ClipEntry.blank

/-- Write clip entry `c`; a change the mirror shows sets the mirror flag (R63). -/
def setClip (c : Nat) (e : ClipEntry) (s : State) : State := flagMirror c { s with clips := bankSet s.clips c e }

/-- The guarded byte range of an entry (R11, R62); none of an EMPTY one. -/
def extentOf (e : ClipEntry) : Option (Nat × Nat) :=
  match e.state with
  | .empty => none
  | .loading => some (e.base, e.base + e.capacity * e.channels * 2)
  | _ => some (e.base, e.base + e.length * e.channels * 2)

/-- Head slot `k`. -/
def slotOf (s : State) (k : Nat) : HeadSlot := bankGet s.slots k HeadSlot.blank

/-- Write head slot `k`. -/
def setSlot (k : Nat) (h : HeadSlot) (s : State) : State := { s with slots := bankSet s.slots k h }

/-- Slot `k` becomes FREE and is taken off its clip; the mirror flag is set (R71). -/
def freeSlot (k : Nat) (s : State) : State :=
  let c := (slotOf s k).clip
  setClip c { clipOf s c with headSlot := none } (setSlot k HeadSlot.blank s)

/-- An UNPIN of the clip's slot `k`, explicit or implied (R71, R72). -/
def unpinSlot (k : Nat) (s : State) : State :=
  let h := slotOf s k
  match h.state with
  | .filling => freeSlot k s
  | .ready => if h.readers = 0 then freeSlot k s else setSlot k { h with state := .draining } s
  | _ => s

/-- The implied UNPIN of clip `c`'s slot, if it has one. -/
def unpinClip (c : Nat) (s : State) : State :=
  match (clipOf s c).headSlot with
  | some k => unpinSlot k s
  | none => s

/-! ### Voices -/

/-- Voice record `v`. -/
def voiceOf (s : State) (v : Nat) : Voice := bankGet s.voices v Voice.blank

/-- Write voice record `v`. -/
def setVoice (v : Nat) (x : Voice) (s : State) : State := { s with voices := bankSet s.voices v x }

/-- A reader leaves slot `k`; a DRAINING slot whose readers fall to 0 becomes FREE (R70). -/
def dropReader (k : Nat) (s : State) : State :=
  let h := slotOf s k
  let s' := setSlot k { h with readers := h.readers - 1 } s
  if h.state = .draining ∧ h.readers - 1 = 0 then freeSlot k s' else s'

/-- Voice `v` leaves its head slot, if it is on one (R70). -/
def leaveSlot (v : Nat) (s : State) : State :=
  let x := voiceOf s v
  if x.headFlag then dropReader x.headSlot (setVoice v { x with headFlag := false, headSlot := 0 } s) else s

/-- The burst in flight, if it is voice `v`'s, is marked stale (R154). -/
def staleBurst (v : Nat) (s : State) : State :=
  match s.port with
  | some (.burst b) => if b.voice = v then { s with port := some (.burst { b with stale := true }) } else s
  | _ => s

/-- The Fetcher empties voice `v`'s FIFO (R154). -/
def emptyFifo (v : Nat) (s : State) : State :=
  staleBurst v (setVoice v { voiceOf s v with fifo := [], inFlight := 0 } s)

/-- The use count of clip `c` rises by 1 (R64). -/
def raiseUse (c : Nat) (s : State) : State := setClip c { clipOf s c with uses := (clipOf s c).uses + 1 } s

/-- The use count of clip `c` falls by 1; a RETIRING entry that this brings to 0 becomes EMPTY and raises CLIP_EMPTY
(R64, R66). -/
def lowerUse (c : Nat) (s : State) : State :=
  let e := clipOf s c
  if e.state = .retiring ∧ e.uses - 1 = 0 then
    raiseEvent .clipEmpty c 0 (BitVec.ofNat 32 e.base) (setClip c ClipEntry.blank s)
  else setClip c { e with uses := e.uses - 1 } s

/-! ### The SDRAM and the controller port -/

/-- The Control Region's byte address of an offset. -/
def regionAddr (s : State) (off : Nat) : Nat := regionBase s.crb + off

/-- The controller sees its access done. -/
def accessDone (s : State) : State := { s with held := none, done := true }

/-- The controller sees its read done, with its data. -/
def readDone (w : Word) (s : State) : State := { s with held := none, done := true, readData := w }

/-- The access on the memory port has ended. -/
def portFree (s : State) : State := { s with port := none }

/-- The numbers below `n` that `p` holds of, lowest first. -/
def indices (n : Nat) (p : Nat → Bool) : List Nat := (List.range n).filter p

end Sys2Proof.Machine
end

