-- ==== Sys2Proof/Machine/Records.lean ====
section
/-!
DEFINITION. The records the Report Writer writes, byte by byte in the layouts of section 2.2 with the encodings of R23: event
records, Status Block blocks, Directory mirror entries and Voice Board records. Bits that hold no field are written 0
(assumption 8).
-/

namespace Sys2Proof.Machine

/-- An event record. -/
def eventBytes (r : EventRecord) : List Byte :=
  leBytes 2 r.seq.toNat ++ leBytes 1 r.kind.code ++ leBytes 1 r.repeats ++ leBytes 4 r.stamp.toNat
    ++ leBytes 2 r.subjectA.toNat ++ leBytes 2 r.subjectB.toNat ++ leBytes 4 r.value.toNat

/-- The winner lane: bit 7 present, bits 2..0 the line; 0 while there is none (R23). -/
def winnerByte (lo : Lockout) : Nat :=
  match lo.winner with
  | some n => 0x80 + n
  | none => 0

/-- Late entry `j`; zero at and beyond the late list count (R23). -/
def lateBytes (lo : Lockout) (j : Nat) : List Byte :=
  match lo.late[j]? with
  | some (line, delay) => leBytes 1 line ++ leBytes 1 0 ++ leBytes 2 delay
  | none => leBytes 4 0

/-- Counter and running flag of timer `t`. -/
def timerBytes (s : State) (t : Nat) : List Byte :=
  leBytes 3 (timerOf s t).counter ++ leBytes 1 (bit (running (timerOf s t)))

/-- Bus `b`. -/
def busOf (s : State) (b : Nat) : Bus := bankGet s.buses b Bus.blank

/-- Block `i` of the Status Block as the part stands (R179). -/
def statusBytes (s : State) (i : Nat) : List Byte :=
  if i = 0 then
    leBytes 1 s.w.toNat ++ leBytes 1 s.clock.state.code ++ leBytes 2 s.lastSeq ++ leBytes 4 s.frameCounter.toNat
      ++ leBytes 1 s.lockout.state.code ++ leBytes 1 (winnerByte s.lockout) ++ leBytes 1 s.lockout.barred.toNat
      ++ leBytes 1 (penaltySet s) ++ leBytes 4 s.lockout.reaction
  else if i = 1 then
    leBytes 4 s.lockout.late.length ++ lateBytes s.lockout 0 ++ lateBytes s.lockout 1 ++ lateBytes s.lockout 2
  else if i = 2 then
    lateBytes s.lockout 3 ++ lateBytes s.lockout 4 ++ lateBytes s.lockout 5 ++ lateBytes s.lockout 6
  else if i = 3 then timerBytes s 0 ++ timerBytes s 1 ++ timerBytes s 2 ++ timerBytes s 3
  else if i = 4 then
    leBytes 2 (busOf s 0).duck ++ leBytes 2 (busOf s 1).duck ++ leBytes 2 (busOf s 2).duck ++ leBytes 2 (busOf s 3).duck
      ++ leBytes 2 (busOf s 0).clips ++ leBytes 2 (busOf s 1).clips ++ leBytes 2 (busOf s 2).clips
      ++ leBytes 2 (busOf s 3).clips
  else leBytes 16 0

/-- The head slot lane: bit 7 pinned, bits 2..0 the slot; zero for none (R23). -/
def headSlotByte (e : ClipEntry) : Nat :=
  match e.headSlot with
  | some k => 0x80 + k
  | none => 0

/-- A Directory mirror entry (R23, R63): an EMPTY entry all zero, a LOADING one with its capacity in the length field. -/
def mirrorBytes (e : ClipEntry) : List Byte :=
  match e.state with
  | .empty => leBytes 16 0
  | .loading =>
    leBytes 1 e.state.code ++ leBytes 1 e.channels ++ leBytes 1 0 ++ leBytes 1 e.uses ++ leBytes 4 e.base
      ++ leBytes 3 e.capacity ++ leBytes 1 (headSlotByte e) ++ leBytes 4 0
  | _ =>
    leBytes 1 e.state.code ++ leBytes 1 e.channels ++ leBytes 1 e.crcStatus.code ++ leBytes 1 e.uses ++ leBytes 4 e.base
      ++ leBytes 3 e.length ++ leBytes 1 (headSlotByte e) ++ leBytes 2 e.peak ++ leBytes 2 e.crc.toNat

/-- The Fo field of the Voice Board: the fall length while FALLING, the snapshot in every other state (R122). -/
def shownFo (x : Voice) : Nat := if x.state = .falling then x.fallLength else x.fo

/-- A Voice Board record of 64 bytes, with the frame counter at which it was taken (R178). -/
def boardBytes (x : Voice) (counter : BitVec 32) : List Byte :=
  leBytes 1 x.state.code ++ leBytes 1 x.cue ++ leBytes 1 x.clip
    ++ leBytes 1 (x.channels + 4 * x.source.code + 16 * x.mask.toNat)
    ++ leBytes 4 x.stamp.toNat
    ++ leBytes 1 x.priority ++ leBytes 1 x.choke ++ leBytes 1 x.role.code ++ leBytes 1 x.retrigger.code
    ++ leBytes 1 (bit x.headFlag + 2 * bit x.loop + 4 * bit x.tail) ++ leBytes 1 x.headSlot ++ leBytes 1 x.epoch.toNat
    ++ leBytes 1 (fill x)
    ++ leBytes 4 x.due ++ leBytes 4 x.effEnd ++ leBytes 4 x.ls ++ leBytes 4 x.le
    ++ leBytes 2 x.lc ++ leBytes 2 x.lt ++ leBytes 2 x.er ++ leBytes 2 x.lastEnv ++ leBytes 2 x.n ++ leBytes 2 x.m
    ++ leBytes 4 x.underruns ++ leBytes 4 x.fetchPos
    ++ leBytes 2 x.fi ++ leBytes 2 (shownFo x) ++ leBytes 4 counter.toNat ++ leBytes 4 x.lastEnd.code

/-- Quarter `q` of a record of 64 bytes. -/
def quarterOf (bytes : List Byte) (q : Nat) : List Byte := (bytes.drop (16 * q)).take 16

end Sys2Proof.Machine
end

