-- ==== Sys2Proof/Machine/Voices.lean ====
section
/-!
DEFINITION. The Voice Engine (chapters 5 and 8): the resolution of a cue's positions, fire processing, falls and ends,
releases, the panic release and level edits.
-/

namespace Sys2Proof.Machine

/-! ### Ends -/

/-- The value of CUE_END (R141). -/
def cueEndValue (x : Voice) (reason : EndReason) : Word :=
  BitVec.ofNat 32 (reason.code + 8 * bit x.sounded + 0x100 * x.clip + 0x10000 * x.underruns)

/-- Steps 1 to 5 of an end (R140); step 6, the follow fire, is the frame event's (R142). -/
def endVoice (v : Nat) (reason : EndReason) (s : State) : State :=
  let x := voiceOf s v
  let s1 := setVoice v { x with state := .idle, lastEnd := reason, boardFlag := true } s
  let s2 := emptyFifo v (leaveSlot v s1)
  lowerUse x.clip (raiseEvent .cueEnd x.cue v (cueEndValue x reason) s2)

/-- The record of a voice whose fall begins (R136). -/
def fallen (x : Voice) (len : Nat) (reason : EndReason) (er : Nat) : Voice :=
  { x with state := .falling, m := 1, er := er, lastEnv := er, fallLength := len, fallReason := reason, boardFlag := true }

/-- The envelope value a fall begins at: 4096 in STEADY, the last envelope in RISING (R136). -/
def fallStart (x : Voice) : Nat := if x.state = .steady then 4096 else x.lastEnv

/-- A cause other than tail fade reaches a RISING or STEADY voice (R136): a fall of length 0, and a cause that reaches a
RISING voice that has not yet output a frame, end it at once. -/
def beginFall (v len : Nat) (reason : EndReason) (s : State) : State :=
  let x := voiceOf s v
  if len = 0 ∨ (x.state = .rising ∧ x.sounded = false) then endVoice v reason s
  else setVoice v (fallen x len reason (fallStart x)) s

/-- How a release reaches one voice: `len` gives the fall length, `none` cuts (R138, R139). -/
def releaseVoice (len : Voice → Option Nat) (fallReason cutReason : EndReason) (v : Nat) (s : State) : State :=
  let x := voiceOf s v
  match len x with
  | none => if x.state = .idle then s else endVoice v cutReason s
  | some l =>
    match x.state with
    | .idle => s
    | .priming => endVoice v fallReason s
    | .rising => beginFall v l fallReason s
    | .steady => beginFall v l fallReason s
    | .falling => s

/-- Apply an operation to each voice that `p` holds of as the operation finds it, lowest voice first. -/
def eachVoice (p : Nat → Voice → Bool) (f : Nat → State → State) (s : State) : State :=
  (List.range 24).foldl (fun t v => if p v (voiceOf t v) then f v t else t) s

/-! ### Fire: resolution (section 5.4) -/

/-- What a fire's resolution gives (R84, R85). -/
structure Resolved where
  effEnd : Nat
  loop : Bool
  ls : Nat
  le : Nat
  level : Nat
  /-- the adjusted fields as a set (R88) -/
  adjusted : Nat
  deriving DecidableEq, Repr

/-- The effective end (R84). -/
def effectiveEnd (c : CueRecord) (len : Nat) : Nat := if c.stop = 0 then len else min c.stop len

/-- The resolved loop end (R85, step 1). -/
def loopEnd (c : CueRecord) (e : Nat) : Nat := if c.le = 0 then e else min c.le e

/-- The loop is kept (R85, steps 2 and 3). -/
def loopKept (c : CueRecord) (e : Nat) : Bool := c.loopEnable && decide (c.ls < loopEnd c e) && decide (c.start < loopEnd c e)

/-- The resolution of a cue against a clip length; `points` are the loop points shown where no loop is kept, which the manual does
not state (assumption 7). -/
def resolve (points : Nat × Nat) (c : CueRecord) (len : Nat) : Resolved :=
  let e := effectiveEnd c len
  let kept := loopKept c e
  { effEnd := e
    loop := kept
    ls := if kept then c.ls else points.1
    le := if kept then loopEnd c e else points.2
    level := min c.level 8192
    adjusted := (if 8192 < c.level then 1 else 0) + (if len < c.stop then 2 else 0)
      + (if c.loopEnable ∧ e < c.le then 4 else 0) + (if c.loopEnable ∧ kept = false then 8 else 0) }

/-! ### Fire: retrigger, choke, allocation -/

/-- The voice is PRIMING, RISING or STEADY. -/
def upright (x : Voice) : Bool := x.state == .priming || x.state == .rising || x.state == .steady

/-- Step 1 refuses an IGNORE cue that has an upright voice (R125). -/
def ignoreBlocks (s : State) (cue : Nat) (c : CueRecord) : Bool :=
  c.retrigger == .ignore && (List.range 24).any (fun v => (voiceOf s v).cue == cue && upright (voiceOf s v))

/-- Step 1 of fire processing: RESTART ends every voice of the cue (R125). -/
def retriggerStep (cue : Nat) (c : CueRecord) (s : State) : State :=
  if c.retrigger = .restart then
    eachVoice (fun _ x => x.cue == cue && x.state != .idle) (fun v => endVoice v .restarted) s
  else s

/-- What a choke does to one voice (R126). -/
def chokeVoice (v : Nat) (s : State) : State := releaseVoice (fun x => some x.fo) .choked .choked v s

/-- Step 2: choke (R126). -/
def chokeStep (cue : Nat) (c : CueRecord) (s : State) : State :=
  if c.choke = 0 then s
  else eachVoice (fun _ x => x.cue != cue && x.choke == c.choke && x.state != .idle) chokeVoice s

/-- Of `v` and `w`, the one a rank puts first; equals keep `v`. -/
def firstBy (less : Nat → Nat → Bool) (v w : Nat) : Nat := if less w v then w else v

/-- The first of a list by a rank; among equals the earlier in the list. -/
def bestOf (less : Nat → Nat → Bool) : List Nat → Option Nat
  | [] => none
  | v :: vs => some (vs.foldl (firstBy less) v)

/-- The age of a voice: the frame counter less its start stamp, modulo 2^32 (R127). -/
def age (s : State) (v : Nat) : Nat := (s.frameCounter - (voiceOf s v).stamp).toNat

/-- Tier 1: IDLE voices (R127). -/
def tier1 (s : State) : List Nat := indices 24 (fun v => (voiceOf s v).state == .idle)
/-- Tier 2: FALLING voices at or below the new priority. -/
def tier2 (s : State) (p : Nat) : List Nat :=
  indices 24 (fun v => (voiceOf s v).state == .falling && decide ((voiceOf s v).priority ≤ p))
/-- Tier 3: PRIMING, RISING and STEADY voices below the new priority. -/
def tier3 (s : State) (p : Nat) : List Nat :=
  indices 24 (fun v => upright (voiceOf s v) && decide ((voiceOf s v).priority < p))

/-- The order of tier 2: the lower last envelope first. -/
def tier2Less (s : State) (v w : Nat) : Bool := decide ((voiceOf s v).lastEnv < (voiceOf s w).lastEnv)
/-- The order of tier 3: the lower priority first, then the earlier start stamp. -/
def tier3Less (s : State) (v w : Nat) : Bool :=
  decide ((voiceOf s v).priority < (voiceOf s w).priority)
    || ((voiceOf s v).priority == (voiceOf s w).priority && decide (age s w < age s v))

/-- Step 3: the voice found, and whether it is stolen (R127). -/
def allocate (s : State) (p : Nat) : Option (Nat × Bool) :=
  match tier1 s with
  | v :: _ => some (v, false)
  | [] =>
    match bestOf (tier2Less s) (tier2 s p) with
    | some v => some (v, true)
    | none =>
      match bestOf (tier3Less s) (tier3 s p) with
      | some v => some (v, true)
      | none => none

/-! ### Fire: set-up -/

/-- The slot a fire of clip `c` gets head start from (R130). -/
def headStart (s : State) (c : CueRecord) (r : Resolved) : Option Nat :=
  match (clipOf s c.clip).headSlot with
  | none => none
  | some k =>
    let h := slotOf s k
    if h.state = .ready ∧ c.start < h.headLength ∧ (r.loop = false ∨ h.headLength < r.le) then some k else none

/-- A fire request as it comes to the Voice Engine. -/
structure Fire where
  source : Source
  /-- line or timer number; 0 for RING and FOLLOW -/
  number : Nat
  cue : Nat
  preview : Bool
  deriving DecidableEq, Repr

/-- The first state of an allocated voice (R129). -/
def firstState (head : Bool) (fi : Nat) : VoiceState := if head then (if 0 < fi then .rising else .steady) else .priming

/-- The record of an allocated voice (R129): the snapshot of R79 over the record `old` of the voice's last life. That its fall reason
is none before any fall is the model's choice (assumption 27). -/
def newVoice (s : State) (f : Fire) (c : CueRecord) (r : Resolved) (old : Voice) (head : Option Nat) : Voice :=
  { state := firstState head.isSome c.fi, cue := f.cue, clip := c.clip, channels := (clipOf s c.clip).channels,
    source := f.source, number := f.number, preview := f.preview, mask := if f.preview then 4#4 else c.mask,
    priority := c.priority, choke := c.choke, retrigger := c.retrigger, role := c.role, stamp := s.frameCounter,
    start := c.start, effEnd := r.effEnd, loop := r.loop, ls := r.ls, le := r.le, fi := c.fi, fo := c.fo, tail := c.tail,
    followOn := c.followOn, followCue := c.followCue, due := c.start, lc := r.level, lt := r.level, n := 0, m := 0, er := 0,
    fallLength := 0, fallReason := .none, lastEnv := 0, headFlag := head.isSome, headSlot := head.getD 0,
    sounded := false, fifo := [],
    fetchPos := match head with
      | some k => (slotOf s k).headLength
      | none => c.start,
    epoch := old.epoch + 1, inFlight := 0, underruns := 0, lastEnd := old.lastEnd, boardFlag := true }

/-- The value of CUE_START (R131). -/
def cueStartValue (f : Fire) (clip : Nat) (head : Bool) : Word :=
  BitVec.ofNat 32 (f.source.code + 4 * bit f.preview + 8 * bit head + 0x100 * f.number + 0x10000 * clip)

/-- The readers of the head slot rise by 1 (R70). -/
def joinSlot (head : Option Nat) (s : State) : State :=
  match head with
  | some k => setSlot k { slotOf s k with readers := (slotOf s k).readers + 1 } s
  | none => s

/-- Step 4: set-up of voice `v`, CUE_ADJUSTED and CUE_START (R129 to R131, R88). -/
def setUp (f : Fire) (c : CueRecord) (r : Resolved) (v : Nat) (s : State) : State :=
  let head := headStart s c r
  let s1 := staleBurst v (setVoice v (newVoice s f c r (voiceOf s v) head) s)
  let s2 := joinSlot head (raiseUse c.clip s1)
  let s3 := if r.adjusted = 0 then s2 else raiseEvent .cueAdjusted f.cue v (BitVec.ofNat 32 r.adjusted) s2
  raiseEvent .cueStart f.cue v (cueStartValue f c.clip head.isSome) s3

/-! ### Fire: the whole -/

/-- The checks at fire (R82): the first that fails gives the refusal. -/
def fireChecks (f : Fire) (c : CueRecord) (s : State) : Option ResultCode :=
  let e := clipOf s c.clip
  if panicAsserted s then some .panicHeld
  else if c.armed = false then some .cueNotArmed
  else if e.state ≠ .ready then some .clipNotReady
  else if effectiveEnd c e.length ≤ c.start then some .cueRange
  else if f.preview = false ∧ c.mask = 0 then some .noRoute
  else none

/-- One free value has been drawn (assumption 7). -/
def drawOne (s : State) : State := { s with draws := s.draws + 1 }

/-- Fire processing (R124): the state it leaves and its code. -/
def processFire (f : Fire) (s : State) : State × ResultCode :=
  let c := cueRecord s.shadow f.cue
  match fireChecks f c s with
  | some code => (s, code)
  | none =>
    if ignoreBlocks s f.cue c then (s, .alreadyPlaying)
    else
      let r := resolve (Config.noLoopPoints s.draws) c (clipOf s c.clip).length
      let s1 := chokeStep f.cue c (retriggerStep f.cue c s)
      match allocate s1 c.priority with
      | none => (s1, .noVoice)
      | some (v, steal) => (setUp f c r v (if steal then endVoice v .stolen (drawOne s1) else drawOne s1), .done)

/-- A LINE, TIMER or FOLLOW fire: a refusal raises CUE_REFUSED (R83). -/
def fireReported (f : Fire) (s : State) : State :=
  let (s', code) := processFire f s
  if code = .done then s'
  else raiseEvent .cueRefused f.cue (f.source.code + 0x100 * f.number) (BitVec.ofNat 32 code.code) s'

/-- A fire from line `n` of `cue` (R105). -/
def lineFire (n cue : Nat) : State → State := fireReported ⟨.line, n, cue, false⟩
/-- A fire from timer `t` of `cue` (R121). -/
def timerFire (t cue : Nat) : State → State := fireReported ⟨.timer, t, cue, false⟩
/-- A follow fire of `cue` (R142). -/
def followFire (cue : Nat) : State → State := fireReported ⟨.follow, 0, cue, false⟩

/-! ### Releases -/

/-- The release a MOMENTARY line hands over: scope CUE, mode FADE (R105). -/
def releaseCueFade (cue : Nat) (s : State) : State :=
  eachVoice (fun _ x => x.cue == cue) (releaseVoice (fun x => some x.fo) .released .cut) s

/-- The voices in the scope of a RELEASE command (R138). -/
def inScope (scope number v : Nat) (x : Voice) : Bool :=
  if scope = 0 then x.cue == number
  else if scope = 1 then x.choke == number
  else if scope = 2 then v == number
  else true

/-- The fall length a RELEASE gives a voice by its mode; a CUT gives none (R138). -/
def releaseLength (mode length : Nat) (x : Voice) : Option Nat :=
  if mode = 1 then none else if mode = 2 then some length else some x.fo

/-- The RELEASE command (R138). -/
def releaseScope (scope number mode length : Nat) (s : State) : State :=
  eachVoice (inScope scope number) (releaseVoice (releaseLength mode length) .released .cut) s

/-- The panic release (R139). -/
def panicRelease (fade : Nat) (s : State) : State :=
  eachVoice (fun _ _ => true) (releaseVoice (fun _ => if fade = 0 then none else some fade) .panic .panic) s

/-- A change of a cue's level sets the target level of every voice of the cue that is not IDLE (R81). -/
def levelEdit (cue level : Nat) (s : State) : State :=
  eachVoice (fun _ x => x.cue == cue && x.state != .idle)
    (fun v t => setVoice v { voiceOf t v with lt := min level 8192 } t) s

end Sys2Proof.Machine
end

