-- ==== Sys2Proof/Machine/Fetch.lean ====
section
/-!
DEFINITION. The Fetcher (chapter 9) and the head fills of the Head Store: the request presented, the fixing of a burst at its
grant, its landing, and priming.
-/

namespace Sys2Proof.Machine

/-- The order of the fetch arbiter (R146): urgency, then fill plus flight; the voice number decides ties. -/
def fetchLess (s : State) (v w : Nat) : Bool :=
  let x := voiceOf s v
  let y := voiceOf s w
  if urgent x = urgent y then decide (fill x + x.inFlight < fill y + y.inFlight) else urgent x

/-- The voices that request a burst. -/
def requesters (s : State) : List Nat := indices 24 (fun v => requests (voiceOf s v))

/-- What the Fetcher presents (R146, R147). -/
inductive FetchRequest where
  | voice (v : Nat)
  | fill (slot : Nat)
  deriving DecidableEq, Repr

/-- The request presented: the voice that stands first, or else the head fill burst on offer. -/
def fetchRequest (s : State) : Option FetchRequest :=
  match bestOf (fetchLess s) (requesters s) with
  | some v => some (.voice v)
  | none => s.offer.map .fill

/-- The request is for an urgent voice (R15). -/
def fetchUrgent (s : State) : Bool :=
  match fetchRequest s with
  | some (.voice v) => urgent (voiceOf s v)
  | _ => false

/-- A head fill burst is on the port. -/
def fillInFlight (s : State) : Bool :=
  match s.port with
  | some (.fill _) => true
  | _ => false

/-- Slot `k` is FILLING. -/
def slotFilling (s : State) (k : Nat) : Bool := (slotOf s k).state == .filling

/-- The Head Store's offer as it stands (R69): an offer stands until it is granted or withdrawn; the next is made, of the
lowest-numbered FILLING slot, when none is on offer or on the port. -/
def refreshOffer (s : State) : State :=
  let kept := match s.offer with
    | some k => slotFilling s k
    | none => false
  if kept then s
  else if fillInFlight s then { s with offer := none }
  else { s with offer := (indices 8 (slotFilling s)).head? }

/-- Where a voice's fetching stops (R148). -/
def fetchLimit (x : Voice) : Nat := if x.loop then x.le else x.effEnd

/-- Frames of a voice's next burst (R148). -/
def burstLength (x : Voice) : Nat := min Config.burstFrames (fetchLimit x - x.fetchPos)

/-- A position after `n` more frames, wrapped at the loop end (R148, R133). -/
def wrapPos (x : Voice) (p : Nat) : Nat := if x.loop ∧ p = x.le then x.ls else p

/-- The burst of voice `v` is fixed at its grant (R148). -/
def grantVoice (v : Nat) (s : State) : State :=
  let x := voiceOf s v
  let e := clipOf s x.clip
  let n := burstLength x
  let s' := setVoice v { x with inFlight := n, fetchPos := wrapPos x (x.fetchPos + n) } s
  { s' with port := some (.burst ⟨v, x.epoch, x.fetchPos, n, e.base + x.fetchPos * e.channels * 2, e.channels, false⟩) }

/-- The head fill burst of slot `k` is granted (R69). -/
def grantFill (k : Nat) (s : State) : State :=
  let h := slotOf s k
  let e := clipOf s h.clip
  let n := min Config.burstFrames (h.headLength - h.fillPos)
  { s with offer := none, port := some (.fill ⟨k, n, e.base + h.fillPos * e.channels * 2, e.channels, false⟩) }

/-- Frame `i` of a burst read from `addr`; a mono sample stands on both sides (R16, R160). -/
def frameAt (m : Cells) (addr channels i : Nat) : Frame :=
  let a := addr + i * channels * 2
  ⟨readHalf m a, if channels = 2 then readHalf m (a + 2) else readHalf m a⟩

/-- The frames of a burst, as memory holds them when its access ends. -/
def framesAt (m : Cells) (addr channels n : Nat) : List Frame := (List.range n).map (frameAt m addr channels)

/-- The FIFO holds enough for a PRIMING voice to leave PRIMING (R132). -/
def primed (x : Voice) : Bool :=
  decide (Config.burstFrames ≤ fill x) || (x.loop == false && decide (x.effEnd ≤ x.due + fill x))

/-- A PRIMING voice leaves PRIMING (R132). -/
def leavePriming (x : Voice) : Voice :=
  if x.state = .priming ∧ primed x = true then
    { x with state := if 0 < x.fi then .rising else .steady, n := 0, boardFlag := true }
  else x

/-- The entries a burst adds, each with its position and epoch (R149). -/
def burstEntries (m : Cells) (b : Burst) : List FifoEntry :=
  (List.range b.frames).map (fun i => ⟨frameAt m b.addr b.channels i, b.start + i, b.epoch⟩)

/-- A burst is accepted when its voice is not IDLE, it carries the current epoch and it is not stale (R149). -/
def burstAccepted (b : Burst) (s : State) : Bool :=
  !b.stale && (voiceOf s b.voice).state != .idle && (voiceOf s b.voice).epoch == b.epoch

/-- A voice's burst lands (R149). -/
def landBurst (b : Burst) (s : State) : State :=
  if burstAccepted b s then
    let x := voiceOf s b.voice
    setVoice b.voice (leavePriming { x with fifo := x.fifo ++ burstEntries s.mem b, inFlight := 0 }) s
  else s

/-- A head fill burst lands (R69). -/
def landFill (b : FillBurst) (s : State) : State :=
  let h := slotOf s b.slot
  if b.stale = false ∧ h.state = .filling then
    let h' := { h with frames := h.frames ++ framesAt s.mem b.addr b.channels b.frames, fillPos := h.fillPos + b.frames }
    if h.headLength ≤ h'.fillPos then
      raiseEvent .pinDone h.clip b.slot (BitVec.ofNat 32 h.headLength) (setSlot b.slot { h' with state := .ready } s)
    else setSlot b.slot h' s
  else s

end Sys2Proof.Machine
end

