-- ==== Sys2Proof/Machine/Arbiter.lean ====
section
/-!
DEFINITION. The memory-port arbiter (section 1.3): the four requesters, their places, the order of the Report Writer's writes
(R177), the sweep's writes (R34), and the grant.
-/

namespace Sys2Proof.Machine

/-! ### The Report Writer's choice (R177) -/

/-- The ring has room (R175). -/
def ringHasRoom (s : State) : Bool := decide (s.w + 1 ≠ rd s.shadow)

/-- There is an event write to present (R175). -/
def eventReady (s : State) : Bool := !s.queue.isEmpty && ringHasRoom s

/-- The queue is long enough for place 3 (R15). -/
def queuePressing (s : State) : Bool := decide (Config.queueUrgent ≤ s.queue.length)

/-- The pending write-back at the lowest offset. -/
def lowestWriteBack (s : State) : Option Nat := (s.writeBacks.map WriteBack.off).min?

/-- The lowest marked block of the Status Block. -/
def lowestMark (s : State) : Option Nat := (indices 5 (fun i => bankGet s.marks i false)).head?

/-- The lowest flagged Directory mirror entry. -/
def lowestMirror (s : State) : Option Nat := (indices 128 (fun c => bankGet s.mirrorFlags c false)).head?

/-- The quarter of a voice record to write next (R178). -/
def boardWrite (s : State) : Option ReportKind :=
  match s.boardCopy with
  | some c => some (.board c.voice c.next)
  | none => ((indices 24 (fun v => (voiceOf s v).boardFlag)).head?).map (fun v => .board v 0)

/-- The write the Report Writer presents; none while the sweep runs (R35). -/
def reportRequest (s : State) : Option ReportKind :=
  if s.sweep.isSome then none
  else if eventReady s && queuePressing s then some .event
  else match s.results with
    | r :: _ => some (.result r.1)
    | [] =>
      match lowestWriteBack s with
      | some off => some (.clamp off)
      | none =>
        if eventReady s then some .event
        else match lowestMark s with
          | some i => some (.status i)
          | none =>
            match lowestMirror s with
            | some c => some (.mirror c)
            | none => boardWrite s

/-- The pending write-back of the field at `off`. -/
def writeBackAt (s : State) (off : Nat) : Option WriteBack := s.writeBacks.find? (fun b => b.off == off)

/-- The value a write-back carries: for Rd, W as it stands when it is performed (R29). -/
def writeBackValue (s : State) (b : WriteBack) : Nat := if b.off = 0x04 then s.w.toNat else b.value

/-- Offset and bytes of a report write, as the part stands at its grant. -/
def reportBytes (s : State) : ReportKind → Nat × List Byte
  | .event => (eventBase + 16 * s.w.toNat, (s.queue.head?.map eventBytes).getD [])
  | .result k => (slotOffset k + 3, ((s.results.find? (fun r => r.1 == k)).map (fun r => leBytes 1 r.2.code)).getD [])
  | .clamp off => (off, ((writeBackAt s off).map (fun b => leBytes b.width (writeBackValue s b))).getD [])
  | .status i => (statusBase + 16 * i, statusBytes s i)
  | .mirror c => (mirrorBase + 16 * c, mirrorBytes (clipOf s c))
  | .board v q =>
    (boardBase + 0x40 * v + 16 * q,
      quarterOf ((s.boardCopy.map BoardCopy.bytes).getD (boardBytes (voiceOf s v) s.frameCounter)) q)

/-- What the Report Writer clears or copies at a grant (R178, R179); a mirror flag stands until its write ends (R63). A write-back
leaves the list at its grant, so that one handed over while it is on the port stands for itself (R29). -/
def reportTaken (k : ReportKind) (s : State) : State :=
  match k with
  | .clamp off => { s with writeBacks := s.writeBacks.filter (fun b => b.off != off) }
  | .status i => { s with marks := bankSet s.marks i false }
  | .mirror _ => { s with mirrorAgain := false }
  | .board v 0 =>
    setVoice v { voiceOf s v with boardFlag := false }
      { s with boardCopy := some ⟨v, 0, boardBytes (voiceOf s v) s.frameCounter⟩ }
  | _ => s

/-- A report write is granted the port. -/
def grantReport (k : ReportKind) (s : State) : State :=
  let (off, bytes) := reportBytes s k
  { reportTaken k s with port := some (.report k (regionAddr s off) bytes false) }

/-! ### The sweep's writes (R34) -/

/-- The clips whose mirror entries the sweep rewrites, lowest number first. -/
def keptClips (s : State) : List Nat := indices 128 (fun c => (clipOf s c).state != .empty)

/-- Blocks 1 to 7 of R34 with the Cue Deck left out or not: first offset and count. -/
def sweepRuns (deckClear : Bool) : List (Nat × Nat) :=
  [(0, 16), (ringBase, 64)] ++ (if deckClear then [(deckBase, 1024)] else [])
    ++ [(boardBase, 96), (statusBase, 16), (mirrorBase, 128), (eventBase, 256)]

/-- Write `i` within the runs: the offset of its block, or how far beyond the runs it lies. -/
def runOffset : List (Nat × Nat) → Nat → Nat ⊕ Nat
  | [], i => .inr i
  | (off, n) :: rs, i => if i < n then .inl (off + 16 * i) else runOffset rs (i - n)

/-- Write `i` of the sweep: offset and bytes; none beyond the last. -/
def sweepBlock (s : State) (i : Nat) : Option (Nat × List Byte) :=
  match runOffset (sweepRuns s.deckClear) i with
  | .inl off => some (off, readBytes (if off < 0x100 then defaultSetup s.crb else []) off 16)
  | .inr j => (keptClips s)[j]?.map (fun c => (mirrorBase + 16 * c, mirrorBytes (clipOf s c)))

/-- The sweep's next write is granted the port. -/
def grantSweep (i : Nat) (s : State) : State :=
  match sweepBlock s i with
  | some (off, bytes) => { s with port := some (.sweep (regionAddr s off) bytes false) }
  | none => s

/-! ### The grant (R15) -/

/-- The requesters of the memory port. -/
inductive Requester where
  | sweep (i : Nat)
  | fetcher (r : FetchRequest)
  | report (k : ReportKind)
  | controller
  deriving DecidableEq, Repr

/-- The held access has a memory access to perform. -/
def controllerRequests (s : State) : Bool :=
  match s.held with
  | some ⟨_, some _⟩ => true
  | _ => false

/-- The requests present, best place first (R15). -/
def requestsPresent (s : State) : List Requester :=
  (s.sweep.map Requester.sweep).toList
    ++ (if fetchUrgent s then (fetchRequest s).map Requester.fetcher else none).toList
    ++ (if queuePressing s then (reportRequest s).map Requester.report else none).toList
    ++ (if controllerRequests s then [.controller] else [])
    ++ (if fetchUrgent s then none else (fetchRequest s).map Requester.fetcher).toList
    ++ (if queuePressing s then none else (reportRequest s).map Requester.report).toList

/-- Grant the port to a request. -/
def grant (r : Requester) (s : State) : State :=
  match r with
  | .sweep i => grantSweep i s
  | .fetcher (.voice v) => grantVoice v s
  | .fetcher (.fill k) => grantFill k s
  | .report k => grantReport k s
  | .controller => { s with port := some .controller }

/-- A request of the sweep. -/
def isSweep : Requester → Bool
  | .sweep _ => true
  | _ => false

/-- The request granted: the first present; after a sweep access the sweep stands aside where another is present (R18). -/
def chosen (aside : Bool) (rs : List Requester) : Option Requester :=
  match (if aside then rs.filter (fun r => !isSweep r) else []) with
  | r :: _ => some r
  | [] => rs.head?

/-- Grant the port if it is free, RST# is not asserted and a request is present (R15, R20). -/
def arbitrateAside (aside : Bool) (s : State) : State :=
  let s := refreshOffer s
  if s.port.isSome || s.rst then s
  else match chosen aside (requestsPresent s) with
    | some r => grant r s
    | none => s

/-- The grant that follows each step. -/
def arbitrate (s : State) : State := arbitrateAside false s

end Sys2Proof.Machine
end

