-- ==== Sys2Proof/Machine/Load.lean ====
section
/-!
DEFINITION. The Load Converter (chapter 3): the packings and their arithmetic, the translation of window offsets, the verdicts,
the running totals, verify reads, and the opening and closing of a session; with them CLIP_DISCARD, PIN and UNPIN of the Clip
Directory and the Head Store (chapter 4).
-/

namespace Sys2Proof.Machine

/-! ### Packings (section 3.2) -/

/-- The packing of a code; codes above 3 are refused before this is asked (R41). -/
def packingOfCode (n : Nat) : Packing := if n = 0 then .p16 else if n = 1 then .p24l else if n = 2 then .p12r else .pu8

/-- Bytes of the Load Window that one incoming sample occupies. -/
def sampleBytes : Packing → Nat
  | .p16 => 2
  | .p24l => 4
  | .p12r => 2
  | .pu8 => 1

/-- First lanes of the sample positions of a word, lowest first. -/
def positions : Packing → List Nat
  | .p16 => [0, 2]
  | .p24l => [0]
  | .p12r => [0, 2]
  | .pu8 => [0, 1, 2, 3]

/-- P24L: floor((v + 128) / 256), 32767 where it would be 32768 (R48). -/
def roundP24 (v : Int) : Int := min 32767 ((v + 128) / 256)

/-- The stored sample of the incoming sample whose first lane is `i` (R47 to R49). -/
def storedSample (p : Packing) (w : Word) (i : Nat) : Half :=
  match p with
  | .p16 => w.extractLsb' (8 * i) 16
  | .p24l => BitVec.ofInt 16 (roundP24 (w.extractLsb' 8 24).toInt)
  | .p12r => BitVec.ofInt 16 ((w.extractLsb' (8 * i) 12).toInt * 16)
  | .pu8 => BitVec.ofInt 16 (((laneOf w i).toNat - 128 : Int) * 256)

/-- What a verify read returns for a stored sample, at lane 0 (R55). -/
def returnedSample (p : Packing) (s : Half) : Word :=
  match p with
  | .p16 => BitVec.setWidth 32 s
  | .p24l => BitVec.ofInt 32 (s.toInt * 65536)
  | .p12r => BitVec.setWidth 32 (BitVec.ofInt 16 (s.toInt / 16))
  | .pu8 => BitVec.setWidth 32 (BitVec.ofInt 8 (s.toInt / 256 + 128))

/-! ### Translation (R50) -/

/-- Bytes per incoming frame, F. -/
def frameBytes (p : Packing) (channels : Nat) : Nat := sampleBytes p * channels

/-- The frame of the sample at window offset `o`. -/
def frameOf (p : Packing) (channels o : Nat) : Nat := o / frameBytes p channels

/-- The channel of the sample at window offset `o`. -/
def channelOf (p : Packing) (channels o : Nat) : Nat := (o % frameBytes p channels) / sampleBytes p

/-- Where the sample at window offset `o` is stored. -/
def storedAddr (p : Packing) (channels base o : Nat) : Nat :=
  base + (frameOf p channels o * channels + channelOf p channels o) * 2

/-! ### Verdicts (R52, R53) -/

/-- The enabled lanes do not cover whole samples (R52). -/
def isPartial (p : Packing) (lanes : Lanes) : Bool :=
  match p with
  | .p24l => lanes != 0xF
  | .pu8 => false
  | _ => lanes.getLsbD 0 != lanes.getLsbD 1 || lanes.getLsbD 2 != lanes.getLsbD 3

/-- The sample positions a write enables. -/
def enabledPositions (p : Packing) (lanes : Lanes) : List Nat := (positions p).filter (fun i => lanes.getLsbD i)

/-- A sample in the enabled lanes lies at or beyond the capacity (R53); `off` is the word's window offset. -/
def outOfRange (se : Session) (off : Nat) (lanes : Lanes) : Bool :=
  (enabledPositions se.packing lanes).any (fun i => decide (se.capacity ≤ frameOf se.packing se.channels (off + i)))

/-! ### Running totals (R57 to R60) -/

/-- One of the eight shifts of the CRC (R60). -/
def crcShift (c : Half) : Half := if c.msb then (c <<< 1) ^^^ 0x1021 else c <<< 1

/-- The CRC register after one byte (R60). -/
def crcByte (c : Half) (b : Byte) : Half :=
  crcShift (crcShift (crcShift (crcShift (crcShift (crcShift (crcShift (crcShift (c ^^^ (b ++ 0#8)))))))))

/-- The CRC register after one stored sample, low byte first (R60). -/
def crcSample (c : Half) (s : Half) : Half := crcByte (crcByte c (s.extractLsb' 0 8)) (s.extractLsb' 8 8)

/-- The magnitude of a sample; that of −32768 is 32768 (R58). -/
def magnitude (s : Half) : Nat := s.toInt.natAbs

/-- The session after one stored sample of frame `f` (R57, R58, R60). -/
def countSample (se : Session) (f : Nat) (s : Half) : Session :=
  { se with
    highest := some (max f (se.highest.getD 0))
    peak := max se.peak (magnitude s)
    crc := crcSample se.crc s }

/-- Lowest enabled lane; 4 where none is. -/
def lowLane (lanes : Lanes) : Nat :=
  if lanes.getLsbD 0 then 0 else if lanes.getLsbD 1 then 1 else if lanes.getLsbD 2 then 2 else if lanes.getLsbD 3 then 3 else 4

/-- Highest enabled lane; 0 where none is. -/
def highLane (lanes : Lanes) : Nat :=
  if lanes.getLsbD 3 then 3 else if lanes.getLsbD 2 then 2 else if lanes.getLsbD 1 then 1 else 0

/-- The enabled lanes are contiguous. -/
def contiguous (lanes : Lanes) : Bool :=
  (List.range 4).all (fun i => !(decide (lowLane lanes ≤ i) && decide (i ≤ highLane lanes)) || lanes.getLsbD i)

/-- The order flag and the next offset after an accepted write (R59). -/
def countOrder (se : Session) (off : Nat) (lanes : Lanes) : Session :=
  { se with
    orderGood := se.orderGood && contiguous lanes && off + lowLane lanes == se.nextOffset
    nextOffset := off + highLane lanes + 1 }

/-- The session after an accepted write (R57). -/
def countWrite (se : Session) (off : Nat) (lanes : Lanes) (data : Word) : Session :=
  countOrder
    ((enabledPositions se.packing lanes).foldl
      (fun t i => countSample t (frameOf se.packing se.channels (off + i)) (storedSample se.packing data i)) se)
    off lanes

/-! ### The memory writes of a converted write (R51) -/

/-- The memory write of one stored halfword. -/
def halfAt (a : Nat) (s : Half) : HalfWrite :=
  if a % 4 = 0 then ⟨a, 3#4, BitVec.setWidth 32 s⟩ else ⟨a - 2, 12#4, s ++ 0#16⟩

/-- Join a halfword to the memory writes so far: into the last of them where it lies in the same word. -/
def joinHalf (ws : List HalfWrite) (h : HalfWrite) : List HalfWrite :=
  match ws with
  | [] => [h]
  | [w] => if w.addr = h.addr then [⟨w.addr, w.lanes ||| h.lanes, w.data ||| h.data⟩] else [w, h]
  | w :: ws => w :: joinHalf ws h

/-- The memory writes of an accepted write, lower address first. -/
def halfWrites (se : Session) (off : Nat) (lanes : Lanes) (data : Word) : List HalfWrite :=
  (enabledPositions se.packing lanes).foldl
    (fun ws i => joinHalf ws (halfAt (storedAddr se.packing se.channels se.base (off + i)) (storedSample se.packing data i))) []

/-! ### Verify reads (R55, R56) -/

/-- Positions of the word read whose frame lies below the capacity. -/
def coveredPositions (j : VerifyJob) : List Nat :=
  (positions j.packing).filter (fun i => decide (frameOf j.packing j.channels (j.offset + i) < j.capacity))

/-- The aligned word a position is stored in. -/
def wordOf (a : Nat) : Nat := a / 4 * 4

/-- The memory words a verify read needs (R56), in the order they are read: lowest first is the model's choice where a PU8 read needs
two (assumption 28). -/
def verifyWords (j : VerifyJob) : List Nat :=
  ((coveredPositions j).map (fun i => wordOf (storedAddr j.packing j.channels j.base (j.offset + i)))).eraseDups

/-- A verify read as it begins. -/
def verifyJob (se : Session) (off : Nat) : VerifyJob :=
  let j : VerifyJob := ⟨se.packing, se.channels, se.base, se.capacity, off, [], []⟩
  { j with todo := verifyWords j }

/-- What one position of a verify read returns, in its place in the word; zero where its word was not read (R20). -/
def verifyPosition (j : VerifyJob) (i : Nat) : Word :=
  let a := storedAddr j.packing j.channels j.base (j.offset + i)
  match j.got.find? (fun g => g.1 == wordOf a) with
  | some (_, w) => returnedSample j.packing (w.extractLsb' (8 * (a % 4)) 16) <<< (8 * i)
  | none => 0

/-- The word a verify read returns (R55). -/
def verifyWord (j : VerifyJob) : Word := (coveredPositions j).foldl (fun w i => w ||| verifyPosition j i) 0

/-! ### Load commands (section 3.1) -/

/-- A LOAD_OPEN's arguments fail (R41). -/
def loadOpenBad (a : CommandArgs) : Bool :=
  decide (127 < a.b0) || decide (3 < a.b1) || (a.b2 != 1 && a.b2 != 2) || a.w3 == 0 || decide (Config.maxFrames < a.w3)
    || a.w2 % 0x400 != 0 || decide (Config.memoryEnd < a.w2 + a.w3 * a.b2 * 2)

/-- A byte range meets the extent of an entry. -/
def meetsExtent (range : Nat × Nat) (e : ClipEntry) : Bool := (extentOf e).any (rangesMeet range)

/-- A byte range meets the extent of a clip entry other than `skip`'s that is not EMPTY. -/
def meetsOtherClip (s : State) (range : Nat × Nat) (skip : Nat) : Bool :=
  (List.range 128).any (fun c => c != skip && meetsExtent range (clipOf s c))

/-- LOAD_OPEN, past its argument checks (R41, R42). -/
def loadOpenBody (a : CommandArgs) (s : State) : State × ResultCode :=
  let e := clipOf s a.b0
  let range := (a.w2, a.w2 + a.w3 * a.b2 * 2)
  if s.session.isSome then (s, .loadBusy)
  else if e.state = .retiring ∨ 0 < e.uses then (s, .clipBusy)
  else if rangesMeet range (regionRange s.crb) || rangesMeet range (windowRange (lwb s.shadow)) || meetsOtherClip s range a.b0 then
    (s, .loadOverlap)
  else
    let s1 := match e.headSlot with
      | some k => freeSlot k s
      | none => s
    let s2 := setClip a.b0 ⟨.loading, a.b2, a.w2, a.w3, 0, 0, 0, .notChecked, 0, none⟩ s1
    ({ s2 with session := some ⟨a.b0, packingOfCode a.b1, a.b2, a.w2, a.w3, none, 0, 0xFFFF, true, 0⟩ }, .done)

/-- CRC status and state at a close (R44). -/
def closeStatus (check orderGood : Bool) (crc expected : Half) : CrcStatus :=
  if check = false then .notChecked else if orderGood = false then .order else if crc = expected then .matched else .mismatch

/-- The state an entry takes from its CRC status (R44). -/
def closeState : CrcStatus → ClipState
  | .notChecked => .ready
  | .matched => .ready
  | .mismatch => .faulty
  | .order => .faulty

/-- LOAD_CLOSE (R43, R44). The entry's capacity, which has a meaning in LOADING only (R61), becomes 0: the model's choice
(assumption 29). -/
def loadCloseBody (a : CommandArgs) (s : State) : State × ResultCode :=
  match s.session with
  | none => (s, .noLoad)
  | some se =>
    match se.highest with
    | none => (s, .loadEmpty)
    | some f =>
      let st := closeStatus (a.b0 % 2 == 1) se.orderGood se.crc (BitVec.ofNat 16 a.w2)
      let s1 := setClip se.clip ⟨closeState st, se.channels, se.base, 0, f + 1, se.peak, se.crc, st, 0, none⟩ s
      (raiseEvent .loadDone se.clip st.code (BitVec.ofNat 32 (f + 1)) { s1 with session := none }, .done)

/-- LOAD_ABORT (R45). -/
def loadAbortBody (s : State) : State × ResultCode :=
  match s.session with
  | none => (s, .noLoad)
  | some se => (setClip se.clip ClipEntry.blank { s with session := none }, .done)

/-! ### Directory and head commands (chapter 4) -/

/-- CLIP_DISCARD of clip `c` (R65). -/
def clipDiscardBody (c : Nat) (s : State) : State × ResultCode :=
  let e := clipOf s c
  match e.state with
  | .empty => (s, .done)
  | .retiring => (s, .done)
  | .loading => (s, .loadBusy)
  | _ =>
    if e.uses = 0 then (setClip c ClipEntry.blank (unpinClip c s), .done)
    else
      let s1 := unpinClip c s
      (setClip c { clipOf s1 c with state := .retiring } s1, .done)

/-- PIN of clip `c` (R68). -/
def pinBody (c : Nat) (s : State) : State × ResultCode :=
  let e := clipOf s c
  if e.state ≠ .ready then (s, .clipNotReady)
  else if e.headSlot.isSome then (s, .alreadyPinned)
  else match (indices 8 (fun k => (slotOf s k).state == .free)).head? with
    | none => (s, .headFull)
    | some k =>
      (setClip c { e with headSlot := some k }
        (setSlot k ⟨.filling, c, min Config.headFrames e.length, 0, 0, []⟩ s), .done)

/-- UNPIN of clip `c` (R71). -/
def unpinBody (c : Nat) (s : State) : State × ResultCode :=
  let e := clipOf s c
  if e.state = .ready ∨ e.state = .retiring then
    match e.headSlot with
    | none => (s, .notPinned)
    | some k => (unpinSlot k s, .done)
  else (s, .notPinned)

end Sys2Proof.Machine
end

