-- ==== Sys2Proof/Machine/Elapse.lean ====
section
/-!
DEFINITION. The passing of time, in reference periods: 120 of them are a line unit (R1), and each timer counts its own from its
start (assumption 5). Nothing expires in the passing of time itself: time passes up to the next expiry and no further, and an
expiry whose time has come stands due until it is taken, so that an edge or another expiry of the same moment may be taken first
(R102, R113, R168).
-/

namespace Sys2Proof.Machine

/-- The line's filter timer counts. -/
def filterCounts (l : Line) : Bool := l.filter == .pressing || l.filter == .releasing

/-- A line after `d` reference periods: its filter timer and its penalty fall (R102, R113). -/
def lineAfter (d : Nat) (l : Line) : Line :=
  { l with
    timer := if filterCounts l then l.timer - d else l.timer
    penalty := l.penalty.map (fun p => p - d) }

/-- The lockout's clocks after `d` reference periods (R109): the arm clock counts while ARMED or LOCKED, up to FFFFFFFFh line
units, the win clock while LOCKED, up to 65535. -/
def lockoutAfter (d : Nat) (lo : Lockout) : Lockout :=
  { lo with
    armClock := if lo.state = .unlocked then lo.armClock else satAdd (0xFFFFFFFF * Config.lineUnit) lo.armClock d
    winClock := if lo.state = .locked then satAdd (65535 * Config.lineUnit) lo.winClock d else lo.winClock }

/-- The Frame Clock's timers after `d` reference periods (R166). -/
def clockAfter (d : Nat) (c : FrameClock) : FrameClock :=
  { c with
    frameTimer := c.frameTimer - d
    gap := if c.state = .relocking then c.gap - d else c.gap }

/-- `d` reference periods pass. -/
def elapse (d : Nat) (s : State) : State :=
  { s with
    lines := s.lines.map (lineAfter d)
    lockout := lockoutAfter d s.lockout
    clock := clockAfter d s.clock }

/-- What the filter timer of line `n` has left, where it counts; none counts while RST# is asserted (R103). -/
def filterLeft (s : State) (n : Nat) : Option Nat :=
  if filterCounts (lineOf s n) && !s.rst then some (lineOf s n).timer else none

/-- What the relock gap timer has left, where it runs (R166). -/
def gapLeft (s : State) : Option Nat := if s.clock.state = .relocking then some s.clock.gap else none

/-- The reference periods left to each timer that runs. -/
def timesLeft (s : State) : List Nat :=
  (List.range 10).filterMap (filterLeft s) ++ (List.range 8).filterMap (fun n => (lineOf s n).penalty)
    ++ s.clock.frameTimer :: (gapLeft s).toList

/-- `d` reference periods can pass before the next step: no timer runs out sooner (assumption 4). -/
def mayPass (d : Nat) (s : State) : Bool := (timesLeft s).all (fun l => decide (d ≤ l))

end Sys2Proof.Machine
end

