-- ==== Sys2Proof/Machine/Lines.lean ====
section
/-!
DEFINITION. The Lines block (chapter 7): line filters, line modes, PANIC, the lockout and the cue timers.
-/

namespace Sys2Proof.Machine

/-- Apply an operation to each of the four timers, lowest first. -/
def eachTimer (f : Nat → State → State) (s : State) : State := (List.range 4).foldl (fun t i => f i t) s

/-! ### Cue timers (section 7.5) -/

/-- Reload from the preload and wait; a preload of 0 stops the timer (R119, R120). -/
def reloadAndWait (t : Nat) (s : State) : State :=
  let p := timerPreload s.shadow t
  setTimer t ⟨if p = 0 then .stopped else .waiting, p⟩ s

/-- A stop keeps the counter (R117, R106). -/
def stopTimer (t : Nat) (s : State) : State :=
  let x := timerOf s t
  if running x then setTimer t { x with phase := .stopped } s else s

/-- The first phase of a started timer (R117). -/
def startPhase (s : State) (t : Nat) : TimerPhase :=
  match timerMode s.shadow t with
  | .oneShot => .counting
  | .repeating => .counting
  | .hold => .waiting
  | .win => if s.lockout.state = .locked then .counting else .waiting

/-- TIMER_START of timer `t`, past its argument checks (R117). -/
def startTimer (t : Nat) (s : State) : State :=
  let x := timerOf s t
  let p := timerPreload s.shadow t
  if running x || panicAsserted s || (x.counter == 0 && p == 0) then s
  else setTimer t ⟨startPhase s t, if x.counter = 0 then p else x.counter⟩ s

/-- A HOLD timer bound to line `n` (R119). -/
def holdBound (s : State) (n t : Nat) : Bool := timerMode s.shadow t == .hold && timerLine s.shadow t == n

/-- A press of line `n` in HOLD mode is served to timer `t` (R119). -/
def holdPress (n t : Nat) (s : State) : State :=
  let x := timerOf s t
  if holdBound s n t ∧ x.phase = .waiting then setTimer t { x with phase := .counting } s else s

/-- A release of line `n` in HOLD mode is served to timer `t` (R119). -/
def holdRelease (n t : Nat) (s : State) : State :=
  let x := timerOf s t
  if holdBound s n t ∧ (x.phase = .counting ∨ x.phase = .held) then reloadAndWait t s else s

/-- The lockout enters LOCKED: a waiting WIN timer counts (R120). -/
def winStart (t : Nat) (s : State) : State :=
  let x := timerOf s t
  if timerMode s.shadow t = .win ∧ x.phase = .waiting then setTimer t { x with phase := .counting } s else s

/-- The lockout leaves LOCKED: a counting WIN timer reloads and waits (R120). -/
def winLeave (t : Nat) (s : State) : State :=
  let x := timerOf s t
  if timerMode s.shadow t = .win ∧ x.phase = .counting then reloadAndWait t s else s

/-- What a timer becomes at its fire (R118 to R120). -/
def afterFire (mode : TimerMode) (preload : Nat) : CueTimer :=
  match mode with
  | .oneShot => ⟨.stopped, 0⟩
  | .repeating => ⟨if preload = 0 then .stopped else .counting, preload⟩
  | .hold => ⟨.held, 0⟩
  | .win => ⟨.stopped, 0⟩

/-- The next frame event brings timer `t` to 0: it counts, and stands at its last frame (R116). -/
def reachesZero (s : State) (t : Nat) : Bool := (timerOf s t).phase == .counting && decide ((timerOf s t).counter ≤ 1)

/-- A frame event reaches timer `t` (R116): a counting timer falls by 1, and at 0 takes the phase and counter of its fire. The
fire itself is handed over within the frame event (R121). -/
def countTimer (t : Nat) (s : State) : State :=
  let x := timerOf s t
  if reachesZero s t then setTimer t (afterFire (timerMode s.shadow t) (timerPreload s.shadow t)) s
  else if x.phase = .counting then setTimer t { x with counter := x.counter - 1 } s
  else s

/-- Timer `t` fires its bound cue, as the shadow holds it (R121). -/
def fireTimer (t : Nat) (s : State) : State := timerFire t (timerCue s.shadow t) s

/-! ### The lockout (section 7.4) -/

/-- A line is in the late list. -/
def inLateList (lo : Lockout) (n : Nat) : Bool := lo.late.any (fun e => e.1 == n)

/-- An early press (R113). -/
def earlyPress (n : Nat) (s : State) : State :=
  let p := earlyPenalty s.shadow
  raiseEvent .lockEarly n 0 (BitVec.ofNat 32 p) (setPenalty n p s)

/-- Line units of a lockout clock (R1, R109). -/
def clockUnits (periods : Nat) : Nat := periods / Config.lineUnit

/-- A winning press (R111). -/
def winningPress (n : Nat) (s : State) : State :=
  let cue := lineCue s.shadow n
  let reaction := clockUnits s.lockout.armClock
  let s1 := setLockout { s.lockout with state := .locked, winner := some n, reaction := reaction, winClock := 0 } s
  let s2 := raiseEvent .lockWon n cue (BitVec.ofNat 32 reaction) s1
  eachTimer winStart (lineFire n cue s2)

/-- A late press (R112). -/
def latePress (n : Nat) (s : State) : State :=
  let lo := s.lockout
  let delay := clockUnits lo.winClock
  raiseEvent .lockLate n lo.late.length (BitVec.ofNat 32 delay)
    (setLockout { lo with late := lo.late ++ [(n, delay)] } s)

/-- A press of a LOCKOUT line is judged (R110). -/
def lockoutPress (n : Nat) (s : State) : State :=
  let lo := s.lockout
  match lo.state with
  | .unlocked => earlyPress n s
  | .armed => if lo.barred.getLsbD n || inPenalty s n then s else winningPress n s
  | .locked =>
    if lo.winner == some n || lo.barred.getLsbD n || inPenalty s n || inLateList lo n then s
    else if 7 ≤ lo.late.length then s
    else latePress n s

/-- LOCK_ARM (R114). -/
def lockArmBody (s : State) : State × ResultCode :=
  let lo := s.lockout
  if lo.state = .unlocked then
    (setLockout { lo with state := .armed, barred := 0, late := [], reaction := 0, armClock := 0 } s, .done)
  else (s, .lockState)

/-- LOCK_REARM (R114). -/
def lockRearmBody (s : State) : State × ResultCode :=
  let lo := s.lockout
  if lo.state = .locked then
    let barred := match lo.winner with
      | some n => lo.barred ||| BitVec.twoPow 8 n
      | none => lo.barred
    (eachTimer winLeave (setLockout { lo with state := .armed, winner := none, barred := barred, late := [] } s), .done)
  else (s, .lockState)

/-- LOCK_RESET (R114). -/
def lockResetBody (s : State) : State × ResultCode :=
  let lo := s.lockout
  if lo.state = .unlocked then (s, .done)
  else
    let s1 := setLockout { lo with state := .unlocked, winner := none, barred := 0, late := [] } s
    (if lo.state = .locked then eachTimer winLeave s1 else s1, .done)

/-! ### PANIC (section 7.3) -/

/-- The number of voices that are not IDLE. -/
def busyVoices (s : State) : Nat := (indices 24 (fun v => (voiceOf s v).state != .idle)).length

/-- A press of PANIC (R106). -/
def panicPress (s : State) : State :=
  let fade := panicFade s.shadow
  let timers := bitSet (fun t => running (timerOf s t)) 4
  panicRelease fade (eachTimer stopTimer (raiseEvent .panicOn (busyVoices s) timers (BitVec.ofNat 32 fade) s))

/-- A release of PANIC (R107). -/
def panicReleased (s : State) : State := raiseEvent .panicOff 0 0 0 s

/-! ### Presses and releases (section 7.2) -/

/-- Record or clear the held cue of line `n` (R105). -/
def setHeldCue (n : Nat) (cue : Option Nat) (s : State) : State := setLine n { lineOf s n with heldCue := cue } s

/-- A press of line `n` is taken and handed to its owner (R104, R106, R108). -/
def takePress (n : Nat) (s : State) : State :=
  if n = panicLine then panicPress s
  else if n = talkLine then s
  else match lineMode s.shadow n with
    | .off => s
    | .lockout => lockoutPress n s
    | .key => lineFire n (lineCue s.shadow n) s
    | .momentary => lineFire n (lineCue s.shadow n) (setHeldCue n (some (lineCue s.shadow n)) s)
    | .hold => eachTimer (holdPress n) s

/-- A release of line `n` is taken and handed to its owner (R104, R107, R108). -/
def takeRelease (n : Nat) (s : State) : State :=
  if n = panicLine then panicReleased s
  else if n = talkLine then s
  else match lineMode s.shadow n with
    | .off => s
    | .lockout => s
    | .key => s
    | .momentary =>
      match (lineOf s n).heldCue with
      | some cue => setHeldCue n none (releaseCueFade cue s)
      | none => s
    | .hold => eachTimer (holdRelease n) s

/-! ### Filters (section 7.1) -/

/-- Line `n`'s filter takes a state with `d` reference periods on its timer. -/
def setFilter (n : Nat) (f : FilterState) (d : Nat) (s : State) : State :=
  setLine n { lineOf s n with filter := f, timer := d } s

/-- A leading edge of line `n` (R102). -/
def leadingEdge (n : Nat) (s : State) : State :=
  let g := glitch s.shadow
  match (lineOf s n).filter with
  | .up => if g = 0 then takePress n (setFilter n .down 0 s) else setFilter n .pressing (g * Config.lineUnit) s
  | .releasing => setFilter n .down 0 s
  | _ => s

/-- A trailing edge of line `n` (R102). -/
def trailingEdge (n : Nat) (s : State) : State :=
  let g := glitch s.shadow
  match (lineOf s n).filter with
  | .pressing => setFilter n .up 0 s
  | .down => if g = 0 then takeRelease n (setFilter n .up 0 s) else setFilter n .releasing (g * Config.lineUnit) s
  | _ => s

/-- The filter timer of line `n` expires (R102). -/
def filterExpiry (n : Nat) (s : State) : State :=
  match (lineOf s n).filter with
  | .pressing => takePress n (setFilter n .down 0 s)
  | .releasing => takeRelease n (setFilter n .up 0 s)
  | _ => s

/-- An edge of line `n` where its judged level goes from `old` to `new`; none is taken while RST# is asserted (R103). -/
def judgedEdge (n : Nat) (old new : Bool) (s : State) : State :=
  if s.rst || old == new then s else if new then leadingEdge n s else trailingEdge n s

/-- The pin of line `n` takes a level. -/
def setPin (n : Nat) (high : Bool) (s : State) : State := setLine n { lineOf s n with high := high } s

/-- Line `n` takes a level: an edge where its judged level changes (R102). -/
def pinEdge (n : Nat) (high : Bool) (s : State) : State :=
  let old := lineOf s n
  judgedEdge n (readsActive s.shadow n old) (readsActive s.shadow n { old with high := high }) (setPin n high s)

/-- Each line that reads active is taken as having a leading edge (R103). -/
def startLines (s : State) : State :=
  (List.range 10).foldl (fun t n => if readsActive t.shadow n (lineOf t n) then leadingEdge n t else t) s

end Sys2Proof.Machine
end

