-- ==== Sys2Proof/Machine/Mix.lean ====
section
/-!
DEFINITION. The voice at the frame event (section 8.3, 9.4, 9.5) and the Mixer (chapter 10): level ride, envelope, shares,
ducking, the forming of the buses. Divisions are Int or Nat division by a positive number, which rounds toward minus infinity
(R1).
-/

namespace Sys2Proof.Machine

/-! ### One voice's gains -/

/-- The level ride (R158). -/
def rideLevel (step lc lt : Nat) : Nat :=
  if step = 0 then lt
  else if lt < lc then max lt (lc - step)
  else if lc < lt then min lt (lc + step)
  else lc

/-- The envelope value of a frame (R159). -/
def envelope (x : Voice) : Nat :=
  match x.state with
  | .rising => 4096 * x.n / x.fi
  | .falling => x.er * (x.fallLength - x.m) / x.fallLength
  | _ => 4096

/-- A voice's share of one side: the level, then the envelope (R160). -/
def shareOf (x : Int) (lc e : Nat) : Int := x * lc / 4096 * e / 4096

/-! ### The sums of a frame event -/

/-- What the voices of a frame event add to one bus (R160, R161): duckable and other sums of each side, and whether a DUCKER
voice fed it. -/
structure BusSum where
  duckLeft : Int
  duckRight : Int
  restLeft : Int
  restRight : Int
  ducked : Bool
  deriving DecidableEq, Repr

/-- The sums at the start of a frame event. -/
def BusSum.zero : BusSum := ⟨0, 0, 0, 0, false⟩

/-- The sums of the four buses. -/
abbrev Sums := Vector BusSum 4

/-- The sum of one bus. -/
def sumOf (t : Sums) (b : Nat) : BusSum := bankGet t b BusSum.zero

/-- A voice's shares added to a bus it feeds (R160, R161). -/
def addToBus (role : DuckRole) (l r : Int) (t : BusSum) : BusSum :=
  match role with
  | .duckable => { t with duckLeft := t.duckLeft + l, duckRight := t.duckRight + r }
  | .ducker => { t with restLeft := t.restLeft + l, restRight := t.restRight + r, ducked := true }
  | .none => { t with restLeft := t.restLeft + l, restRight := t.restRight + r }

/-- A voice's shares added to every bus in its effective mask (R160). -/
def addShares (x : Voice) (l r : Int) (t : Sums) : Sums :=
  (List.range 4).foldl (fun u b => if x.mask.getLsbD b then bankSet u b (addToBus x.role l r (sumOf u b)) else u) t

/-! ### One voice's frame (R133) -/

/-- The tail position (R86). -/
def tailPosition (x : Voice) : Nat := max x.start (x.effEnd - x.fo)

/-- Stage 1: the tail fade begins with this frame (R86, R133). -/
def tailBegins (x : Voice) : Bool :=
  !x.loop && x.tail && decide (0 < x.fo) && (x.state == .rising || x.state == .steady) && x.due == tailPosition x

/-- Stage 1 done: Er is 4096 for a voice that has output no frame, else as R136 gives. -/
def afterTail (x : Voice) : Voice :=
  if tailBegins x then fallen x x.fo .complete (if x.sounded then fallStart x else 4096) else x

/-- What a voice takes its frame from at stage 2. -/
inductive FrameSource where
  | head (f : Frame)
  | fifo (f : Frame)
  | underrun
  deriving DecidableEq, Repr

/-- Stage 2: the frame at the due position, from the head slot, or from the FIFO, or none (R133, R150, R152). -/
def takeFrame (s : State) (x : Voice) : FrameSource :=
  if x.headFlag then .head ((slotOf s x.headSlot).frames.getD x.due ⟨0, 0⟩)
  else match x.fifo with
    | e :: _ => .fifo e.frame
    | [] => .underrun

/-- The samples of a frame: silence on an underrun (R152). -/
def FrameSource.samples : FrameSource → Int × Int
  | .head f => (f.left.toInt, f.right.toInt)
  | .fifo f => (f.left.toInt, f.right.toInt)
  | .underrun => (0, 0)

/-- Stage 2 for the record: Lc is stepped, the last envelope set, the FIFO entry removed, an underrun counted. -/
def afterFrame (step : Nat) (src : FrameSource) (x : Voice) : Voice :=
  let y := { x with lc := rideLevel step x.lc x.lt, lastEnv := envelope x, sounded := true }
  match src with
  | .head _ => y
  | .fifo _ => { y with fifo := y.fifo.drop 1 }
  | .underrun => { y with underruns := satAdd 65535 y.underruns 1 }

/-- Stage 3: the counters (R134, R137). The fall's last frame leaves m, and stage 5 ends the voice. -/
def afterCounters (x : Voice) : Voice :=
  match x.state with
  | .rising => if x.n = x.fi then { x with state := .steady, boardFlag := true } else { x with n := x.n + 1 }
  | .falling => if x.m = x.fallLength then x else { x with m := x.m + 1 }
  | _ => x

/-- Stage 4 for the record: the due position advances (R133). -/
def afterPosition (x : Voice) : Voice := { x with due := wrapPos x (x.due + 1) }

/-- Stage 4: a voice on its head slot whose due position reaches the head length leaves the slot (R151). -/
def handOver (v : Nat) (s : State) : State :=
  let x := voiceOf s v
  if x.headFlag ∧ x.due = (slotOf s x.headSlot).headLength then leaveSlot v s else s

/-- Resynchronisation after an underrun, once the due position has advanced (R152, R154). -/
def resync (v : Nat) (s : State) : State :=
  let t := emptyFifo v s
  let x := voiceOf t v
  setVoice v { x with epoch := x.epoch + 1, fetchPos := x.due } t

/-- Stage 5: the end that comes with this frame (R135, R137): `fallOver` says that the frame was the last of a fall. -/
def frameEnd (x : Voice) (fallOver : Bool) : Option EndReason :=
  if x.loop = false ∧ x.due = x.effEnd then some .complete
  else if fallOver then some x.fallReason
  else none

/-- What a frame event has come to in the course of its voices' frames: the state, the sums, and the COMPLETE ends whose
follow cue is to be fired, each with that cue. -/
structure FrameRun where
  state : State
  sums : Sums
  follows : List (Nat × Nat)
  deriving DecidableEq, Repr

/-- The value of UNDERRUN (R153). -/
def underrunValue (x : Voice) : Word := BitVec.ofNat 32 (x.due % 8388608 + 0x1000000 * x.clip)

/-- One voice's frame: the five stages of R133. -/
def voiceFrame (v : Nat) (r : FrameRun) : FrameRun :=
  let x0 := voiceOf r.state v
  if sounding x0 then
    let x1 := afterTail x0
    let src := takeFrame r.state x1
    let x2 := afterFrame (rideStep r.state.shadow) src x1
    let l := shareOf src.samples.1 x2.lc x2.lastEnv
    let rt := shareOf src.samples.2 x2.lc x2.lastEnv
    let s2 := setVoice v x2 r.state
    let s3 := if src = .underrun ∧ x1.underruns = 0 then raiseEvent .underrun x1.cue v (underrunValue x1) s2 else s2
    let s4 := handOver v (setVoice v (afterPosition (afterCounters x2)) s3)
    let s5 := if src = .underrun then resync v s4 else s4
    let x5 := voiceOf s5 v
    let fallOver := x1.state == .falling && x1.m == x1.fallLength
    match frameEnd x5 fallOver with
    | none => ⟨s5, addShares x2 l rt r.sums, r.follows⟩
    | some reason =>
      ⟨endVoice v reason s5, addShares x2 l rt r.sums,
        if reason = .complete ∧ x5.followOn then r.follows ++ [(v, x5.followCue)] else r.follows⟩
  else r

/-! ### The buses (sections 10.3, 10.4) -/

/-- The duck target of bus `b` (R161). -/
def duckTarget (s : State) (ducked : Bool) (b : Nat) : Nat :=
  if ducked || (talkAsserted s && talkEnable s.shadow && talkDuck s.shadow b) then duckDepth s.shadow b else 4096

/-- The duck gain stepped toward its target (R162). -/
def stepDuck (down up target d : Nat) : Nat :=
  if target < d then max target (d - down) else if d < target then min target (d + up) else d

/-- The trimmed side of a bus, before its limit (R163). -/
def trimmed (sd sn : Int) (d t : Nat) : Int := (sd * d / 4096 + sn) * t / 4096

/-- The limit of a side (R163). -/
def clampSample (q : Int) : Int := if q < -32768 then -32768 else if 32767 < q then 32767 else q

/-- The side clamps (R164). -/
def clips (q : Int) : Bool := decide (q < -32768) || decide (32767 < q)

/-- Write bus `b`. -/
def setBus (b : Nat) (x : Bus) (s : State) : State := { s with buses := bankSet s.buses b x }

/-- Bus `b` is formed (R161 to R165). -/
def formBus (sums : Sums) (b : Nat) (s : State) : State :=
  let t := sumOf sums b
  let old := busOf s b
  let d := stepDuck (duckDown s.shadow b) (duckUp s.shadow b) (duckTarget s t.ducked b) old.duck
  let ql := trimmed t.duckLeft t.restLeft d (trim s.shadow b)
  let qr := trimmed t.duckRight t.restRight d (trim s.shadow b)
  let l := clampSample ql
  let r := clampSample qr
  let on := play s.shadow
  let s1 := setBus b ⟨d, satAdd 65535 old.clips (bit (clips ql) + bit (clips qr)), l, r, if on then l else 0, if on then r else 0⟩ s
  if clips ql || clips qr then
    raiseEvent .busClip b (bit (clips ql) + 2 * bit (clips qr)) (BitVec.ofInt 32 (if clips ql then ql else qr)) s1
  else s1

/-- METER_CLEAR of the buses in a mask (R99). -/
def clearMeters (mask : BitVec 4) (s : State) : State :=
  (List.range 4).foldl (fun t b => if mask.getLsbD b then setBus b { busOf t b with clips := 0 } t else t) s

end Sys2Proof.Machine
end

