-- ==== Sys2Proof/Machine/Clock.lean ====
section
/-!
DEFINITION. The frame event (R166, R133) and the Frame Clock (sections 10.7 on): what an edge of WCLK, an expiry of the frame
timer or of the gap timer, and a change of the clock preference do.
-/

namespace Sys2Proof.Machine

/-! ### The board interval (R178) -/

/-- The board interval runs out: the count restarts, every sounding voice's record is flagged, blocks 0 to 4 are marked. -/
def boardExpiry (s : State) : State :=
  markAll { s with
    boardCount := 0
    voices := s.voices.map (fun x => if sounding x then { x with boardFlag := true } else x) }

/-- The next frame event brings the count to the board interval; with an interval of 0 the count stands still. -/
def reachesInterval (s : State) : Bool :=
  decide (boardInterval s.shadow ≠ 0) && decide (boardInterval s.shadow ≤ s.boardCount + 1)

/-- A frame event reaches the board interval count: it rises by 1, and runs out at the interval. -/
def countBoard (s : State) : State :=
  if reachesInterval s then boardExpiry s
  else if boardInterval s.shadow = 0 then s
  else { s with boardCount := s.boardCount + 1 }

/-- The count restarts at 0 (R32, R178). -/
def restartBoard (s : State) : State := { s with boardCount := 0 }

/-! ### Orders -/

/-- The tasks in the order a choice gives: those it names first, the rest as they stand. -/
def orderTasks (choice tasks : List FrameTask) : List FrameTask :=
  (choice.filter (fun t => tasks.contains t)).eraseDups ++ tasks.filter (fun t => !choice.contains t)

/-! ### The frame event -/

/-- An event of the Frame Clock raised with a frame event: its kind, subject B and value. -/
structure ClockEvent where
  kind : EventKind
  subjectB : Nat
  value : Nat
  deriving DecidableEq, Repr

/-- Raise the Frame Clock's event. -/
def raiseClock (e : Option ClockEvent) (s : State) : State :=
  match e with
  | some e => raiseEvent e.kind 0 e.subjectB (BitVec.ofNat 32 e.value) s
  | none => s

/-- The frame counter, the timers and the board interval are reached (R166). The board flags that an interval's end sets need no
place among the voices' frames: a voice that changes state in the frame event is flagged besides. -/
def beginFrame (s : State) : State :=
  countBoard (eachTimer countTimer { s with frameCounter := s.frameCounter + 1 })

/-- The timers that the next frame event brings to 0. -/
def firingTimers (s : State) : List Nat := indices 4 (reachesZero s)

/-- The voices that give a frame at this frame event. -/
def soundingVoices (s : State) : List Nat := indices 24 (fun v => sounding (voiceOf s v))

/-- One task of the first phase: a voice's frame, or the Frame Clock's event. -/
def firstTask (e : Option ClockEvent) (t : FrameTask) (r : FrameRun) : FrameRun :=
  match t with
  | .voice v => voiceFrame v r
  | .clock => { r with state := raiseClock e r.state }
  | _ => r

/-- One task of the second phase: a follow fire, a bus, a timer's fire, or the Frame Clock's event. -/
def laterTask (e : Option ClockEvent) (sums : Sums) (follows : List (Nat × Nat)) (t : FrameTask) (s : State) : State :=
  match t with
  | .follow v =>
    match follows.find? (fun f => f.1 == v) with
    | some f => followFire f.2 s
    | none => s
  | .bus b => formBus sums b s
  | .timer n => fireTimer n s
  | .clock => raiseClock e s
  | .voice _ => s

/-- The tasks of the first phase, in order. -/
def firstTasks (choice : FrameChoice) (s : State) : List FrameTask :=
  orderTasks choice.first
    ((soundingVoices s).map .voice ++ if choice.first.contains .clock then [.clock] else [])

/-- The tasks of the second phase, in order: the follow fires, the buses, the fires of the timers in `firing`. -/
def laterTasks (choice : FrameChoice) (firing : List Nat) (follows : List (Nat × Nat)) : List FrameTask :=
  orderTasks choice.later
    (follows.map (fun f => .follow f.1) ++ (List.range 4).map .bus ++ firing.map .timer
      ++ if choice.first.contains .clock then [] else [.clock])

/-- A frame event (R166, R133), with the Frame Clock's event of the same step. While RST# is asserted it reaches no block and
nothing is raised (R172). The frame event is one step: a request that a voice's frame makes at a free port is granted behind the
whole of it (the model's choice, assumption 26). -/
def frameEvent (choice : FrameChoice) (e : Option ClockEvent) (s : State) : State :=
  if s.rst then s
  else
    let s1 := beginFrame s
    let r := (firstTasks choice s1).foldl (fun r t => firstTask e t r)
      ⟨s1, Vector.replicate 4 BusSum.zero, []⟩
    (laterTasks choice (firingTimers s) r.follows).foldl (fun t k => laterTask e r.sums r.follows k t) r.state

/-! ### The Frame Clock -/

/-- The frame timer expires (R167 to R170). -/
def frameExpiry (choice : FrameChoice) (s : State) : State :=
  let c := s.clock
  match c.state with
  | .house =>
    if c.bridge + 1 < 3 then
      frameEvent choice none (setClock { c with frameTimer := Config.framePeriod, bridge := c.bridge + 1 } s)
    else
      frameEvent choice (some ⟨.clockLost, 0, c.bridge + 1⟩)
        (setClock { c with state := .freerun, frameTimer := Config.framePeriod, bridge := 0 } s)
  | _ => frameEvent choice none (setClock { c with frameTimer := Config.framePeriod } s)

/-- A rising edge of WCLK (R167 to R169). -/
def wclkRise (choice : FrameChoice) (s : State) : State :=
  let c := s.clock
  match c.state with
  | .freerun =>
    if preferInternal s.shadow then s
    else setClock { c with state := .relocking, relock := 0, gap := Config.gapPeriod } s
  | .relocking =>
    if c.relock + 1 < Config.relockPeriods then setClock { c with relock := c.relock + 1, gap := Config.gapPeriod } s
    else
      frameEvent choice (some ⟨.clockHouse, 0, Config.gapPeriod - c.gap⟩)
        (setClock ⟨.house, Config.framePeriod, c.relock + 1, 0, 0⟩ s)
  | .house =>
    if c.bridge = 0 then frameEvent choice none (setClock { c with frameTimer := Config.framePeriod } s)
    else setClock { c with frameTimer := Config.framePeriod, bridge := c.bridge - 1 } s

/-- The gap timer expires in RELOCKING (R168). -/
def gapExpiry (s : State) : State := setClock { s.clock with state := .freerun, relock := 0, gap := 0 } s

/-- A merge changes the clock preference (R171). -/
def preferenceChanged (s : State) : State :=
  let c := s.clock
  if preferInternal s.shadow then
    match c.state with
    | .freerun => s
    | .relocking => setClock { c with state := .freerun, relock := 0, gap := 0 } s
    | .house => raiseClock (some ⟨.clockLost, 1, c.bridge⟩) (setClock { c with state := .freerun, bridge := 0 } s)
  else s

end Sys2Proof.Machine
end

