-- ==== Sys2Proof/Machine/Path.lean ====
section
/-!
DEFINITION. The Memory Path (section 1.2) and the judging of shadowed writes (sections 2.4, 2.5, 6.1): classification of a
controller access, what its arrival does, and the endings of the controller's memory accesses other than merges.
-/

namespace Sys2Proof.Machine

/-! ### Classification (R5) -/

/-- The classes of R5's table, with what the owning block needs. -/
inductive Arrival where
  | plain
  | regionRead
  | report
  | shadowed (off : Nat)
  | loadWrite (off : Nat)
  | verify (off : Nat)
  | extent (clip : Nat)
  deriving DecidableEq, Repr

/-- The address lies in the Control Region. -/
def inRegion (s : State) (addr : Nat) : Bool := decide (regionBase s.crb ≤ addr) && decide (addr < regionBase s.crb + regionSize)

/-- The address lies in the Load Window. -/
def inWindow (s : State) (addr : Nat) : Bool :=
  decide (windowBase (lwb s.shadow) ≤ addr) && decide (addr < windowBase (lwb s.shadow) + windowSize)

/-- An enabled lane of the word at `addr` lies in the extent of an entry (R11). -/
def laneInExtent (addr : Nat) (lanes : Lanes) (e : ClipEntry) : Bool :=
  (List.range 4).any (fun i => lanes.getLsbD i && (extentOf e).any (fun x => decide (x.1 ≤ addr + i) && decide (addr + i < x.2)))

/-- The clip whose extent holds an enabled lane (R11). -/
def guardedClip (s : State) (a : Access) : Option Nat :=
  (indices 128 (fun c => laneInExtent a.addr a.lanes (clipOf s c))).head?

/-- The row of R5's table a controller access falls in, as the part stands. -/
def arrivalOf (a : Access) (s : State) : Arrival :=
  if inRegion s a.addr then
    let off := a.addr - regionBase s.crb
    match regionPart off with
    | .other => .plain
    | .report => if a.write then .report else .regionRead
    | _ => if a.write then .shadowed off else .regionRead
  else if inWindow s a.addr then
    let off := a.addr - windowBase (lwb s.shadow)
    if s.session.isNone then .plain else if a.write then .loadWrite off else .verify off
  else if a.write then
    match guardedClip s a with
    | some c => .extent c
    | none => .plain
  else .plain

/-! ### Judging a setup write -/

/-- The window at `w` would share a byte with the Control Region or with an extent, or a session is open (R27). -/
def lwbForbidden (s : State) (w : Nat) : Bool :=
  s.session.isSome || rangesMeet (windowRange w) (regionRange s.crb)
    || (List.range 128).any (fun c => meetsExtent (windowRange w) (clipOf s c))

/-- Offset of the first byte of the field for which a write that leaves the shadow as `sh` is refused (R27, R28): the lowest,
where there are several. -/
def refusedField (s : State) (sh : Cells) : Option Nat :=
  let modes := (indices 8 (fun n => lineModeCode s.shadow n != lineModeCode sh n && s.lockout.state != .unlocked)).map
    (fun n => 0x10 + 4 * n)
  let timers := (indices 4 (fun t => timerModeCode s.shadow t != timerModeCode sh t && running (timerOf s t))).map
    (fun t => 0x30 + 8 * t)
  let bound := (indices 4 (fun t => timerLine s.shadow t != timerLine sh t && running (timerOf s t))).map
    (fun t => 0x32 + 8 * t)
  ((if lwb s.shadow != lwb sh && lwbForbidden s (lwb sh) then [0x01] else []) ++ modes ++ timers ++ bound).min?

/-- A clampable field: its Setup Block offset, its bytes, and its legal values but for Rd (R29). -/
structure ClampField where
  off : Nat
  width : Nat
  /-- the lowest legal value -/
  low : Nat
  /-- the highest legal value -/
  high : Nat
  /-- 0 is legal although it is below `low` -/
  zero : Bool
  deriving DecidableEq, Repr

/-- The clampable fields of R29, lowest offset first. -/
def clampFields : List ClampField :=
  [⟨0x04, 1, 0, 255, true⟩, ⟨0x06, 2, 256, 65535, true⟩, ⟨0x08, 2, 0, 4096, true⟩]
    ++ (List.range 4).flatMap (fun b =>
      [⟨0x50 + 12 * b, 2, 0, 4096, true⟩, ⟨0x52 + 12 * b, 2, 0, 4096, true⟩,
       ⟨0x54 + 12 * b, 2, 1, 4096, false⟩, ⟨0x56 + 12 * b, 2, 1, 4096, false⟩])

/-- A value of Rd lies in the span of written records (R176). -/
def inSpan (s : State) (new : BitVec 8) : Bool := decide ((new - rd s.shadow).toNat ≤ (s.w - rd s.shadow).toNat)

/-- What a value of a field is clamped to; none where it is legal (R29). -/
def clampTo (s : State) (f : ClampField) (v : Nat) : Option Nat :=
  if f.off = 0x04 then (if inSpan s (BitVec.ofNat 8 v) then none else some s.w.toNat)
  else if v = 0 ∧ f.zero = true then none
  else if v < f.low then some f.low
  else if f.high < v then some f.high
  else none

/-- The lanes of the word at `off` that a field of `width` bytes at `foff` takes. -/
def fieldLanes (off foff width : Nat) : Lanes :=
  BitVec.ofNat 4 (bitSet (fun i => decide (foff ≤ off + i) && decide (off + i < foff + width)) 4)

/-- A write of these lanes of the word at `off` enables a lane of the field. -/
def touches (off : Nat) (lanes : Lanes) (foff width : Nat) : Bool := (lanes &&& fieldLanes off foff width) != 0

/-- The fields that a write clamps, with the values (R29); `sh` is the shadow as the write alone would leave it. -/
def clamped (s : State) (off : Nat) (lanes : Lanes) (sh : Cells) : List (ClampField × Nat) :=
  clampFields.filterMap (fun f =>
    if touches off lanes f.off f.width then (clampTo s f (readLe sh f.off f.width)).map (fun v => (f, v)) else none)

/-- Hand a write-back over: it replaces one that stands for the field; one whose value the field already holds is not handed
over (R29). That Rd is held against W as it stands at this moment, the classification, though the write-back carries W as it stands
when it is performed, is the model's choice (assumption 10). -/
def handWriteBack (s : State) (f : ClampField × Nat) : State :=
  let others := s.writeBacks.filter (fun b => b.off != f.1.off)
  if readLe s.shadow f.1.off f.1.width = f.2 then { s with writeBacks := others }
  else { s with writeBacks := others ++ [⟨f.1.off, f.1.width, f.2⟩] }

/-- The lanes withheld for clamped fields. -/
def withheld (off : Nat) (cs : List (ClampField × Nat)) : Lanes :=
  cs.foldl (fun l c => l ||| fieldLanes off c.1.off c.1.width) 0

/-- The Intake's verdict on a write of the ring (R92). -/
def ringVerdict (s : State) (off : Nat) (a : Access) : Verdict :=
  if off % 16 = 0 ∧ a.lanes &&& 7#4 = 7#4 then
    if (off - ringBase) / 16 = s.expSlot ∧ (a.data.extractLsb' 0 16).toNat = s.expSeq then .taken else .misplaced
  else .data

/-! ### Serving an access -/

/-- The access is held for the memory port with its class. -/
def holdAs (a : Access) (c : AccessClass) (s : State) : State := { s with held := some ⟨a, some c⟩, done := false }

/-- Raise GUARD_WRITE for a dropped write (R12); `subject` is the clip, or FFFFh for REPORT. -/
def raiseGuard (subject : Nat) (a : Access) : State → State :=
  raiseEvent .guardWrite subject a.lanes.toNat (BitVec.ofNat 32 a.addr)

/-- A setup write past the refusals: clamps are withheld and handed over, the rest is held (R29). -/
def acceptSetup (off : Nat) (a : Access) (s : State) : State :=
  let cs := clamped s off a.lanes (writeLanes s.shadow off a.lanes a.data)
  let s1 := cs.foldl handWriteBack s
  let lanes := a.lanes &&& ~~~ withheld off cs
  if lanes = 0 then accessDone s1 else holdAs a (.shadowed off lanes .data) s1

/-- The Control Shadow judges a shadowed write (R6, R26, R27). -/
def judgeShadowed (off : Nat) (a : Access) (s : State) : State :=
  match regionPart off with
  | .setup =>
    match refusedField s (writeLanes s.shadow off a.lanes a.data) with
    | some f => accessDone (raiseEvent .setupRefused f a.lanes.toNat (enabledData a.lanes a.data) s)
    | none => acceptSetup off a s
  | .ring => holdAs a (.shadowed off a.lanes (ringVerdict s off a)) s
  | _ => holdAs a (.shadowed off a.lanes .data) s

/-- The Load Converter judges a write in the Load Window (R52 to R57). -/
def judgeLoad (se : Session) (off : Nat) (a : Access) (s : State) : State :=
  if isPartial se.packing a.lanes then
    accessDone (raiseEvent .loadPartial se.clip a.lanes.toNat (BitVec.ofNat 32 off) s)
  else if outOfRange se off a.lanes then
    accessDone (raiseEvent .loadRange se.clip a.lanes.toNat (BitVec.ofNat 32 off) s)
  else
    holdAs a (.converted false (halfWrites se off a.lanes a.data))
      { s with session := some (countWrite se off a.lanes a.data) }

/-- A verify read arrives: zero at once where no position is below the capacity (R55, R56). -/
def judgeVerify (se : Session) (off : Nat) (a : Access) (s : State) : State :=
  let j := verifyJob se off
  if j.todo = [] then readDone 0 s else holdAs a (.verify j) s

/-- A classified access is served as its class has it: dropped, done at once, or held for the port. -/
def serve (k : Arrival) (a : Access) (s : State) : State :=
  match k with
  | .plain => holdAs a .direct s
  | .regionRead => holdAs a .direct s
  | .report => accessDone (raiseGuard 0xFFFF a s)
  | .extent c => accessDone (raiseGuard c a s)
  | .shadowed off => judgeShadowed off a s
  | .loadWrite off =>
    match s.session with
    | some se => judgeLoad se off a s
    | none => holdAs a .direct s
  | .verify off =>
    match s.session with
    | some se => judgeVerify se off a s
    | none => holdAs a .direct s

/-- An access is held without a class: by a sweep, where it lies in the Control Region (R5, R18); by RST# (R20). -/
def unclassified (s : State) (addr : Nat) : Bool := s.rst || (s.sweep.isSome && inRegion s addr)

/-- A controller access arrives (R5). -/
def arrive (a : Access) (s : State) : State :=
  if unclassified s a.addr then { s with held := some ⟨a, none⟩, done := false } else serve (arrivalOf a s) a s

/-- A held access without a class is classified, once nothing holds it so (R18, R20). -/
def classifyHeld (s : State) : State :=
  match s.held with
  | some ⟨a, none⟩ => if unclassified s a.addr then s else serve (arrivalOf a s) a s
  | _ => s

/-- A write with no lane enabled (R13). -/
def noLane (a : Access) : Bool := a.write && a.lanes == 0

/-- The access of a command: addresses are those of words. -/
def accessOf (write : Bool) (addr : BitVec 28) (lanes : Lanes) (data : Word) : Access := ⟨addr.toNat / 4 * 4, write, lanes, data⟩

/-- The arrival a command names: the controller port is free, and the access falls in one of the classes the command's row
speaks of; else the step does not come about (assumption 1). -/
def arriveAs (p : Arrival → Bool) (a : Access) (s : State) : Outcome :=
  if s.held.isNone && !noLane a && p (arrivalOf a s) then .next (arbitrate (arrive a s)) else .next s

/-! ### Endings of the controller's accesses -/

/-- The controller's access on the port, with its class. -/
def onPort (s : State) : Option (Access × AccessClass) :=
  match s.port, s.held with
  | some .controller, some ⟨a, some c⟩ => some (a, c)
  | _, _ => none

/-- A plain access or a Control Region read ends (R5, R7, R16). -/
def endDirect (a : Access) (s : State) : State :=
  if a.write then accessDone (portFree { s with mem := writeLanes s.mem a.addr a.lanes a.data })
  else readDone (readWord s.mem a.addr) (portFree s)

/-- One memory write of a converted write ends: the next is presented, or the access is done (R17, R51). -/
def endConverted (a : Access) (todo : List HalfWrite) (s : State) : State :=
  match todo with
  | [] => accessDone (portFree s)
  | h :: hs =>
    let s1 := portFree { s with mem := writeLanes s.mem h.addr h.lanes h.data }
    if hs = [] then accessDone s1 else { s1 with held := some ⟨a, some (.converted true hs)⟩ }

/-- One memory read of a verify read ends: the next is presented, or the word is returned (R17, R56). -/
def endVerify (a : Access) (j : VerifyJob) (s : State) : State :=
  match j.todo with
  | [] => readDone (verifyWord j) (portFree s)
  | w :: ws =>
    let j' := { j with todo := ws, got := j.got ++ [(w, readWord s.mem w)] }
    if ws = [] then readDone (verifyWord j') (portFree s)
    else { portFree s with held := some ⟨a, some (.verify j')⟩ }

end Sys2Proof.Machine
end

