-- ==== Sys2Proof/Machine/Merge.lean ====
section
/-!
DEFINITION. The merge of an accepted shadowed write (R25): memory and shadow take its lanes at the same moment, pending part
writes of the same field or slot are cancelled (R30, R96), and every block that owns a field of the word acts (R32). And the
taking of a trigger (R93).
-/

namespace Sys2Proof.Machine

/-- A shadowed write on the port: the access, its offset, the lanes left to it, the Intake's verdict. -/
structure PortMerge where
  access : Access
  off : Nat
  lanes : Lanes
  verdict : Verdict
  deriving DecidableEq, Repr

/-- The shadowed write on the port, if one is there. -/
def portMerge (s : State) : Option PortMerge :=
  match onPort s with
  | some (a, .shadowed off lanes v) => some ⟨a, off, lanes, v⟩
  | _ => none

/-- The lanes written: a taken trigger writes lane 3 too (R92). -/
def PortMerge.writtenLanes (m : PortMerge) : Lanes := if m.verdict = .taken then 0xF else m.lanes

/-- The data written: lane 3 of a taken trigger is 00h (R92). -/
def PortMerge.writtenData (m : PortMerge) : Word :=
  if m.verdict = .taken then m.access.data &&& 0x00FFFFFF else m.access.data

/-- The shadow as the merge leaves it. -/
def mergedShadow (m : PortMerge) (sh : Cells) : Cells := writeLanes sh m.off m.writtenLanes m.writtenData

/-- The merge writes the field's lanes. -/
def PortMerge.writes (m : PortMerge) (foff width : Nat) : Bool := touches m.off m.writtenLanes foff width

/-- The ring slot of the word. -/
def PortMerge.slot (m : PortMerge) : Nat := (m.off - ringBase) / 16

/-- The word is word 0 of a ring slot. -/
def PortMerge.isSlotWord (m : PortMerge) : Bool := regionPart m.off == .ring && decide (m.off % 16 = 0)

/-! ### What the owners of a field do at the merge; `old` is the shadow before it -/

/-- Line `n` leaves LOCKOUT or MOMENTARY (R104). -/
def lineModeEffect (old : Cells) (n : Nat) (s : State) : State :=
  let was := lineMode old n
  let now := lineMode s.shadow n
  if was = now then s
  else if was = .lockout then setPenalty n 0 s
  else if was = .momentary then setHeldCue n none s
  else s

/-- A polarity change of line `n` is an edge where its judged level flips (R103). -/
def polarityEffect (old : Cells) (n : Nat) (s : State) : State :=
  judgedEdge n (readsActive old n (lineOf s n)) (readsActive s.shadow n (lineOf s n)) s

/-- A write to the preload of timer `t` also loads the counter of a stopped timer (R31). -/
def preloadEffect (m : PortMerge) (t : Nat) (s : State) : State :=
  if m.writes (0x34 + 8 * t) 3 ∧ (timerOf s t).phase = .stopped then
    setTimer t ⟨.stopped, timerPreload s.shadow t⟩ s
  else s

/-- The owners of the Setup Block's fields act (R32). -/
def setupEffects (old : Cells) (m : PortMerge) (s : State) : State :=
  let s1 := (List.range 8).foldl (fun t n => lineModeEffect old n t) s
  let s2 := (List.range 10).foldl (fun t n => polarityEffect old n t) s1
  let s3 := eachTimer (preloadEffect m) s2
  let s4 := if preferInternal old = preferInternal s3.shadow then s3 else preferenceChanged s3
  let s5 := if m.writes 0x04 1 then judgeAttn s4 else s4
  if m.writes 0x06 2 then restartBoard s5 else s5

/-- The cue whose record the word belongs to. -/
def PortMerge.cue (m : PortMerge) : Nat := (m.off - deckBase) / 0x40

/-- A merge that changes a cue's level reaches the cue's voices (R81). -/
def deckEffects (old : Cells) (m : PortMerge) (s : State) : State :=
  if cueLevel old m.cue = cueLevel s.shadow m.cue then s else levelEdit m.cue (cueLevel s.shadow m.cue) s

/-- The value of RING_SEQ (R94). -/
def ringSeqValue (s : State) (m : PortMerge) : Word :=
  BitVec.ofNat 32 (s.expSeq + 0x10000 * s.expSlot + 0x1000000 * (laneOf m.access.data 2).toNat)

/-- A trigger that is not taken raises RING_SEQ at its merge (R94). -/
def ringEffects (m : PortMerge) (s : State) : State :=
  if m.verdict = .misplaced then
    raiseEvent .ringSeq m.slot (m.access.data.extractLsb' 0 16).toNat (ringSeqValue s m) s
  else s

/-- The write is in memory, the port is free and the controller sees its access done; the shadow stays. -/
def memoryWord (m : PortMerge) (s : State) : State :=
  accessDone (portFree { s with mem := writeLanes s.mem m.access.addr m.writtenLanes m.writtenData })

/-- The merge itself: memory and shadow take the lanes, the write-backs of the fields it writes (R30) and the result write of
the slot (R96) are cancelled, the port is free and the controller sees its access done. -/
def mergeWord (m : PortMerge) (s : State) : State :=
  accessDone (portFree { s with
    mem := writeLanes s.mem m.access.addr m.writtenLanes m.writtenData
    shadow := mergedShadow m s.shadow
    writeBacks := s.writeBacks.filter (fun b => !m.writes b.off b.width)
    results := if m.isSlotWord then s.results.filter (fun r => r.1 != m.slot) else s.results })

/-- The whole event of a merge. -/
def performMerge (m : PortMerge) (s : State) : State :=
  match regionPart m.off with
  | .setup => setupEffects s.shadow m (mergeWord m s)
  | .deck => deckEffects s.shadow m (mergeWord m s)
  | .ring => ringEffects m (mergeWord m s)
  | _ => mergeWord m s

/-! ### Which row a merge is -/

/-- The write's own lanes hold Rd, merged or withheld for a clamp (R176). -/
def isRdWrite (m : PortMerge) (_ : State) : Bool := touches m.off m.access.lanes 0x04 1 || m.writes 0x04 1
/-- The merge writes LWB (R3). -/
def isLwbWrite (m : PortMerge) (_ : State) : Bool := m.writes 0x01 1
/-- The merge changes the mode of a line (R104). -/
def isLineModeWrite (m : PortMerge) (s : State) : Bool :=
  (List.range 8).any (fun n => lineMode s.shadow n != lineMode (mergedShadow m s.shadow) n)
/-- The merge changes a polarity (R103). -/
def isPolarityWrite (m : PortMerge) (s : State) : Bool :=
  (List.range 10).any (fun n => activeHigh s.shadow n != activeHigh (mergedShadow m s.shadow) n)
/-- The merge writes a timer preload (R31). -/
def isPreloadWrite (m : PortMerge) (_ : State) : Bool := (List.range 4).any (fun t => m.writes (0x34 + 8 * t) 3)
/-- The merge changes the clock preference (R171). -/
def isPreferenceWrite (m : PortMerge) (s : State) : Bool :=
  preferInternal s.shadow != preferInternal (mergedShadow m s.shadow)
/-- The merge writes the board interval (R178). -/
def isIntervalWrite (m : PortMerge) (_ : State) : Bool := m.writes 0x06 2
/-- The merge changes a cue's level (R81). -/
def isLevelEdit (m : PortMerge) (s : State) : Bool :=
  regionPart m.off == .deck && cueLevel s.shadow m.cue != cueLevel (mergedShadow m s.shadow) m.cue

/-- The merge has a row of its own. -/
def hasOwnRow (m : PortMerge) (s : State) : Bool :=
  isRdWrite m s || isLwbWrite m s || isLineModeWrite m s || isPolarityWrite m s || isPreloadWrite m s
    || isPreferenceWrite m s || isIntervalWrite m s || isLevelEdit m s

/-- The write lies in the Setup Block or the Trigger Ring, and the sweep runs. A write of the region is classified with no sweep running
(R18), so a line reset has met this one on the port, and RST# has been released since. -/
def outlastsReset (m : PortMerge) (s : State) : Bool := s.sweep.isSome && regionPart m.off != .deck

/-- A shadowed write ends: it merges. One that outlasts the release of RST# reaches memory alone, since every block runs on the
shadow's reset contents while the sweep runs (R33, R35; the model's choice, assumption 25). Under a second assertion of RST# no sweep
runs, and it merges (the model's choice, assumption 31). -/
def endMerge (m : PortMerge) (s : State) : State := if outlastsReset m s then memoryWord m s else performMerge m s

/-- The merge a command names comes about: a shadowed write that is no taken trigger is on the port and falls in the
command's row (assumption 1). -/
def mergeStep (p : PortMerge → State → Bool) (s : State) : Outcome :=
  match portMerge s with
  | some m => if m.verdict ≠ .taken ∧ p m s = true then .next (arbitrate (endMerge m s)) else .next s
  | none => .next s

/-! ### Taking a trigger (R93) -/

/-- What a command does: from its arguments and the state, the state it leaves and its result. -/
abbrev CommandBody := CommandArgs → State → State × ResultCode

/-- The Intake's values advance (R93, step 2). -/
def advanceIntake (s : State) : State :=
  { s with
    lastSeq := s.expSeq
    expSlot := (s.expSlot + 1) % 64
    expSeq := if s.expSeq = 65535 then 1 else s.expSeq + 1 }

/-- A result write of slot `k` is handed over (R93, step 5). -/
def handResult (k : Nat) (c : ResultCode) (s : State) : State := { s with results := s.results ++ [(k, c)] }

/-- A trigger is taken: its merge, and the steps of R93. -/
def takeTrigger (body : CommandBody) (m : PortMerge) (s : State) : State :=
  let s1 := advanceIntake (performMerge m s)
  let (s2, code) := body (commandArgs s1.shadow m.slot) s1
  handResult m.slot code s2

/-- The command byte of a trigger (R93, step 1). -/
def PortMerge.command (m : PortMerge) : Nat := (laneOf m.access.data 2).toNat

/-- The take a command names comes about: a taken trigger whose command byte `p` holds of is on the port (assumption 1). -/
def commandStep (p : Nat → Bool) (body : CommandBody) (s : State) : Outcome :=
  match portMerge s with
  | some m => if m.verdict = .taken ∧ p m.command = true then .next (arbitrate (takeTrigger body m s)) else .next s
  | none => .next s

end Sys2Proof.Machine
end

