-- ==== Sys2Proof/Machine/Commands.lean ====
section
/-!
DEFINITION. The commands of the Trigger Ring (chapter 6): the argument checks of R97 and the hand-over to each command's owner
(R98), one meaning per row.
-/

namespace Sys2Proof.Machine

/-- A refusal changes nothing. -/
def refuseWith (c : ResultCode) (s : State) : State × ResultCode := (s, c)

/-- FIRE (R98): a fire with source RING, PREVIEW as flagged. -/
def fireBody : CommandBody := fun a s => processFire ⟨.ring, 0, a.b0, a.b1 % 2 == 1⟩ s

/-- The arguments of a RELEASE fail (R97). -/
def releaseBad (a : CommandArgs) : Bool :=
  decide (3 < a.b0) || decide (2 < a.b2) || (a.b0 == 2 && decide (23 < a.b1))
    || (a.b0 == 1 && (a.b1 == 0 || decide (15 < a.b1)))

/-- RELEASE (R138). -/
def releaseBody : CommandBody := fun a s =>
  if releaseBad a then refuseWith .badArgument s else (releaseScope a.b0 a.b1 a.b2 (a.w2 % 65536) s, .done)

/-- LOCK_ARM -/
def lockArmCommand : CommandBody := fun _ s => lockArmBody s
/-- LOCK_REARM -/
def lockRearmCommand : CommandBody := fun _ s => lockRearmBody s
/-- LOCK_RESET -/
def lockResetCommand : CommandBody := fun _ s => lockResetBody s

/-- The arguments of a TIMER_START fail (R97). -/
def timerStartBad (s : State) (t : Nat) : Bool :=
  decide (3 < t) || (timerMode s.shadow t == .hold && lineMode s.shadow (timerLine s.shadow t) != .hold)

/-- TIMER_START (R117). -/
def timerStartBody : CommandBody := fun a s =>
  if timerStartBad s a.b0 then refuseWith .badArgument s else (startTimer a.b0 s, .done)

/-- TIMER_STOP (R117). -/
def timerStopBody : CommandBody := fun a s =>
  if 3 < a.b0 then refuseWith .badArgument s else (stopTimer a.b0 s, .done)

/-- LOAD_OPEN (R41, R42). -/
def loadOpenCommand : CommandBody := fun a s => if loadOpenBad a then refuseWith .badArgument s else loadOpenBody a s
/-- LOAD_CLOSE (R43, R44). -/
def loadCloseCommand : CommandBody := fun a s => loadCloseBody a s
/-- LOAD_ABORT (R45). -/
def loadAbortCommand : CommandBody := fun _ s => loadAbortBody s
/-- CLIP_DISCARD (R65). -/
def clipDiscardCommand : CommandBody := fun a s =>
  if 127 < a.b0 then refuseWith .badArgument s else clipDiscardBody a.b0 s
/-- PIN (R68). -/
def pinCommand : CommandBody := fun a s => if 127 < a.b0 then refuseWith .badArgument s else pinBody a.b0 s
/-- UNPIN (R71). -/
def unpinCommand : CommandBody := fun a s => if 127 < a.b0 then refuseWith .badArgument s else unpinBody a.b0 s
/-- METER_CLEAR (R99). -/
def meterClearBody : CommandBody := fun a s => (clearMeters (BitVec.ofNat 4 a.b0) s, .done)
/-- A command byte without a meaning (R97). -/
def unknownBody : CommandBody := fun _ s => refuseWith .badCommand s

/-- The command table (section 2.2). -/
def commandTable : List (Nat × CommandBody) :=
  [(0x01, fireBody), (0x02, releaseBody), (0x10, lockArmCommand), (0x11, lockRearmCommand), (0x12, lockResetCommand),
   (0x18, timerStartBody), (0x19, timerStopBody), (0x20, loadOpenCommand), (0x21, loadCloseCommand),
   (0x22, loadAbortCommand), (0x23, clipDiscardCommand), (0x28, pinCommand), (0x29, unpinCommand), (0x30, meterClearBody)]

/-- The command table lists the byte. -/
def listed (c : Nat) : Bool := commandTable.any (fun r => r.1 == c)

/-- What the taken command of a byte does. -/
def bodyOf (c : Nat) : CommandBody := ((commandTable.find? (fun r => r.1 == c)).map Prod.snd).getD unknownBody

/-! ### The rows -/

def execUnknownCommand (s : State) : Outcome := commandStep (fun c => !listed c) unknownBody s
def execFire (s : State) : Outcome := commandStep (fun c => c == 0x01) fireBody s
def execRelease (s : State) : Outcome := commandStep (fun c => c == 0x02) releaseBody s
def execLockArm (s : State) : Outcome := commandStep (fun c => c == 0x10) lockArmCommand s
def execLockRearm (s : State) : Outcome := commandStep (fun c => c == 0x11) lockRearmCommand s
def execLockReset (s : State) : Outcome := commandStep (fun c => c == 0x12) lockResetCommand s
def execTimerStart (s : State) : Outcome := commandStep (fun c => c == 0x18) timerStartBody s
def execTimerStop (s : State) : Outcome := commandStep (fun c => c == 0x19) timerStopBody s
def execLoadOpen (s : State) : Outcome := commandStep (fun c => c == 0x20) loadOpenCommand s
def execLoadClose (s : State) : Outcome := commandStep (fun c => c == 0x21) loadCloseCommand s
def execLoadAbort (s : State) : Outcome := commandStep (fun c => c == 0x22) loadAbortCommand s
def execClipDiscard (s : State) : Outcome := commandStep (fun c => c == 0x23) clipDiscardCommand s
def execPin (s : State) : Outcome := commandStep (fun c => c == 0x28) pinCommand s
def execUnpin (s : State) : Outcome := commandStep (fun c => c == 0x29) unpinCommand s
def execMeterClear (s : State) : Outcome := commandStep (fun c => c == 0x30) meterClearBody s

end Sys2Proof.Machine
end

