-- ==== Sys2Proof/Machine/Resets.lean ====
section
/-!
DEFINITION. Power-on, the assertion and the release of RST#, and the start-up sweep (sections 1.4, 2.8, 3.1, 4.5, 5.5, 6.5, 8.6,
9.7, 11.6).
-/

namespace Sys2Proof.Machine

/-! ### Power-on -/

/-- The pins of the lines stand as they are; every filter starts afresh (R103). -/
def pinsKept (s : State) : Vector Line 10 := s.lines.map (fun l => Line.released l.high)

/-- Every block takes its power-on state, the straps are latched, the sweep is about to begin (R21, R33, R172). The SDRAM, the
line pins and the commands waiting are not the part's. -/
def poweredOn (straps : BitVec 4) (s : State) : State :=
  { State.reset with
    pending := s.pending
    mem := s.mem
    crb := straps.toNat
    shadow := defaultSetup straps.toNat
    lines := pinsKept s
    port := none
    draws := s.draws }

/-- POWER_ON. -/
def execPowerOn (straps : BitVec 4) (s : State) : Outcome := .next (arbitrate (startLines (poweredOn straps s)))

/-! ### The assertion of RST# -/

/-- A taken trigger on the port is taken before the reset (R100). -/
def takeBeforeReset (s : State) : State :=
  match portMerge s with
  | some m => if m.verdict = .taken then takeTrigger (bodyOf m.command) m s else s
  | none => s

/-- The access on the memory port as the reset leaves it (R20, R156). -/
def portMet : Option PortAccess → Option PortAccess
  | some (.burst b) => some (.burst { b with stale := true })
  | some (.fill b) => some (.fill { b with stale := true })
  | some (.report k a bs _) => some (.report k a bs true)
  | some (.sweep a bs _) => some (.sweep a bs true)
  | p => p

/-- The second half of an access whose first is on the port or done is abandoned (R20). -/
def firstHalfOnly : AccessClass → AccessClass
  | .converted st todo => .converted st (todo.take 1)
  | .verify j => .verify { j with todo := j.todo.take 1 }
  | c => c

/-- The held access as the reset leaves it (R20): on the port, it runs to its end without its second half, also where RST# is released
before that end (assumption 30); its first half
done, it is done; otherwise it stays held without a class. -/
def heldMet (s : State) : State :=
  match s.held with
  | none => s
  | some ⟨a, none⟩ => { s with held := some ⟨a, none⟩ }
  | some ⟨a, some c⟩ =>
    if s.port = some .controller then { s with held := some ⟨a, some (firstHalfOnly c)⟩ }
    else match c with
      | .converted true _ => accessDone s
      | .verify j => if j.got = [] then { s with held := some ⟨a, none⟩ } else readDone (verifyWord j) s
      | _ => { s with held := some ⟨a, none⟩ }

/-- An entry at the assertion: LOADING and RETIRING become EMPTY, the others keep their fields but use count, and their slot
only where it is READY (R73, R74). -/
def entryMet (s : State) (e : ClipEntry) : ClipEntry :=
  match e.state with
  | .ready | .faulty =>
    { e with
      uses := 0
      headSlot := e.headSlot.filter (fun k => (slotOf s k).state == .ready) }
  | _ => ClipEntry.blank

/-- A slot at the assertion: READY is kept without readers, the others become FREE (R74). -/
def slotMet (h : HeadSlot) : HeadSlot := if h.state = .ready then { h with readers := 0 } else HeadSlot.blank

/-- CLIP_EMPTY owed for the entries that are RETIRING at the assertion (R75). -/
def owedRetiring (s : State) : List OwedEmpty :=
  (indices 128 (fun c => (clipOf s c).state == .retiring)).map (fun c => ⟨c, 1, (clipOf s c).base⟩)

/-- The blocks at the assertion of RST# (R20, R46, R73, R74, R91, R109, R116, R143, R156, R157, R180). -/
def assertReset (s : State) : State :=
  { s with
    rst := true
    port := portMet s.port
    writeBacks := []
    sweep := none
    session := none
    clips := s.clips.map (entryMet s)
    mirrorFlags := Vector.replicate 128 false
    mirrorAgain := false
    owed := s.owed ++ owedRetiring s
    slots := s.slots.map slotMet
    offer := none
    results := []
    lines := pinsKept s
    lockout := Lockout.blank
    timers := Vector.replicate 4 CueTimer.blank
    voices := Vector.replicate 24 Voice.blank
    buses := Vector.replicate 4 Bus.blank
    queue := []
    lost := 0
    nextSeq := 1
    w := 0
    attn := false
    marks := Vector.replicate 5 false
    boardCount := 0
    boardCopy := none }

/-- RST_ASSERT. -/
def execRstAssert (s : State) : Outcome :=
  if s.rst then .next s else .next (assertReset (heldMet (takeBeforeReset s)))

/-! ### The release of RST# -/

/-- What R4 finds an entry under: the Control Region or the default Load Window. -/
def underReset (crb : Nat) (e : ClipEntry) : Bool :=
  meetsExtent (regionRange crb) e || meetsExtent (windowRange (defaultLwb crb)) e

/-- The tests of R4: every entry under the region or the default window becomes EMPTY, its slot FREE, its CLIP_EMPTY owed. -/
def testKept (s : State) : State :=
  let hit := fun c => underReset s.crb (clipOf s c)
  { s with
    clips := s.clips.map (fun e => if underReset s.crb e then ClipEntry.blank else e)
    slots := s.slots.map (fun h => if h.state != .free && hit h.clip then HeadSlot.blank else h)
    owed := s.owed ++ (indices 128 hit).map (fun c => ⟨c, 2, (clipOf s c).base⟩) }

/-- The blocks at the release of RST#: the straps are latched, the shadow takes its reset contents, the Intake restarts, the
kept clips are tested, the sweep is about to begin (R2, R4, R33, R91, R172). An access that the reset met and that is still on the
port stays there and runs to its end (R20), with the half of a load access that it performs, and the sweep waits for the port, where
R21 has the port free and no half still to perform: the model's choice (assumption 30). -/
def releaseReset (straps : BitVec 4) (s : State) : State :=
  testKept { s with
    rst := false
    crb := straps.toNat
    shadow := defaultSetup straps.toNat ++ deckCells s.shadow
    writeBacks := []
    results := []
    sweep := some 0
    expSlot := 0
    expSeq := 1
    lastSeq := 0
    lines := pinsKept s
    lockout := Lockout.blank
    timers := Vector.replicate 4 CueTimer.blank
    frameCounter := 0
    marks := Vector.replicate 5 false
    boardCount := 0 }

/-- RST_RELEASE. -/
def execRstRelease (straps : BitVec 4) (s : State) : Outcome :=
  if s.rst then .next (arbitrate (classifyHeld (startLines (releaseReset straps s)))) else .next s

/-! ### The sweep -/

/-- Entries that are READY or FAULTY (R36). -/
def storedClips (s : State) : Nat :=
  (indices 128 (fun c => (clipOf s c).state == .ready || (clipOf s c).state == .faulty)).length

/-- The CLIP_EMPTY events owed are raised in one run, lowest clip number first (R75). -/
def raiseOwed (s : State) : State :=
  ((List.range 128).flatMap (fun c => s.owed.filter (fun o => o.clip == c))).foldl
    (fun t o => raiseEvent .clipEmpty o.clip o.cause (BitVec.ofNat 32 o.base) t) { s with owed := [] }

/-- The last write of the sweep has ended (R34, R36, R75, R180): the first event of the run, the CLIP_EMPTY events owed, the
marks, and then the held access is classified (assumption 12). -/
def endSweep (s : State) : State :=
  let kind := if s.deckClear then .powerUp else .lineReset
  let s1 := { s with sweep := none, deckClear := false }
  classifyHeld (raiseOwed (markAll (raiseEvent kind s.crb (storedClips s) 0 s1)))

/-- A part write changes memory, and the shadow at the same moment where the word is shadowed (R24); a write that a reset met
on the port no longer reaches the shadow once RST# is released (R33; assumption 15). One that ends under a second assertion of RST#
reaches it again, if its address is that of a shadowed word by the CRB then latched (the model's choice, assumption 31). -/
def partWrite (addr : Nat) (bytes : List Byte) (orphan : Bool) (s : State) : State :=
  let off := addr - regionBase s.crb
  let shadowed := decide (regionBase s.crb ≤ addr) && decide (off < 0x5400) && (!orphan || s.rst)
  portFree { s with
    mem := writeBytes s.mem addr bytes
    shadow := if shadowed then writeBytes s.shadow off bytes else s.shadow }

/-- One write of the sweep ends (R34, R18). -/
def sweepWriteEnds (addr : Nat) (bytes : List Byte) (s : State) : State :=
  let s1 := partWrite addr bytes false s
  match s1.sweep with
  | none => arbitrate s1
  | some i =>
    if (sweepBlock s1 (i + 1)).isSome then arbitrateAside true { s1 with sweep := some (i + 1) }
    else arbitrate (endSweep s1)

/-- SWEEP_WRITE. -/
def execSweepWrite (s : State) : Outcome :=
  match s.port with
  | some (.sweep addr bytes orphan) =>
    if orphan then .next (arbitrate (partWrite addr bytes true s)) else .next (sweepWriteEnds addr bytes s)
  | _ => .next s

end Sys2Proof.Machine
end

