-- ==== Sys2Proof/Machine/Accesses.lean ====
section
/-!
DEFINITION. The rows of the controller's accesses: arrivals at the controller port, their endings on the memory port, and the
merges of shadowed writes.
-/

namespace Sys2Proof.Machine

/-! ### Arrivals -/

/-- PLAIN_ACCESS (R5). -/
def execPlainAccess (write : Bool) (addr : BitVec 28) (lanes : Lanes) (data : Word) (s : State) : Outcome :=
  arriveAs (fun k => k == .plain) (accessOf write addr lanes data) s

/-- CONTROL_REGION_READ (R7): a read anywhere in the Control Region. -/
def execControlRegionRead (addr : BitVec 28) (s : State) : Outcome :=
  if inRegion s (accessOf false addr 0 0).addr then arriveAs (fun _ => true) (accessOf false addr 0 0) s else .next s

/-- NO_LANE_WRITE (R13): complete at arrival, whatever its address. -/
def execNoLaneWrite (_addr : BitVec 28) (_data : Word) (s : State) : Outcome :=
  if s.held.isNone then .next { s with done := true } else .next s

/-- REPORT_AREA_WRITE (R8). -/
def execReportAreaWrite (addr : BitVec 28) (lanes : Lanes) (data : Word) (s : State) : Outcome :=
  arriveAs (fun k => k == .report) (accessOf true addr lanes data) s

/-- The class is a guarded extent. -/
def isExtent : Arrival → Bool
  | .extent _ => true
  | _ => false

/-- CLIP_EXTENT_WRITE (R11). -/
def execClipExtentWrite (addr : BitVec 28) (lanes : Lanes) (data : Word) (s : State) : Outcome :=
  arriveAs isExtent (accessOf true addr lanes data) s

/-- The class is a sample write. -/
def isLoadWrite : Arrival → Bool
  | .loadWrite _ => true
  | _ => false

/-- LOAD_WINDOW_WRITE (R52). -/
def execLoadWindowWrite (addr : BitVec 28) (lanes : Lanes) (data : Word) (s : State) : Outcome :=
  arriveAs isLoadWrite (accessOf true addr lanes data) s

/-- The class is a verify read. -/
def isVerify : Arrival → Bool
  | .verify _ => true
  | _ => false

/-- VERIFY_READ (R55). -/
def execVerifyRead (addr : BitVec 28) (s : State) : Outcome := arriveAs isVerify (accessOf false addr 0 0) s

/-- The class is a shadowed write. -/
def isShadowed : Arrival → Bool
  | .shadowed _ => true
  | _ => false

/-- SHADOWED_WRITE_ARRIVAL (R6). -/
def execShadowedWriteArrival (addr : BitVec 28) (lanes : Lanes) (data : Word) (s : State) : Outcome :=
  arriveAs isShadowed (accessOf true addr lanes data) s

/-! ### Endings -/

/-- MEMORY_ACCESS_END (R16). -/
def execMemoryAccessEnd (s : State) : Outcome :=
  match onPort s with
  | some (a, .direct) => .next (arbitrate (endDirect a s))
  | _ => .next s

/-- CONVERTED_WRITE_HALF_END (R51). -/
def execConvertedWriteHalfEnd (s : State) : Outcome :=
  match onPort s with
  | some (a, .converted _ todo) => .next (arbitrate (endConverted a todo s))
  | _ => .next s

/-- VERIFY_READ_HALF_END (R56). -/
def execVerifyReadHalfEnd (s : State) : Outcome :=
  match onPort s with
  | some (a, .verify j) => .next (arbitrate (endVerify a j s))
  | _ => .next s

/-! ### Merges -/

/-- SHADOW_WRITE (R25): the merge of a write that has no row of its own. -/
def execShadowWrite (s : State) : Outcome := mergeStep (fun m t => !hasOwnRow m t) s
/-- RD_WRITE (R176). -/
def execRdWrite (s : State) : Outcome := mergeStep isRdWrite s
/-- LWB_WRITE (R3). -/
def execLwbWrite (s : State) : Outcome := mergeStep isLwbWrite s
/-- LINE_MODE_WRITE (R104). -/
def execLineModeWrite (s : State) : Outcome := mergeStep isLineModeWrite s
/-- POLARITY_WRITE (R103). -/
def execPolarityWrite (s : State) : Outcome := mergeStep isPolarityWrite s
/-- TIMER_PRELOAD_WRITE (R31). -/
def execTimerPreloadWrite (s : State) : Outcome := mergeStep isPreloadWrite s
/-- CLOCK_PREFERENCE_WRITE (R171). -/
def execClockPreferenceWrite (s : State) : Outcome := mergeStep isPreferenceWrite s
/-- BOARD_INTERVAL_WRITE (R178). -/
def execBoardIntervalWrite (s : State) : Outcome := mergeStep isIntervalWrite s
/-- CUE_LEVEL_EDIT (R81). -/
def execCueLevelEdit (s : State) : Outcome := mergeStep isLevelEdit s

end Sys2Proof.Machine
end

