-- ==== Sys2Proof/Machine/Reports.lean ====
section
/-!
DEFINITION. The rows of the part's own accesses: the endings of the Report Writer's writes (chapter 11) and the landings of the
Fetcher's bursts (chapter 9).
-/

namespace Sys2Proof.Machine

/-- A LOST record is appended where events were lost (R174). -/
def appendLost (s : State) : State :=
  if s.lost = 0 then s else { appendEvent .lost 0 0 (BitVec.ofNat 32 s.lost) s with lost := 0 }

/-- An event record write ends (R175). -/
def eventWritten (s : State) : State :=
  appendLost (mark 0 (judgeAttn { s with queue := s.queue.drop 1, w := s.w + 1 }))

/-- A clamp write-back of the field at `off` ends (R29, R32). -/
def clampWritten (off : Nat) (s : State) : State :=
  if off = 0x04 then judgeAttn s else if off = 0x06 then restartBoard s else s

/-- A quarter of a voice record has been written (R178). -/
def quarterWritten (q : Nat) (s : State) : State :=
  { s with boardCopy := if q < 3 then s.boardCopy.map (fun c => { c with next := q + 1 }) else none }

/-- A mirror write ends: the entry's flag is cleared, unless the entry has changed since the grant (R63). -/
def mirrorWritten (c : Nat) (s : State) : State :=
  { s with mirrorFlags := bankSet s.mirrorFlags c (bankGet s.mirrorFlags c false && s.mirrorAgain), mirrorAgain := false }

/-- What the part does at the end of a report write. -/
def reportWritten (k : ReportKind) (s : State) : State :=
  match k with
  | .event => eventWritten s
  | .result slot => { s with results := s.results.filter (fun r => r.1 != slot) }
  | .clamp off => clampWritten off s
  | .status _ => s
  | .mirror c => mirrorWritten c s
  | .board _ q => quarterWritten q s

/-- A report write on the port ends: memory, and the shadow of a shadowed word, take it at the same moment; nothing more
follows of one that a reset met (R20). -/
def reportStep (p : ReportKind → Bool) (s : State) : Outcome :=
  match s.port with
  | some (.report k addr bytes orphan) =>
    if p k then
      let s1 := partWrite addr bytes orphan s
      .next (arbitrate (if orphan then s1 else reportWritten k s1))
    else .next s
  | _ => .next s

def isResult : ReportKind → Bool
  | .result _ => true
  | _ => false
def isClamp : ReportKind → Bool
  | .clamp _ => true
  | _ => false
def isStatus : ReportKind → Bool
  | .status _ => true
  | _ => false
def isMirror : ReportKind → Bool
  | .mirror _ => true
  | _ => false
def isBoard : ReportKind → Bool
  | .board _ _ => true
  | _ => false

/-- RESULT_WRITE (R95). -/
def execResultWrite (s : State) : Outcome := reportStep isResult s
/-- CLAMP_WRITE_BACK (R29). -/
def execClampWriteBack (s : State) : Outcome := reportStep isClamp s
/-- EVENT_RECORD_WRITE (R175). -/
def execEventRecordWrite (s : State) : Outcome := reportStep (fun k => k == .event) s
/-- STATUS_BLOCK_WRITE (R179). -/
def execStatusBlockWrite (s : State) : Outcome := reportStep isStatus s
/-- DIRECTORY_MIRROR_WRITE (R63). -/
def execDirectoryMirrorWrite (s : State) : Outcome := reportStep isMirror s
/-- VOICE_BOARD_QUARTER_WRITE (R178). -/
def execVoiceBoardQuarterWrite (s : State) : Outcome := reportStep isBoard s

/-- FETCH_BURST_LAND (R149). -/
def execFetchBurstLand (s : State) : Outcome :=
  match s.port with
  | some (.burst b) => .next (arbitrate (landBurst b (portFree s)))
  | _ => .next s

/-- HEAD_FILL_BURST_LAND (R69). -/
def execHeadFillBurstLand (s : State) : Outcome :=
  match s.port with
  | some (.fill b) => .next (arbitrate (landFill b (portFree s)))
  | _ => .next s

end Sys2Proof.Machine
end

