-- ==== Sys2Proof/Machine/Timed.lean ====
section
/-!
DEFINITION. The rows that time brings: edges of the lines and of WCLK, expiries, and what an idle part does. A command that names
an edge or an expiry stands for the time up to it and the event itself; it comes about where no other timer runs out sooner
(assumption 4).
-/

namespace Sys2Proof.Machine

/-- `d` reference periods pass, and then an event is taken; it does not come about where another timer runs out sooner. -/
def afterTime (d : Nat) (event : State → State) (s : State) : Outcome :=
  if mayPass d s then .next (arbitrate (event (elapse d s))) else .next s

/-- LINE_EDGE (R102): `after` reference periods pass, then line pin `line` takes level `high`. -/
def execLineEdge (line : Fin 10) (high : Bool) (after : Nat) (s : State) : Outcome :=
  afterTime after (pinEdge line.val high) s

/-- FILTER_TIMER_EXPIRY (R102). -/
def execFilterTimerExpiry (line : Fin 10) (s : State) : Outcome :=
  match filterLeft s line.val with
  | some d => afterTime d (filterExpiry line.val) s
  | none => .next s

/-- PENALTY_END (R113). -/
def execPenaltyEnd (line : Fin 8) (s : State) : Outcome :=
  match (lineOf s line.val).penalty with
  | some d => afterTime d (setPenalty line.val 0) s
  | none => .next s

/-- The frame timer expires (R167 to R170). -/
def frameTimerStep (order : FrameChoice) (s : State) : Outcome := afterTime s.clock.frameTimer (frameExpiry order) s

/-- WCLK rises `after` reference periods later (R167 to R169). -/
def wclkStep (after : Nat) (order : FrameChoice) (s : State) : Outcome := afterTime after (wclkRise order) s

/-- The frame timer expires, its free parts in an order that no command gives (assumption 6). -/
def freeFrameStep (s : State) : Outcome :=
  afterTime s.clock.frameTimer (fun t => frameExpiry (Config.frameChoice s.draws) (drawOne t)) s

/-- FRAME_TIMER_EXPIRY. -/
def execFrameTimerExpiry (order : FrameChoice) (s : State) : Outcome := frameTimerStep order s

/-- WCLK_EDGE. -/
def execWclkEdge (after : Nat) (order : FrameChoice) (s : State) : Outcome := wclkStep after order s

/-- TIMER_EXPIRY (R118 to R121): the frame event that brings cue timer `t` to 0, whole (assumption 4); RST# keeps frame events from
the timers. -/
def execTimerExpiry (t : Fin 4) (s : State) : Outcome :=
  if reachesZero s t.val && !s.rst then freeFrameStep s else .next s

/-- BOARD_INTERVAL_EXPIRY (R178): the frame event that brings the board interval count to the interval, whole (assumption 4). -/
def execBoardIntervalExpiry (s : State) : Outcome :=
  if reachesInterval s && !s.rst then freeFrameStep s else .next s

/-- GAP_TIMER_EXPIRY (R168). -/
def execGapTimerExpiry (s : State) : Outcome :=
  match gapLeft s with
  | some d => afterTime d gapExpiry s
  | none => .next s

/-! ### An idle part -/

/-- What stands due and has not been taken. -/
inductive Due where
  | filter (n : Fin 10)
  | penalty (n : Fin 8)
  | frame
  | gap
  deriving DecidableEq, Repr

/-- The expiries that stand due. -/
def dueNow (s : State) : List Due :=
  ((List.finRange 10).filter (fun n => filterLeft s n.val == some 0)).map .filter
    ++ ((List.finRange 8).filter (fun n => (lineOf s n.val).penalty == some 0)).map .penalty
    ++ (if s.clock.frameTimer = 0 then [.frame] else [])
    ++ (if gapLeft s = some 0 then [.gap] else [])

/-- An expiry that stands due is taken. -/
def takeDue (d : Due) (s : State) : Outcome :=
  match d with
  | .filter n => execFilterTimerExpiry n s
  | .penalty n => execPenaltyEnd n s
  | .frame => freeFrameStep s
  | .gap => execGapTimerExpiry s

/-- One of several, by a free choice; of one, that one. -/
def chooseDue (s : State) (d : Due) : List Due → Due × State
  | [] => (d, s)
  | d' :: ds => ((d :: d' :: ds).getD (Config.pick s.draws % (ds.length + 2)) d, { s with draws := s.draws + 1 })

/-- A part with no command waiting (assumption 4): an expiry that stands due is taken, and else a reference period passes. -/
def idle (s : State) : Outcome :=
  match dueNow s with
  | [] => .next (elapse 1 s)
  | d :: ds =>
    let (chosen, s') := chooseDue s d ds
    takeDue chosen s'

end Sys2Proof.Machine
end

