-- ==== Sys2Proof/Machine/Dispatch.lean ====
section
/-!
DEFINITION. One arm per command of the table, in the table's order.
-/

namespace Sys2Proof.Machine

def exec (i : Instr) (s : State) : Host.Outcome State Fault Refusal :=
  match i with
  | .powerOn straps => Sys2Proof.Machine.execPowerOn straps s
  | .rstAssert => Sys2Proof.Machine.execRstAssert s
  | .rstRelease straps => Sys2Proof.Machine.execRstRelease straps s
  | .sweepWrite => Sys2Proof.Machine.execSweepWrite s
  | .plainAccess write addr lanes data => Sys2Proof.Machine.execPlainAccess write addr lanes data s
  | .controlRegionRead addr => Sys2Proof.Machine.execControlRegionRead addr s
  | .memoryAccessEnd => Sys2Proof.Machine.execMemoryAccessEnd s
  | .noLaneWrite addr data => Sys2Proof.Machine.execNoLaneWrite addr data s
  | .reportAreaWrite addr lanes data => Sys2Proof.Machine.execReportAreaWrite addr lanes data s
  | .clipExtentWrite addr lanes data => Sys2Proof.Machine.execClipExtentWrite addr lanes data s
  | .loadWindowWrite addr lanes data => Sys2Proof.Machine.execLoadWindowWrite addr lanes data s
  | .convertedWriteHalfEnd => Sys2Proof.Machine.execConvertedWriteHalfEnd s
  | .verifyRead addr => Sys2Proof.Machine.execVerifyRead addr s
  | .verifyReadHalfEnd => Sys2Proof.Machine.execVerifyReadHalfEnd s
  | .shadowedWriteArrival addr lanes data => Sys2Proof.Machine.execShadowedWriteArrival addr lanes data s
  | .shadowWrite => Sys2Proof.Machine.execShadowWrite s
  | .rdWrite => Sys2Proof.Machine.execRdWrite s
  | .lwbWrite => Sys2Proof.Machine.execLwbWrite s
  | .lineModeWrite => Sys2Proof.Machine.execLineModeWrite s
  | .polarityWrite => Sys2Proof.Machine.execPolarityWrite s
  | .timerPreloadWrite => Sys2Proof.Machine.execTimerPreloadWrite s
  | .clockPreferenceWrite => Sys2Proof.Machine.execClockPreferenceWrite s
  | .boardIntervalWrite => Sys2Proof.Machine.execBoardIntervalWrite s
  | .cueLevelEdit => Sys2Proof.Machine.execCueLevelEdit s
  | .unknownCommand => Sys2Proof.Machine.execUnknownCommand s
  | .fire => Sys2Proof.Machine.execFire s
  | .release => Sys2Proof.Machine.execRelease s
  | .lockArm => Sys2Proof.Machine.execLockArm s
  | .lockRearm => Sys2Proof.Machine.execLockRearm s
  | .lockReset => Sys2Proof.Machine.execLockReset s
  | .timerStart => Sys2Proof.Machine.execTimerStart s
  | .timerStop => Sys2Proof.Machine.execTimerStop s
  | .loadOpen => Sys2Proof.Machine.execLoadOpen s
  | .loadClose => Sys2Proof.Machine.execLoadClose s
  | .loadAbort => Sys2Proof.Machine.execLoadAbort s
  | .clipDiscard => Sys2Proof.Machine.execClipDiscard s
  | .pin => Sys2Proof.Machine.execPin s
  | .unpin => Sys2Proof.Machine.execUnpin s
  | .meterClear => Sys2Proof.Machine.execMeterClear s
  | .resultWrite => Sys2Proof.Machine.execResultWrite s
  | .clampWriteBack => Sys2Proof.Machine.execClampWriteBack s
  | .eventRecordWrite => Sys2Proof.Machine.execEventRecordWrite s
  | .statusBlockWrite => Sys2Proof.Machine.execStatusBlockWrite s
  | .directoryMirrorWrite => Sys2Proof.Machine.execDirectoryMirrorWrite s
  | .voiceBoardQuarterWrite => Sys2Proof.Machine.execVoiceBoardQuarterWrite s
  | .fetchBurstLand => Sys2Proof.Machine.execFetchBurstLand s
  | .headFillBurstLand => Sys2Proof.Machine.execHeadFillBurstLand s
  | .lineEdge line high after => Sys2Proof.Machine.execLineEdge line high after s
  | .filterTimerExpiry line => Sys2Proof.Machine.execFilterTimerExpiry line s
  | .penaltyEnd line => Sys2Proof.Machine.execPenaltyEnd line s
  | .timerExpiry t => Sys2Proof.Machine.execTimerExpiry t s
  | .boardIntervalExpiry => Sys2Proof.Machine.execBoardIntervalExpiry s
  | .frameTimerExpiry order => Sys2Proof.Machine.execFrameTimerExpiry order s
  | .wclkEdge after order => Sys2Proof.Machine.execWclkEdge after order s
  | .gapTimerExpiry => Sys2Proof.Machine.execGapTimerExpiry s

end Sys2Proof.Machine
end

