-- ==== Sys2Proof/Safety.lean ====
section
/-!
DEFINITION. The terms that statements about the part are written in: what one part of the state keeps, what a write of lanes or
of bytes leaves in memory, a trigger that is taken, and the invariants of a run. The part has no state in which it stops, so a
safe run is one that keeps these invariants.
-/

namespace Sys2Proof.Machine

/-! ### Frames

Each step ends with a grant of the memory port (R15), where the port is free and RST# is not asserted. A grant puts one access on
the port, and what it takes or moves besides follows from that access alone: a write-back leaves the list, a block its mark, a
voice its board flag, the changes of a mirror entry seen so far are forgotten, and the fetch position and the frames in flight of
the one voice served move. The frame gives the grant that room and no more; the head fill burst on offer alone is left out of it. -/

/-- The parts of the state that a frame speaks of. `port` is the access on the memory port, its stale mark apart, which is `stale`. -/
inductive Part where
  | settings | sweep | path | port | stale | mem | shadow | writeBacks | session | clips | mirror | slots | intake | results | lines
  | lockout | timers | voices | buses | clock | counter | queue | ring | marks | copy | interval | waiting
  deriving DecidableEq, Repr

/-- Voice `v` behind a grant of `g`: with its burst on the port, the frames in flight are the burst's and the fetch position has gone
on behind it, wrapped at the loop end (R148); with the first quarter of its record there, its board flag is taken (R178). -/
def servedVoice (g : Option PortAccess) (v : Nat) (x : Voice) : Voice :=
  match g with
  | some (.burst b) =>
    if b.voice = v then
      { x with
        inFlight := b.frames
        fetchPos := if x.loop = true ∧ x.fetchPos + b.frames = x.le then x.ls else x.fetchPos + b.frames }
    else x
  | some (.report (.board w 0) _ _ _) => if w = v then { x with boardFlag := false } else x
  | _ => x

/-- The write-backs that a grant of `g` leaves pending: that of the field written leaves the list (R29). -/
def writeBacksLeft (g : Option PortAccess) (bs : List WriteBack) : List WriteBack :=
  match g with
  | some (.report (.clamp off) _ _ _) => bs.filter (fun b => b.off != off)
  | _ => bs

/-- The marks that a grant of `g` leaves: that of the block written is taken (R179). -/
def marksLeft (g : Option PortAccess) (ms : Vector Bool 5) : Vector Bool 5 :=
  match g with
  | some (.report (.status i) _ _ _) => bankSet ms i false
  | _ => ms

/-- Whether a mirror entry has changed since the grant of its write (R63): a grant of such a write starts afresh. -/
def againLeft (g : Option PortAccess) (again : Bool) : Bool :=
  match g with
  | some (.report (.mirror _) _ _ _) => false
  | _ => again

/-- The copy of a voice record that is being written (R178): a first quarter granted makes a new one of its voice. -/
def CopyLeft (g : Option PortAccess) (was now : Option BoardCopy) : Prop :=
  match g with
  | some (.report (.board v 0) _ _ _) => ∃ bytes, now = some ⟨v, 0, bytes⟩
  | _ => now = was

/-- Part `p` of the state is the same in `s` and `t`, but for what a grant of `g` takes of it. An access on the port stays there,
though a burst may have turned stale (R16, R154). -/
def Kept (g : Option PortAccess) (p : Part) (s t : State) : Prop :=
  match p with
  | .settings => t.rst = s.rst ∧ t.crb = s.crb
  | .sweep => t.sweep = s.sweep ∧ t.deckClear = s.deckClear
  | .path => t.held = s.held ∧ t.done = s.done ∧ t.readData = s.readData
  | .port => s.port = none ∨ t.port = s.port ∨ ∃ b, s.port = some (.burst b) ∧ t.port = some (.burst { b with stale := true })
  | .stale => ∀ b, s.port = some (.burst b) → t.port = some (.burst { b with stale := true }) → b.stale = true
  | .mem => ∀ a, readByte t.mem a = readByte s.mem a
  | .shadow => ∀ a, readByte t.shadow a = readByte s.shadow a
  | .writeBacks => t.writeBacks = writeBacksLeft g s.writeBacks
  | .session => t.session = s.session
  | .clips => t.clips = s.clips ∧ t.owed = s.owed
  | .mirror => t.mirrorFlags = s.mirrorFlags ∧ t.mirrorAgain = againLeft g s.mirrorAgain
  | .slots => t.slots = s.slots
  | .intake => t.expSlot = s.expSlot ∧ t.expSeq = s.expSeq ∧ t.lastSeq = s.lastSeq
  | .results => t.results = s.results
  | .lines => t.lines = s.lines
  | .lockout => t.lockout = s.lockout
  | .timers => t.timers = s.timers
  | .voices => ∀ v, voiceOf t v = servedVoice g v (voiceOf s v)
  | .buses => t.buses = s.buses
  | .clock => t.clock = s.clock
  | .counter => t.frameCounter = s.frameCounter
  | .queue => t.queue = s.queue ∧ t.lost = s.lost ∧ t.nextSeq = s.nextSeq
  | .ring => t.w = s.w ∧ t.attn = s.attn
  | .marks => t.marks = marksLeft g s.marks
  | .copy => CopyLeft g s.boardCopy t.boardCopy
  | .interval => t.boardCount = s.boardCount
  | .waiting => t.pending = s.pending ∧ t.draws = s.draws

/-- Part `p` of the state is the same in `s` and `t`. -/
def Same (p : Part) (s t : State) : Prop := Kept none p s t

/-- The access that the grant at the end of a step has put on the port: the port was free, or the step changes the access there. -/
def granted (ps : List Part) (s t : State) : Option PortAccess := if s.port = none ∨ Part.port ∈ ps then t.port else none

/-- Every part but those of `ps` is the same in `s` and `t`, but for what the grant at the end of the step takes. -/
def unchangedBut (ps : List Part) (s t : State) : Prop := ∀ p, p ∉ ps → Kept (granted ps s t) p s t

/-- Voice `v` holds the record `x` at `t`, a step from `s` that ends no access on the port, but for the grant. -/
def VoiceHolds (s t : State) (v : Nat) (x : Voice) : Prop := voiceOf t v = servedVoice (granted [] s t) v x

/-- The pending queue of `t` is what raising one event at `s` makes of it (R173). -/
def Raises (k : EventKind) (a b : Nat) (value : Word) (s t : State) : Prop :=
  t.queue = (raiseEvent k a b value s).queue ∧ t.lost = (raiseEvent k a b value s).lost ∧
    t.nextSeq = (raiseEvent k a b value s).nextSeq

/-- What an event record says, but for its sequence number and its repeats. -/
def eventOf (r : EventRecord) : EventKind × BitVec 16 × BitVec 16 × BitVec 32 × BitVec 32 :=
  (r.kind, r.subjectA, r.subjectB, r.value, r.stamp)

/-- An event as a block raises it: kind, subject A, subject B, value. -/
abbrev RaisedEvent := EventKind × Nat × Nat × Word

/-- `n` more events can be appended to the pending queue: RST# is not asserted, no sweep runs, and there is room (R173). -/
def CanAppend (n : Nat) (s : State) : Prop := s.rst = false ∧ s.sweep = none ∧ s.queue.length + n ≤ 16

/-- The queue of `t` is that of `s` with these events behind it, stamped with the frame counter of `s`. -/
def Appended (es : List RaisedEvent) (s t : State) : Prop :=
  t.queue.map eventOf = s.queue.map eventOf ++
    es.map (fun e => (e.1, BitVec.ofNat 16 e.2.1, BitVec.ofNat 16 e.2.2.1, e.2.2.2, s.frameCounter))

/-! ### What a write leaves -/

/-- The enabled lanes of the word at `a` take those of `w`; every other byte is as it was. -/
def LanesWritten (a : Nat) (lanes : Lanes) (w : Word) (m m' : Cells) : Prop :=
  ∀ b, readByte m' b = if a ≤ b ∧ b < a + 4 ∧ lanes.getLsbD (b - a) = true then laneOf w (b - a) else readByte m b

/-- The bytes from `a` upward are those of the list; every other byte is as it was. -/
def BytesWritten (a : Nat) (bytes : List Byte) (m m' : Cells) : Prop :=
  ∀ b, readByte m' b = if a ≤ b ∧ b < a + bytes.length then bytes.getD (b - a) 0 else readByte m b

/-! ### Accesses -/

/-- A controller access may be judged on arrival: none is held, it is no write without lanes, and nothing holds it unclassified
(R5, R13, R18, R20). -/
def Arrives (a : Access) (s : State) : Prop := s.held = none ∧ noLane a = false ∧ unclassified s a.addr = false

/-- The controller sees its access done, and its read data are as they were. -/
def DoneAt (s t : State) : Prop := t.held = none ∧ t.done = true ∧ t.readData = s.readData

/-- An accepted shadowed write that is no taken trigger is on the port. -/
def OnPortToMerge (s : State) (m : PortMerge) : Prop := portMerge s = some m ∧ m.verdict ≠ .taken

/-- Such a write of the Setup Block or the Trigger Ring is there while the sweep runs: a line reset has met it, and RST# has been
released since. -/
def OutlastsReset (s : State) (m : PortMerge) : Prop := OnPortToMerge s m ∧ s.sweep ≠ none ∧ regionPart m.off ≠ .deck

/-- Such a write is there and will merge: it does not outlast a reset. -/
def Merges (s : State) (m : PortMerge) : Prop := OnPortToMerge s m ∧ (s.sweep = none ∨ regionPart m.off = .deck)

/-- A held access without a class has been classified and served at `t` (R18, R20, R37): held for the port with its class, or dropped
and done; a verdict, a refusal or a clamp is judged against the shadow and the Intake as `t` has them. -/
def Served (a : Access) (r t : State) : Prop :=
  (arrivalOf a t = .plain ∨ arrivalOf a t = .regionRead → t.held = some ⟨a, some .direct⟩ ∧ t.done = false) ∧
  (arrivalOf a t = .report ∨ (∃ c, arrivalOf a t = .extent c) → DoneAt r t) ∧
  (∀ off, arrivalOf a t = .shadowed off →
    (regionPart off = .deck → t.held = some ⟨a, some (.shadowed off a.lanes .data)⟩ ∧ t.done = false) ∧
    (regionPart off = .ring → t.held = some ⟨a, some (.shadowed off a.lanes (ringVerdict t off a))⟩ ∧ t.done = false) ∧
    (regionPart off = .setup →
      let sh := writeLanes t.shadow off a.lanes a.data
      ((∃ f, refusedField t sh = some f) → DoneAt r t) ∧
      (refusedField t sh = none → clamped t off a.lanes sh = [] → a.lanes ≠ 0 →
        t.held = some ⟨a, some (.shadowed off a.lanes .data)⟩ ∧ t.done = false)))

/-- A merge of one word: memory and shadow take the lanes, the write-backs of the fields written are gone and all others stand, but
for one that the port is granted to, and the controller sees its access done (R25, R30). -/
def Merged (m : PortMerge) (s t : State) : Prop :=
  LanesWritten m.access.addr m.lanes m.access.data s.mem t.mem ∧ LanesWritten m.off m.lanes m.access.data s.shadow t.shadow ∧
    t.writeBacks = writeBacksLeft t.port (s.writeBacks.filter (fun b => !m.writes b.off b.width)) ∧ DoneAt s t

/-- The rows of merges, each with what a merge must be to fall in it. -/
def mergeRows : List (Instr × (PortMerge → State → Bool)) :=
  [(.shadowWrite, fun m t => !hasOwnRow m t), (.rdWrite, isRdWrite), (.lwbWrite, isLwbWrite),
   (.lineModeWrite, isLineModeWrite), (.polarityWrite, isPolarityWrite), (.timerPreloadWrite, isPreloadWrite),
   (.clockPreferenceWrite, isPreferenceWrite), (.boardIntervalWrite, isIntervalWrite), (.cueLevelEdit, isLevelEdit)]

/-- The parts every merge changes. What it leaves of the write-backs is in `Merged`. -/
def mergeParts : List Part := [.path, .port, .mem, .shadow, .writeBacks]

/-- A write that would leave the shadow as `sh` changes the refusable field at offset `f` while R27's condition for it holds. -/
def FieldRefused (s : State) (sh : Cells) (f : Nat) : Prop :=
  (f = 0x01 ∧ lwb sh ≠ lwb s.shadow ∧ lwbForbidden s (lwb sh) = true) ∨
  (∃ n, n < 8 ∧ f = 0x10 + 4 * n ∧ lineModeCode sh n ≠ lineModeCode s.shadow n ∧ s.lockout.state ≠ .unlocked) ∨
  (∃ k, k < 4 ∧ f = 0x30 + 8 * k ∧ timerModeCode sh k ≠ timerModeCode s.shadow k ∧ (timerOf s k).phase ≠ .stopped) ∨
  (∃ k, k < 4 ∧ f = 0x32 + 8 * k ∧ timerLine sh k ≠ timerLine s.shadow k ∧ (timerOf s k).phase ≠ .stopped)

/-! ### The CRC of a load session -/

/-- One of the eight shifts of the CRC register, as R60 describes it, on numbers. -/
def crcShifted (r : Nat) : Nat := if 32768 ≤ r then (2 * r - 65536) ^^^ 0x1021 else 2 * r

/-- The CRC register after one byte: the byte is combined into its upper eight bits, and it is shifted eight times (R60). -/
def crcAfterByte (r b : Nat) : Nat := (List.range 8).foldl (fun q _ => crcShifted q) (r ^^^ (256 * b))

/-- The CRC register after one stored sample, low byte first (R60). -/
def crcAfterSample (r : Nat) (x : Half) : Nat := crcAfterByte (crcAfterByte r (x.toNat % 256)) (x.toNat / 256)

/-! ### Commands -/

/-- A trigger that is taken, with command byte `byte`, is on the port (R92). -/
def Takes (s : State) (m : PortMerge) (byte : Nat) : Prop :=
  portMerge s = some m ∧ m.verdict = .taken ∧ regionPart m.off = .ring ∧ m.off % 16 = 0 ∧ m.command = byte

/-- The arguments of the trigger: words 1 to 3 of its slot as the shadow holds them (R93). -/
def argsOf (s : State) (m : PortMerge) : CommandArgs := commandArgs s.shadow m.slot

/-- The slot's result write is handed over with a code, in place of any that was pending (R95, R96). -/
def Answered (m : PortMerge) (code : ResultCode) (s t : State) : Prop :=
  t.results = s.results.filter (fun r => r.1 != m.slot) ++ [(m.slot, code)]

/-- The rows of commands, each with its command byte (section 2.2). -/
def commandRows : List (Instr × Nat) :=
  [(.fire, 0x01), (.release, 0x02), (.lockArm, 0x10), (.lockRearm, 0x11), (.lockReset, 0x12), (.timerStart, 0x18),
   (.timerStop, 0x19), (.loadOpen, 0x20), (.loadClose, 0x21), (.loadAbort, 0x22), (.clipDiscard, 0x23), (.pin, 0x28),
   (.unpin, 0x29), (.meterClear, 0x30)]

/-- A fire of the RING passes the checks (R82), and no IGNORE refuses it (R125). -/
def FirePasses (s : State) (m : PortMerge) : Prop :=
  let c := cueRecord s.shadow (argsOf s m).b0
  fireChecks ⟨.ring, 0, (argsOf s m).b0, (argsOf s m).b1 % 2 == 1⟩ c s = none ∧ ignoreBlocks s (argsOf s m).b0 c = false

/-- The parts every take changes. -/
def takeParts : List Part := [.path, .port, .mem, .shadow, .writeBacks, .intake, .results]

/-! ### Line filters -/

/-- The filter and its timer after a leading edge, by R102's table: `g` is the glitch filter G, a timer of
G line units 120 × G reference periods. -/
def afterLeadingEdge (g : Nat) (f : FilterState) (timer : Nat) : FilterState × Nat :=
  match f with
  | .up => if g = 0 then (.down, 0) else (.pressing, 120 * g)
  | .pressing => (.pressing, timer)
  | .down => (.down, timer)
  | .releasing => (.down, 0)

/-- The filter and its timer after a trailing edge, by R102's table. -/
def afterTrailingEdge (g : Nat) (f : FilterState) (timer : Nat) : FilterState × Nat :=
  match f with
  | .up => (.up, timer)
  | .pressing => (.up, 0)
  | .down => if g = 0 then (.up, 0) else (.releasing, 120 * g)
  | .releasing => (.releasing, timer)

/-- The filter and its timer where the judged level goes from `was` to `now`. -/
def afterEdge (g : Nat) (was now : Bool) (f : FilterState) (timer : Nat) : FilterState × Nat :=
  if was = now then (f, timer) else if now then afterLeadingEdge g f timer else afterTrailingEdge g f timer

/-! ### Voices -/

/-- The record of a voice that has ended (R140): its other fields keep their values; it has left its head slot and its FIFO is
empty. -/
def endedVoice (reason : EndReason) (x : Voice) : Voice :=
  { x with
    state := .idle
    lastEnd := reason
    headFlag := false
    headSlot := if x.headFlag then 0 else x.headSlot
    fifo := []
    inFlight := 0
    boardFlag := true }

/-- The record of a voice that has begun to fall (R136). -/
def fallenVoice (len : Nat) (reason : EndReason) (x : Voice) : Voice :=
  { x with
    state := .falling
    m := 1
    er := if x.state = .steady then 4096 else x.lastEnv
    lastEnv := if x.state = .steady then 4096 else x.lastEnv
    fallLength := len
    fallReason := reason
    boardFlag := true }

/-- The record of a voice that a release, a choke or PANIC has reached, by the tables of R126, R136, R138 and R139: `len` is the
fall length, none for a cut. -/
def releasedVoice (len : Option Nat) (fallReason cutReason : EndReason) (x : Voice) : Voice :=
  match x.state, len with
  | .idle, _ => x
  | _, none => endedVoice cutReason x
  | .priming, some _ => endedVoice fallReason x
  | .falling, some _ => x
  | .rising, some l => if l = 0 ∨ x.sounded = false then endedVoice fallReason x else fallenVoice l fallReason x
  | .steady, some l => if l = 0 then endedVoice fallReason x else fallenVoice l fallReason x

/-- The parts that the ends and the fires of voices change. -/
def voiceParts : List Part := [.voices, .stale, .clips, .mirror, .slots, .queue]

/-- A voice's frame takes these samples: from the head slot, or from the FIFO, or none on an underrun (R133, R151, R152). -/
def frameTaken (s : State) (x : Voice) : Option Frame :=
  if x.headFlag = true then some ((slotOf s x.headSlot).frames.getD x.due ⟨0, 0⟩) else x.fifo.head?.map FifoEntry.frame

/-! ### Ends of voices -/

/-- The end of a voice: its number, its record as it ends, the reason. -/
abbrev VoiceEnd := Nat × Voice × EndReason

/-- The voices that are not IDLE at `p` and IDLE in `reached`, lowest first, ended with one reason. -/
def endsAmong (p : State) (reached : Nat → Voice) (reason : EndReason) : List VoiceEnd :=
  ((List.range 24).filter (fun v => (voiceOf p v).state != .idle && (reached v).state == .idle)).map
    (fun v => (v, voiceOf p v, reason))

/-- The codes of the end reasons (R141). -/
def endCode : EndReason → Nat
  | .none => 0
  | .complete => 1
  | .released => 2
  | .cut => 3
  | .choked => 4
  | .stolen => 5
  | .restarted => 6
  | .panic => 7

/-- How many of these ends are of clip `c`. -/
def usesEnded (c : Nat) (ends : List VoiceEnd) : Nat := (ends.filter (fun e => e.2.1.clip == c)).length

/-- How many of these ends are on head slot `k`. -/
def readersEnded (k : Nat) (ends : List VoiceEnd) : Nat :=
  (ends.filter (fun e => e.2.1.headFlag && e.2.1.headSlot == k)).length

/-- The events of ends that come one after the other, `before` being those that came first: each raises CUE_END with its reason, and
the one that brings the use count of a RETIRING clip to 0 has CLIP_EMPTY directly behind its CUE_END (R66, R141). -/
def endEvents (s : State) : List VoiceEnd → List VoiceEnd → List RaisedEvent
  | _, [] => []
  | before, (v, x, reason) :: rest =>
    let e := clipOf s x.clip
    let n := usesEnded x.clip before
    (.cueEnd, x.cue, v, BitVec.ofNat 32 (endCode reason + (if x.sounded = true then 8 else 0) + 0x100 * x.clip + 0x10000 * x.underruns)) ::
      ((if e.state = .retiring ∧ (n = 0 ∨ n < e.uses) ∧ e.uses ≤ n + 1 then [(.clipEmpty, x.clip, 0, BitVec.ofNat 32 e.base)] else []) ++
        endEvents s (before ++ [(v, x, reason)]) rest)

/-- Clip `c` behind these ends and `joined` allocations: its use count, and EMPTY where it was RETIRING and its last use ended
(R64, R66). -/
def UsesCounted (ends : List VoiceEnd) (joined c : Nat) (s t : State) : Prop :=
  let e := clipOf s c
  let n := usesEnded c ends
  (clipOf t c).uses = e.uses - n + joined ∧
    (clipOf t c).state = (if e.state = .retiring ∧ 0 < n ∧ e.uses ≤ n then .empty else e.state)

/-- Head slot `k` once `left` readers have left it and `joined` have joined: FREE where it was DRAINING and its last reader left
(R70). -/
def ReadersCounted (left joined k : Nat) (s t : State) : Prop :=
  let h := slotOf s k
  slotOf t k =
    if h.state = .draining ∧ 0 < left ∧ h.readers ≤ left then HeadSlot.blank else { h with readers := h.readers - left + joined }

/-- The clips and the head slots behind these ends. -/
def EndsCounted (ends : List VoiceEnd) (s t : State) : Prop :=
  (∀ c, c < 128 → UsesCounted ends 0 c s t) ∧ ∀ k, k < 8 → ReadersCounted (readersEnded k ends) 0 k s t

/-! ### Fires -/

/-- The effective end that a fire of `c` resolves (R84). -/
def stopOf (c : CueRecord) (e : ClipEntry) : Nat := if c.stop = 0 then e.length else min c.stop e.length

/-- The loop end that it resolves (R85). -/
def loopEndOf (c : CueRecord) (e : ClipEntry) : Nat := if c.le = 0 then stopOf c e else min c.le (stopOf c e)

/-- Whether the voice loops (R85). -/
def loops (c : CueRecord) (e : ClipEntry) : Bool := c.loopEnable && decide (c.ls < loopEndOf c e) && decide (c.start < loopEndOf c e)

/-- The adjusted fields as a set (R88). -/
def adjustedOf (c : CueRecord) (e : ClipEntry) : Nat :=
  (if 8192 < c.level then 1 else 0) + (if e.length < c.stop then 2 else 0) +
    (if c.loopEnable = true ∧ stopOf c e < c.le then 4 else 0) + (if c.loopEnable = true ∧ loops c e = false then 8 else 0)

/-- A fire of `c` at `s` gets head start from slot `k`: its clip's slot, READY, the start below the head length, which a loop's end
lies above (R130). -/
def GetsHead (c : CueRecord) (s : State) (k : Nat) : Prop :=
  let e := clipOf s c.clip
  e.headSlot = some k ∧ (slotOf s k).state = .ready ∧ c.start < (slotOf s k).headLength ∧
    (loops c e = true → (slotOf s k).headLength < loopEndOf c e)

/-- `x` is the record that fire `f` at `s` sets up over the record `old`, with head start from the slot `head` or none (R79, R129,
R130, R151, R154). The loop points of a voice that does not loop are free (assumption 7). -/
def SnapshotTaken (f : Fire) (head : Option Nat) (s : State) (old x : Voice) : Prop :=
  let c := cueRecord s.shadow f.cue
  let e := clipOf s c.clip
  x.state = (if head.isSome = true then (if 0 < c.fi then .rising else .steady) else .priming) ∧
    x.cue = f.cue ∧ x.clip = c.clip ∧ x.channels = e.channels ∧ x.source = f.source ∧ x.number = f.number ∧
    x.preview = f.preview ∧ x.mask = (if f.preview = true then 4#4 else c.mask) ∧ x.priority = c.priority ∧ x.choke = c.choke ∧
    x.retrigger = c.retrigger ∧ x.role = c.role ∧ x.stamp = s.frameCounter ∧ x.start = c.start ∧ x.effEnd = stopOf c e ∧
    x.loop = loops c e ∧ (loops c e = true → x.ls = c.ls ∧ x.le = loopEndOf c e) ∧ x.fi = c.fi ∧ x.fo = c.fo ∧ x.tail = c.tail ∧
    x.followOn = c.followOn ∧ x.followCue = c.followCue ∧ x.due = c.start ∧ x.lc = min c.level 8192 ∧ x.lt = min c.level 8192 ∧
    x.n = 0 ∧ x.m = 0 ∧ x.er = 0 ∧ x.fallLength = 0 ∧ x.lastEnv = 0 ∧ x.underruns = 0 ∧ x.sounded = false ∧
    x.headFlag = head.isSome ∧ x.headSlot = head.getD 0 ∧ x.fifo = [] ∧ x.inFlight = 0 ∧ x.epoch = old.epoch + 1 ∧
    (∀ k, head = some k → x.fetchPos = (slotOf s k).headLength) ∧ (head = none → x.fetchPos = c.start) ∧
    x.lastEnd = old.lastEnd ∧ x.boardFlag = true

/-- The events of the set-up of voice `v` for fire `f`: CUE_ADJUSTED where a field was adjusted, then CUE_START (R88, R131). -/
def startEvents (f : Fire) (head : Option Nat) (v : Nat) (s : State) : List RaisedEvent :=
  let c := cueRecord s.shadow f.cue
  let adjusted := adjustedOf c (clipOf s c.clip)
  (if adjusted = 0 then [] else [(.cueAdjusted, f.cue, v, BitVec.ofNat 32 adjusted)]) ++
    [(.cueStart, f.cue, v, BitVec.ofNat 32 (f.source.code + (if f.preview = true then 4 else 0) +
      (if head.isSome = true then 8 else 0) + 0x100 * f.number + 0x10000 * c.clip))]

/-- The voice `x` as the retrigger of RESTART and the choke of cue record `c` leave it, of a fire of `cue` (R125, R126). -/
def reachedByFire (cue : Nat) (c : CueRecord) (x : Voice) : Voice :=
  if x.state = .idle then x
  else if x.cue = cue then (if c.retrigger = .restart then endedVoice .restarted x else x)
  else if c.choke ≠ 0 ∧ x.choke = c.choke then releasedVoice (some x.fo) .choked .choked x
  else x

/-- The part with its voices as retrigger and choke leave them, where the fire's allocation looks (R127). -/
def voicesReached (cue : Nat) (s : State) : State :=
  { s with voices := s.voices.map (reachedByFire cue (cueRecord s.shadow cue)) }

/-- The ends that retrigger and choke bring, in the order of R124: the voices restarted, then those choked to their end. -/
def endsByFire (cue : Nat) (s : State) : List VoiceEnd :=
  let reached := voiceOf (voicesReached cue s)
  (endsAmong s reached .restarted).filter (fun e => e.2.1.cue == cue) ++
    (endsAmong s reached .choked).filter (fun e => e.2.1.cue != cue)

/-- A DRAINING slot of clip `c` is the one its entry names (R70). -/
def DrainsOwn (c : Nat) (s : State) : Prop :=
  ∀ k, k < 8 → (slotOf s k).state = .draining → (slotOf s k).clip = c → (clipOf s c).headSlot = some k

/-- Fire `f`, taken from the port at `s`, takes voice `v` over the record `old`, behind these ends: the voice holds the snapshot, every
other voice is as in `reached`, the use counts and readers follow, and the events stand in the order of R124 (R64, R66, R70, R88,
R129 to R131, R140). -/
def FireTakes (f : Fire) (reached : Nat → Voice) (ends : List VoiceEnd) (v : Nat) (old : Voice) (s t : State) : Prop :=
  let c := cueRecord s.shadow f.cue
  ∃ (head : Option Nat) (x : Voice), SnapshotTaken f head s old x ∧ voiceOf t v = servedVoice t.port v x ∧
    (DrainsOwn c.clip s → ∀ k, head = some k ↔ GetsHead c s k) ∧
    (∀ w, w < 24 → w ≠ v → voiceOf t w = servedVoice t.port w (reached w)) ∧
    (∀ k, k < 128 → UsesCounted ends (if k = c.clip then 1 else 0) k s t) ∧
    (∀ k, k < 8 → ReadersCounted (readersEnded k ends) (if head = some k then 1 else 0) k s t) ∧
    (CanAppend (2 * ends.length + 2) s → Appended (endEvents s [] ends ++ startEvents f head v s) s t)

/-- The fire of a line, of a timer or of a follow comes to the Voice Engine at `p`. A check that fails, or an IGNORE cue's own voice,
raises CUE_REFUSED and changes nothing else. A fire that neither chokes nor restarts, with an IDLE voice, starts: the lowest IDLE voice
holds the snapshot, with CUE_ADJUSTED where a field was adjusted and CUE_START, and every other voice is the same (R82, R83, R88, R124,
R125, R127, R129, R131). `extra` are the parts that what fires changes besides; the events are stated where the fire stands alone, so
that nothing else of the step raises any. -/
def FireComes (f : Fire) (extra : List Part) (alone : Prop) (p t : State) : Prop :=
  let c := cueRecord p.shadow f.cue
  (∀ code, fireChecks f c p = some code ∨ fireChecks f c p = none ∧ ignoreBlocks p f.cue c = true ∧ code = .alreadyPlaying →
    (alone → Raises .cueRefused f.cue (f.source.code + 0x100 * f.number) (BitVec.ofNat 32 code.code) p t) ∧
      unchangedBut (.queue :: extra) p t) ∧
  (∀ v, fireChecks f c p = none → ignoreBlocks p f.cue c = false → c.retrigger ≠ .restart → c.choke = 0 → v < 24 →
    (voiceOf p v).state = .idle → (∀ w, w < v → (voiceOf p w).state ≠ .idle) →
    (∃ head x, (∀ k, head = some k ↔ GetsHead c p k) ∧ SnapshotTaken f head p (voiceOf p v) x ∧ VoiceHolds p t v x ∧
      (alone → CanAppend 2 p → Appended (startEvents f head v p) p t)) ∧
    (∀ w, w ≠ v → VoiceHolds p t w (voiceOf p w)) ∧ clipOf t c.clip = { clipOf p c.clip with uses := (clipOf p c.clip).uses + 1 } ∧
    unchangedBut (voiceParts ++ .waiting :: extra) p t)

/-! ### Presses and releases -/

/-- `d` reference periods can pass before the next step: no filter timer, penalty, frame timer or gap timer runs out sooner
(assumption 4). -/
def Soonest (d : Nat) (s : State) : Prop :=
  (∀ n, n < 10 → s.rst = false → (lineOf s n).filter = .pressing ∨ (lineOf s n).filter = .releasing →
      d ≤ (lineOf s n).timer) ∧
    (∀ n p, n < 8 → (lineOf s n).penalty = some p → d ≤ p) ∧ d ≤ s.clock.frameTimer ∧
    (s.clock.state = .relocking → d ≤ s.clock.gap)

/-- The part as a press of line `n` by its filter timer finds it: the time up to the expiry has passed, the filter is DOWN. -/
def atPress (n : Nat) (s : State) : State := setFilter n .down 0 (elapse (lineOf s n).timer s)

/-- The part as a release of line `n` by its filter timer finds it. -/
def atRelease (n : Nat) (s : State) : State := setFilter n .up 0 (elapse (lineOf s n).timer s)

/-- Line `n`'s filter timer counts toward a press and is the next to run out, and RST# is not asserted. -/
def PressComing (n : Nat) (s : State) : Prop :=
  (lineOf s n).filter = .pressing ∧ s.rst = false ∧ Soonest (lineOf s n).timer s

/-- Line `n`'s filter timer counts toward a release and is the next to run out, and RST# is not asserted. -/
def ReleaseComing (n : Nat) (s : State) : Prop :=
  (lineOf s n).filter = .releasing ∧ s.rst = false ∧ Soonest (lineOf s n).timer s

/-- The burst in flight turns stale where its voice ends between `p` and what `reached` gives (R154). -/
def StaleWhereEnded (reached : Nat → Voice) (p t : State) : Prop :=
  ∀ b, p.port = some (.burst b) → b.voice < 24 →
    t.port = some (.burst { b with
      stale := b.stale || ((voiceOf p b.voice).state != .idle && (reached b.voice).state == .idle) })

/-- A press of line `n`, which `p` has DOWN, is served by the line's mode, LOCKOUT and PANIC apart: OFF and TALK do nothing, KEY
fires the bound cue, MOMENTARY fires and holds it, HOLD starts the waiting timers bound to the line (R104, R105, R108, R119). -/
def PressServed (n : Nat) (p t : State) : Prop :=
  let mode := lineMode p.shadow n
  let cue := lineCue p.shadow n
  let bound : Nat → Prop := fun k => timerMode p.shadow k = .hold ∧ timerLine p.shadow k = n
  (lineOf t n).filter = .down ∧ (lineOf t n).timer = 0 ∧ (∀ j, j ≠ n → lineOf t j = lineOf p j) ∧
    (n = 9 ∨ n < 8 ∧ mode = .off → unchangedBut [] p t) ∧
    (n < 8 → mode = .key → lineOf t n = lineOf p n ∧ FireComes ⟨.line, n, cue, false⟩ [] True p t) ∧
    (n < 8 → mode = .momentary →
      lineOf t n = { lineOf p n with heldCue := some cue } ∧ FireComes ⟨.line, n, cue, false⟩ [.lines] True p t) ∧
    (n < 8 → mode = .hold →
      (∀ k, k < 4 → (bound k ∧ (timerOf p k).phase = .waiting → timerOf t k = { timerOf p k with phase := .counting }) ∧
        (¬ (bound k ∧ (timerOf p k).phase = .waiting) → timerOf t k = timerOf p k)) ∧ unchangedBut [.timers] p t)

/-- A release of line `n`, which `p` has UP, is served by the line's mode, PANIC apart: MOMENTARY releases its held cue with FADE, with
the events and counts of the ends that brings, and clears it, HOLD reloads the timers bound to the line, any other mode and TALK do
nothing (R64, R66, R70, R104, R105, R108, R119, R138, R141). -/
def ReleaseServed (n : Nat) (p t : State) : Prop :=
  let mode := lineMode p.shadow n
  let bound : Nat → Prop := fun k => timerMode p.shadow k = .hold ∧ timerLine p.shadow k = n
  (lineOf t n).filter = .up ∧ (lineOf t n).timer = 0 ∧ (∀ j, j ≠ n → lineOf t j = lineOf p j) ∧
    (n = 9 ∨ n < 8 ∧ (mode = .off ∨ mode = .lockout ∨ mode = .key ∨ mode = .momentary ∧ (lineOf p n).heldCue = none) →
      unchangedBut [] p t) ∧
    (∀ held, n < 8 → mode = .momentary → (lineOf p n).heldCue = some held →
      let reached : Nat → Voice := fun v =>
        let x := voiceOf p v
        if x.cue = held then releasedVoice (some x.fo) .released .cut x else x
      let ends := endsAmong p reached .released
      (lineOf t n).heldCue = none ∧ (∀ v, v < 24 → VoiceHolds p t v (reached v)) ∧ StaleWhereEnded reached p t ∧
        EndsCounted ends p t ∧ (CanAppend (2 * ends.length) p → Appended (endEvents p [] ends) p t) ∧
        unchangedBut (voiceParts ++ [.lines]) p t) ∧
    (n < 8 → mode = .hold →
      (∀ k, k < 4 →
        let x := timerOf p k
        let preload := timerPreload p.shadow k
        (bound k ∧ (x.phase = .counting ∨ x.phase = .held) →
          timerOf t k = ⟨if preload = 0 then .stopped else .waiting, preload⟩) ∧
        (¬ (bound k ∧ (x.phase = .counting ∨ x.phase = .held)) → timerOf t k = x)) ∧ unchangedBut [.timers] p t)

/-- A press of LOCKOUT line `n`, which `p` has DOWN, is judged against the lockout: early while OPEN; a win while ARMED, unless the
line is barred or in penalty, with LOCK_WON, the waiting WIN timers counting and the bound cue fired behind LOCK_WON; late while
LOCKED, unless the line is the winner, barred, in penalty or listed, or the list is full (R110 to R113, R120). -/
def LockoutJudged (n : Nat) (p t : State) : Prop :=
  let lo := p.lockout
  let cue := lineCue p.shadow n
  let shut : Prop := lo.barred.getLsbD n = true ∨ (lineOf p n).penalty ≠ none
  let ignored : Prop := lo.winner = some n ∨ shut ∨ (∃ d, (n, d) ∈ lo.late) ∨ 7 ≤ lo.late.length
  let won : Lockout := { lo with state := .locked, winner := some n, reaction := lo.armClock / 120, winClock := 0 }
  (lineOf t n).filter = .down ∧
    (lo.state = .unlocked →
      lineOf t n = { lineOf p n with
        penalty := if earlyPenalty p.shadow = 0 then none else some (120 * earlyPenalty p.shadow) } ∧
      Raises .lockEarly n 0 (BitVec.ofNat 32 (earlyPenalty p.shadow)) p t ∧ unchangedBut [.lines, .queue, .marks] p t) ∧
    (lo.state = .armed → shut → unchangedBut [] p t) ∧
    (lo.state = .armed → ¬ shut →
      t.lockout = won ∧
      (∀ k, k < 4 → timerOf t k =
        if timerMode p.shadow k = .win ∧ (timerOf p k).phase = .waiting then { timerOf p k with phase := .counting }
        else timerOf p k) ∧
      (CanAppend 1 p → (t.queue[p.queue.length]?).map eventOf =
        some (.lockWon, BitVec.ofNat 16 n, BitVec.ofNat 16 cue, BitVec.ofNat 32 (lo.armClock / 120), p.frameCounter)) ∧
      FireComes ⟨.line, n, cue, false⟩ [.timers] True
        (raiseEvent .lockWon n cue (BitVec.ofNat 32 (lo.armClock / 120)) (setLockout won p)) t ∧
      unchangedBut (voiceParts ++ [.lockout, .timers, .marks, .waiting]) p t) ∧
    (lo.state = .locked → ignored → unchangedBut [] p t) ∧
    (lo.state = .locked → ¬ ignored →
      t.lockout = { lo with late := lo.late ++ [(n, lo.winClock / 120)] } ∧
      Raises .lockLate n lo.late.length (BitVec.ofNat 32 (lo.winClock / 120)) p t ∧
      unchangedBut [.lockout, .queue, .marks] p t)

/-- A press of PANIC, whose filter `p` has DOWN: PANIC_ON with the voices that are not IDLE and the timers that run, every timer
stopped with its counter kept, every voice ended or set falling by the panic fade, the events and counts of its ends behind PANIC_ON
(R64, R66, R70, R106, R139, R141). -/
def PanicTaken (p t : State) : Prop :=
  let fade := panicFade p.shadow
  let reached : Nat → Voice := fun v => releasedVoice (if fade = 0 then none else some fade) .panic .panic (voiceOf p v)
  let ends := endsAmong p reached .panic
  panicAsserted t = true ∧
    (∀ k, k < 4 → timerOf t k =
      if (timerOf p k).phase = .stopped then timerOf p k else { timerOf p k with phase := .stopped }) ∧
    (∀ v, v < 24 → VoiceHolds p t v (reached v)) ∧ StaleWhereEnded reached p t ∧ EndsCounted ends p t ∧
    (CanAppend (1 + 2 * ends.length) p → (t.queue.drop (p.queue.length + 1)).map eventOf =
      (endEvents p [] ends).map (fun e => (e.1, BitVec.ofNat 16 e.2.1, BitVec.ofNat 16 e.2.2.1, e.2.2.2, p.frameCounter))) ∧
    (CanAppend 1 p → ∃ r, t.queue[p.queue.length]? = some r ∧ r.kind = .panicOn ∧
      r.subjectA = BitVec.ofNat 16 ((List.range 24).filter (fun v => (voiceOf p v).state != .idle)).length ∧
      (∀ k, k < 16 → r.subjectB.getLsbD k = (decide (k < 4) && (timerOf p k).phase != .stopped)) ∧
      r.value = BitVec.ofNat 32 fade) ∧
    unchangedBut (voiceParts ++ [.timers]) p t

/-- A release of PANIC, whose filter `p` has UP: PANIC_OFF, and nothing else (R107). -/
def PanicReleased (p t : State) : Prop :=
  panicAsserted t = false ∧ Raises .panicOff 0 0 0 p t ∧ unchangedBut [.queue] p t

/-- A press of line `n` is taken: it is served by the line's mode, or judged by the lockout, or is PANIC's. -/
def PressTaken (n : Nat) (p t : State) : Prop :=
  (n ≠ 8 → PressServed n p t) ∧ (n < 8 → lineMode p.shadow n = .lockout → LockoutJudged n p t) ∧ (n = 8 → PanicTaken p t)

/-- A release of line `n` is taken. -/
def ReleaseTaken (n : Nat) (p t : State) : Prop := (n ≠ 8 → ReleaseServed n p t) ∧ (n = 8 → PanicReleased p t)

/-! ### Frame events -/

/-- Timer `k` behind a frame event: a counting timer falls by 1, and at 0 is as its mode has it, reloaded from its preload in REPEAT
mode (R116, R118 to R120). -/
def timerAfterFrame (s : State) (k : Nat) : CueTimer :=
  let x := timerOf s k
  let preload := timerPreload s.shadow k
  if x.phase ≠ .counting then x
  else if 1 < x.counter then { x with counter := x.counter - 1 }
  else match timerMode s.shadow k with
    | .oneShot | .win => ⟨.stopped, 0⟩
    | .repeating => ⟨if preload = 0 then .stopped else .counting, preload⟩
    | .hold => ⟨.held, 0⟩

/-- The board interval count behind a frame event (R178). -/
def countAfterFrame (s : State) : Nat :=
  if boardInterval s.shadow = 0 then s.boardCount
  else if s.boardCount + 1 < boardInterval s.shadow then s.boardCount + 1 else 0

/-- Nothing of a frame event but its counts can raise an event: no voice sounds, no timer counts. -/
def Silent (s : State) : Prop :=
  (∀ v, v < 24 → sounding (voiceOf s v) = false) ∧ ∀ k, k < 4 → (timerOf s k).phase ≠ .counting

/-- The parts a frame event may change. -/
def frameParts : List Part := voiceParts ++ [.clock, .counter, .buses, .timers, .marks, .interval, .waiting]

/-! ### Head slots -/

/-- A slot that an UNPIN frees at once: FILLING, or READY without readers (R71). -/
def freedAtOnce (h : HeadSlot) : Bool := h.state == .filling || (h.state == .ready && h.readers == 0)

/-- A slot after an UNPIN, explicit or implied (R71, R72). -/
def unpinned (h : HeadSlot) : HeadSlot :=
  if freedAtOnce h = true then HeadSlot.blank else if h.state = .ready then { h with state := .draining } else h

/-- The slot of clip `c` after its UNPIN; every other slot and every other clip is the same. The premise of its use is that the
clip's slot is its own. -/
def UnpinnedFrom (c : Nat) (s t : State) : Prop :=
  (∀ k, slotOf t k = if (clipOf s c).headSlot = some k then unpinned (slotOf s k) else slotOf s k) ∧
    (∀ d, d ≠ c → clipOf t d = clipOf s d)

/-- A clip's head slot is one of the eight and is the clip's own. -/
def OwnSlot (c : Nat) (s : State) : Prop := ∀ k, (clipOf s c).headSlot = some k → k < 8 ∧ (slotOf s k).clip = c

/-! ### The memory port -/

/-- Voice `v` stands first for the fetch arbiter: urgency, then fill plus flight, then the lower number (R146). -/
def FirstRequester (s : State) (v : Nat) : Prop :=
  v < 24 ∧ requests (voiceOf s v) = true ∧ ∀ w, w < 24 → w ≠ v → requests (voiceOf s w) = true →
    (urgent (voiceOf s v) = true ∧ urgent (voiceOf s w) = false) ∨
    (urgent (voiceOf s v) = urgent (voiceOf s w) ∧
      (fill (voiceOf s v) + (voiceOf s v).inFlight < fill (voiceOf s w) + (voiceOf s w).inFlight ∨
        fill (voiceOf s v) + (voiceOf s v).inFlight = fill (voiceOf s w) + (voiceOf s w).inFlight ∧ v < w))

/-- No urgent voice requests a burst. -/
def NoneUrgent (s : State) : Prop := ∀ v, v < 24 → requests (voiceOf s v) = true → urgent (voiceOf s v) = false

/-- The Fetcher and the controller present nothing, and the queue does not press: the Report Writer alone may (R15, R177). -/
def OnlyReports (s : State) : Prop :=
  (∀ v, v < 24 → requests (voiceOf s v) = false) ∧ (∀ k, k < 8 → (slotOf s k).state ≠ .filling) ∧
    controllerRequests s = false ∧ s.queue.length < 12

/-- The port has gone to the Report Writer's first write by R177's orders: results in the order taken, the write-back at the lowest
offset, the head event record while the ring has room (before all others from 12 records on), the lowest marked block, the lowest
flagged mirror entry, and a voice record, its later quarters before another voice's first. -/
def ReportGranted (s t : State) : Prop :=
  let room : Prop := s.w + 1 ≠ rd s.shadow
  let pressing : Prop := 12 ≤ s.queue.length ∧ room
  let event : EventRecord → Prop := fun r =>
    t.port = some (.report .event (regionAddr s (0xC000 + 16 * s.w.toNat)) (eventBytes r) false)
  (∀ r, pressing → s.queue.head? = some r → event r) ∧
  (¬ pressing →
    (∀ k c rs, s.results = (k, c) :: rs →
      t.port = some (.report (.result k) (regionAddr s (0x5000 + 16 * k + 3)) (leBytes 1 c.code) false)) ∧
    (∀ b, s.results = [] → s.writeBacks.find? (fun x => x.off == b.off) = some b → (∀ x, x ∈ s.writeBacks → b.off ≤ x.off) →
      t.port = some (.report (.clamp b.off) (regionAddr s b.off)
        (leBytes b.width (if b.off = 0x04 then s.w.toNat else b.value)) false)) ∧
    (∀ r, s.results = [] → s.writeBacks = [] → s.queue.head? = some r → room → event r) ∧
    (s.results = [] → s.writeBacks = [] → s.queue = [] ∨ ¬ room →
      (∀ i, i < 5 → bankGet s.marks i false = true → (∀ j, j < i → bankGet s.marks j false = false) →
        t.port = some (.report (.status i) (regionAddr s (0x8800 + 16 * i)) (statusBytes s i) false) ∧
          bankGet t.marks i false = false) ∧
      ((∀ i, i < 5 → bankGet s.marks i false = false) →
        (∀ c, c < 128 → bankGet s.mirrorFlags c false = true → (∀ d, d < c → bankGet s.mirrorFlags d false = false) →
          t.port = some (.report (.mirror c) (regionAddr s (0xA000 + 16 * c)) (mirrorBytes (clipOf s c)) false) ∧
            bankGet t.mirrorFlags c false = true ∧ t.mirrorAgain = false) ∧
        ((∀ c, c < 128 → bankGet s.mirrorFlags c false = false) →
          (∀ v, s.boardCopy = none → v < 24 → (voiceOf s v).boardFlag = true →
            (∀ w, w < v → (voiceOf s w).boardFlag = false) →
            t.port = some (.report (.board v 0) (regionAddr s (0x8000 + 0x40 * v))
                ((boardBytes (voiceOf s v) s.frameCounter).take 16) false) ∧
              (voiceOf t v).boardFlag = false ∧
              t.boardCopy = some ⟨v, 0, boardBytes (voiceOf s v) s.frameCounter⟩) ∧
          (∀ c, s.boardCopy = some c → 1 ≤ c.next →
            t.port = some (.report (.board c.voice c.next) (regionAddr s (0x8000 + 0x40 * c.voice + 16 * c.next))
                ((c.bytes.drop (16 * c.next)).take 16) false) ∧
              t.boardCopy = s.boardCopy ∧ ∀ v, (voiceOf t v).boardFlag = (voiceOf s v).boardFlag)))))

/-! ### Invariants -/

/-- Memory and shadow hold their canonical form. -/
def MemoryForm (s : State) : Prop := cellsWf s.mem = true ∧ cellsWf s.shadow = true

/-- The Intake's values: the expected slot and sequence number are in range, and the expected one follows the last taken (R91). -/
def IntakeForm (s : State) : Prop :=
  s.expSlot < 64 ∧ 1 ≤ s.expSeq ∧ s.expSeq ≤ 65535 ∧ s.lastSeq ≤ 65535 ∧
    s.expSeq = (if s.lastSeq = 65535 then 1 else s.lastSeq + 1)

/-- The records of a queue carry consecutive sequence numbers, the last of them just below `next`. -/
def numbered : List EventRecord → BitVec 16 → Prop
  | [], _ => True
  | r :: rs, next => r.seq = next - BitVec.ofNat 16 (rs.length + 1) ∧ numbered rs next

/-- The pending queue: at most 16 records, consecutive sequence numbers up to the next (R173, R175), a lost count of 16 bits
(R174); empty, with no report write of its own on the port, while RST# is asserted or the sweep runs (R35, R180). -/
def QueueForm (s : State) : Prop :=
  s.queue.length ≤ 16 ∧ numbered s.queue s.nextSeq ∧ s.lost ≤ 65535 ∧
    (s.rst = true ∨ s.sweep.isSome = true → s.queue = [] ∧ ∀ k a bs, s.port ≠ some (.report k a bs false))

end Sys2Proof.Machine
end

