-- ==== Sys2Proof/Certificates/Slice0/Obligations.lean ====
section
/-!
DEFINITION. The statements for the provers. A statement about a command has as its conclusion that `exec` answers a next state,
and what that state holds; hypotheses are about the state and the operands alone. `unchangedBut` is the frame: the parts of the
state it does not list are as before, but for what the grant at the end of each step may take (Safety.lean).
-/

section Statements

open Sys2Proof Sys2Proof.Machine

/-! ### Steps and invariants -/

/-- A step takes the command at the front of the queue and runs it with the queue's rest (the block's step, assumption 4). -/
def Obligations.StepRunsFrontCommand : Prop :=
  ∀ (c : Instr) (cs : List Instr) (s : State), step { s with pending := c :: cs } = exec c { s with pending := cs }

/-- Power applied to the reset state leaves it as it is (the reset state is the part right after power-on, assumption 3), and it
meets the invariants below. -/
def Obligations.ResetIsPowerOnAndMeetsInvariants : Prop :=
  exec (.powerOn 0) State.reset = .next State.reset ∧ MemoryForm State.reset ∧ IntakeForm State.reset ∧ QueueForm State.reset

/-- Every step keeps memory and shadow in their canonical form. -/
def Obligations.StepKeepsMemoryForm : Prop := ∀ s t : State, MemoryForm s → step s = .next t → MemoryForm t

/-- Every step keeps the Intake's values in range, the expected sequence number being the one after the last taken: it wraps
from 65535 to 1 without passing through 0 (R91). -/
def Obligations.StepKeepsIntakeForm : Prop := ∀ s t : State, IntakeForm s → step s = .next t → IntakeForm t

/-- Every step keeps the pending queue within 16 records that carry consecutive sequence numbers, and empty while RST# is
asserted or the sweep runs (R173, R174, R35, R180). -/
def Obligations.StepKeepsQueueForm : Prop := ∀ s t : State, QueueForm s → step s = .next t → QueueForm t

/-! ### Resets and the sweep -/

/-- POWER_ON leaves every block in its power-on state with the straps latched and the sweep's first write on the port, memory as
it was, and every line that reads active taken as having a leading edge (R2, R21, R33, R76, R91, R103, R109, R116, R143, R157,
R172, R180). That the SDRAM keeps its contents is assumption 2. That the sweep's first write has been granted already, where R21
has the port free at that moment, is the model's choice (assumption 3, DEDUCED from R15 and R18). -/
def Obligations.PowerOnLeavesPowerOnState : Prop :=
  ∀ (straps : BitVec 4) (s : State), ∃ t, exec (.powerOn straps) s = .next t ∧
    t.rst = false ∧ t.crb = straps.toNat ∧ t.shadow = defaultSetup straps.toNat ∧ t.writeBacks = [] ∧ t.deckClear = true ∧
    t.sweep = some 0 ∧
    t.port = some (.sweep (regionBase straps.toNat) (readBytes (defaultSetup straps.toNat) 0 16) false) ∧
    t.held = none ∧ t.session = none ∧
    (∀ c, clipOf t c = ClipEntry.blank) ∧ (∀ k, slotOf t k = HeadSlot.blank) ∧ (∀ v, voiceOf t v = Voice.blank) ∧
    (∀ b, busOf t b = Bus.blank) ∧ t.expSlot = 0 ∧ t.expSeq = 1 ∧ t.lastSeq = 0 ∧ t.results = [] ∧
    t.lockout = Lockout.blank ∧ (∀ n, timerOf t n = CueTimer.blank) ∧
    (∀ n, n < 10 → lineOf t n =
      if (lineOf s n).high = false then { Line.released false with filter := .pressing, timer := 12000 } else Line.released true) ∧
    t.clock = ⟨.freerun, 250, 0, 0, 0⟩ ∧ t.frameCounter = 0 ∧ t.queue = [] ∧ t.lost = 0 ∧ t.nextSeq = 1 ∧ t.w = 0 ∧
    t.attn = false ∧ (∀ i, bankGet t.marks i false = false) ∧ (∀ c, bankGet t.mirrorFlags c false = false) ∧
    t.owed = [] ∧ Same .mem s t ∧ t.pending = s.pending

/-- RST_ASSERT: voices, buses, lockout, timers, filters, session, queue and pending part writes are cleared, and no grant is
made; where no taken trigger is on the port, clip entries and head slots are kept as R73 and R74 give, a CLIP_EMPTY is owed for
each entry that was RETIRING (R75), the Frame Clock goes on (R172), memory and shadow stay, a burst on the port turns stale and
any other access on it runs on, without the second half of a load access; a held access whose first half is done is done, and any
other that is not on the port loses its class (R20). That filters, lockout, timers and buses hold their reset values from the
assertion on is the model's choice (assumption 16, DEDUCED), and so is the mark that a part write met on the port only reaches
memory (assumption 15, DEDUCED). -/
def Obligations.ResetAssertionClearsBlocks : Prop :=
  ∀ s : State, s.rst = false → ∃ t, exec .rstAssert s = .next t ∧
    t.rst = true ∧ t.sweep = none ∧ t.session = none ∧ t.writeBacks = [] ∧ t.results = [] ∧
    (∀ v, voiceOf t v = Voice.blank) ∧ (∀ b, busOf t b = Bus.blank) ∧ t.lockout = Lockout.blank ∧
    (∀ n, timerOf t n = CueTimer.blank) ∧ (∀ n, n < 10 → lineOf t n = Line.released (lineOf s n).high) ∧
    t.queue = [] ∧ t.lost = 0 ∧ t.nextSeq = 1 ∧ t.w = 0 ∧ t.attn = false ∧
    (∀ i, bankGet t.marks i false = false) ∧ (∀ c, bankGet t.mirrorFlags c false = false) ∧
    t.boardCount = 0 ∧ t.boardCopy = none ∧
    ((∀ m, portMerge s = some m → m.verdict ≠ .taken) →
      (∀ c, clipOf t c =
        if (clipOf s c).state = .ready ∨ (clipOf s c).state = .faulty then
          { clipOf s c with uses := 0, headSlot := (clipOf s c).headSlot.filter (fun k => (slotOf s k).state == .ready) }
        else ClipEntry.blank) ∧
      (∀ k, slotOf t k = if (slotOf s k).state = .ready then { slotOf s k with readers := 0 } else HeadSlot.blank) ∧
      t.owed = s.owed ++ ((List.range 128).filter (fun c => (clipOf s c).state == .retiring)).map
        (fun c => ⟨c, 1, (clipOf s c).base⟩) ∧
      Same .clock s t ∧ Same .mem s t ∧ Same .shadow s t ∧ t.deckClear = s.deckClear ∧
      (∀ b, s.port = some (.burst b) → t.port = some (.burst { b with stale := true })) ∧
      (∀ b, s.port = some (.fill b) → t.port = some (.fill { b with stale := true })) ∧
      (∀ k a bs o, s.port = some (.report k a bs o) → t.port = some (.report k a bs true)) ∧
      (∀ a bs o, s.port = some (.sweep a bs o) → t.port = some (.sweep a bs true)) ∧
      (s.port = none → t.port = none) ∧
      (∀ a c, s.held = some ⟨a, some c⟩ → s.port = some .controller →
        t.port = some .controller ∧ t.done = s.done ∧
        (∀ b hs, c = .converted b hs → t.held = some ⟨a, some (.converted b (hs.take 1))⟩) ∧
        (∀ j, c = .verify j → t.held = some ⟨a, some (.verify { j with todo := j.todo.take 1 })⟩) ∧
        ((c = .direct ∨ ∃ off l v, c = .shadowed off l v) → t.held = s.held)) ∧
      (∀ a hs, s.held = some ⟨a, some (.converted true hs)⟩ → s.port ≠ some .controller → DoneAt s t) ∧
      (∀ a j, s.held = some ⟨a, some (.verify j)⟩ → s.port ≠ some .controller → j.got ≠ [] →
        t.held = none ∧ t.done = true ∧ t.readData = verifyWord j) ∧
      (∀ a c, s.held = some ⟨a, some c⟩ → s.port ≠ some .controller → (∀ hs, c ≠ .converted true hs) →
        (∀ j, c = .verify j → j.got = []) → t.held = some ⟨a, none⟩))

/-- RST_RELEASE: the straps are latched, the shadow takes its reset contents with the Cue Deck kept, the Intake restarts, kept
clips under the new region or the default window become EMPTY with their slots FREE and a CLIP_EMPTY owed for each, the frame
counter is 0, the Frame Clock goes on, and the sweep is about to begin; an access that the reset left without a class is classified
and served now, or waits for the sweep's end where it lies in the Control Region (R2, R4, R18, R20, R33, R37, R91, R103, R172). That an
access still on the port stays there, and the sweep waits for it, is the model's choice (assumption 30). -/
def Obligations.ResetReleaseTakesResetContents : Prop :=
  ∀ (straps : BitVec 4) (s : State), s.rst = true → ∃ t, exec (.rstRelease straps) s = .next t ∧
    t.rst = false ∧ t.crb = straps.toNat ∧
    (∀ a, a < 0x100 → readByte t.shadow a = readByte (defaultSetup straps.toNat) a) ∧
    (∀ a, 0x1000 ≤ a → a < 0x5000 → readByte t.shadow a = readByte s.shadow a) ∧
    (∀ a, 0x5000 ≤ a → a < 0x5400 → readByte t.shadow a = 0) ∧
    t.sweep = some 0 ∧ t.deckClear = s.deckClear ∧ t.expSlot = 0 ∧ t.expSeq = 1 ∧ t.lastSeq = 0 ∧ t.results = [] ∧
    t.writeBacks = [] ∧ t.frameCounter = 0 ∧ Same .clock s t ∧ Same .mem s t ∧
    (∀ c, clipOf t c = if underReset straps.toNat (clipOf s c) then ClipEntry.blank else clipOf s c) ∧
    (∀ k, slotOf t k =
      if (slotOf s k).state ≠ .free ∧ underReset straps.toNat (clipOf s (slotOf s k).clip) = true then HeadSlot.blank
      else slotOf s k) ∧
    t.owed = s.owed ++ ((List.range 128).filter (fun c => underReset straps.toNat (clipOf s c))).map
      (fun c => ⟨c, 2, (clipOf s c).base⟩) ∧
    (∀ a, s.held = some ⟨a, none⟩ → s.session = none →
      (inRegion t a.addr = true → t.held = s.held ∧ t.done = s.done) ∧ (inRegion t a.addr = false → Served a s t)) ∧
    ((∀ a, s.held ≠ some ⟨a, none⟩) → Same .path s t) ∧ (∀ x, s.port = some x → t.port = some x) ∧
    (∀ n, n < 10 → lineOf t n =
      if (lineOf s n).high = false then { Line.released false with filter := .pressing, timer := 12000 } else Line.released true)

/-- A write of the sweep that is not its last ends: memory, and the shadow of a shadowed block, take the block; the sweep goes
on to its next write, standing aside for a controller access that waits, and granted again at once where no other request is
present (R18, R34). -/
def Obligations.SweepWriteEnds : Prop :=
  ∀ (s : State) (i off off' : Nat) (bytes bytes' : List Byte), MemoryForm s → s.sweep = some i →
    s.port = some (.sweep (regionAddr s off) bytes false) → sweepBlock s (i + 1) = some (off', bytes') →
    ∃ t, exec .sweepWrite s = .next t ∧ t.sweep = some (i + 1) ∧ t.deckClear = s.deckClear ∧
      BytesWritten (regionAddr s off) bytes s.mem t.mem ∧
      (off < 0x5400 → BytesWritten off bytes s.shadow t.shadow) ∧ (0x5400 ≤ off → Same .shadow s t) ∧
      (s.rst = false → fetchUrgent s = false → controllerRequests s = true → t.port = some .controller) ∧
      (s.rst = false → controllerRequests s = false → (∀ v, requests (voiceOf s v) = false) →
        (∀ k, slotFilling s k = false) → t.port = some (.sweep (regionAddr s off') bytes' false)) ∧
      unchangedBut [.sweep, .port, .mem, .shadow] s t

/-- The last write of the sweep ends: memory, and the shadow of a shadowed block, take the block, the deck-clear flag is cleared, the first record of the run is POWER_UP or LINE_RESET with
CRB, the clips kept and the frame counter, the CLIP_EMPTY events owed stand behind it, lowest clip first with consecutive sequence
numbers, as far as the queue holds them and counted as lost beyond, Status Block blocks are marked, and an access that the sweep
held without a class is classified and served (R18, R34, R36, R37, R75, R173, R174, R180). Block 0 alone may have been taken by the
grant already. That the held access is classified behind these events is the model's choice (assumption 12, DEDUCED). -/
def Obligations.SweepEndRaisesFirstEvent : Prop :=
  ∀ (s : State) (i off : Nat) (bytes : List Byte), MemoryForm s → QueueForm s → s.rst = false → s.sweep = some i →
    s.port = some (.sweep (regionAddr s off) bytes false) → sweepBlock s (i + 1) = none →
    ∃ t, exec .sweepWrite s = .next t ∧ t.sweep = none ∧ t.deckClear = false ∧ t.owed = [] ∧
      BytesWritten (regionAddr s off) bytes s.mem t.mem ∧
      (off < 0x5400 → BytesWritten off bytes s.shadow t.shadow) ∧ (0x5400 ≤ off → Same .shadow s t) ∧
      t.queue.head? = some ⟨s.nextSeq, if s.deckClear then .powerUp else .lineReset, 0, s.frameCounter, BitVec.ofNat 16 s.crb,
        BitVec.ofNat 16 (storedClips s), 0⟩ ∧
      (let run := (List.range 128).flatMap (fun c => s.owed.filter (fun o => o.clip == c));
        (∀ j o, j < 15 → run[j]? = some o → t.queue[j + 1]? = some
          ⟨s.nextSeq + BitVec.ofNat 16 (j + 1), .clipEmpty, 0, s.frameCounter, BitVec.ofNat 16 o.clip, BitVec.ofNat 16 o.cause, BitVec.ofNat 32 o.base⟩) ∧
        (s.held = none → t.queue.length = 1 + min 15 run.length ∧ t.lost = min 65535 (s.lost + (run.length - 15)))) ∧
      (∀ a, s.held = some ⟨a, none⟩ → s.session = none → Served a s t) ∧
      (∀ j, 1 ≤ j → j < 5 → bankGet t.marks j false = true)

/-- The writes of the sweep, in their order: 16 blocks of defaults, 64 of the ring, 1024 of the Cue Deck while the deck-clear
flag is set, then 96, 16, 128 and 256 blocks of the report area, and the entries of the clips that are not EMPTY (R34). -/
def Obligations.SweepWritesBlocksInOrder : Prop :=
  ∀ (s : State) (i : Nat), let d := if s.deckClear then 1024 else 0
    let zero := List.replicate 16 (0 : Byte)
    (i < 16 → sweepBlock s i = some (16 * i, readBytes (defaultSetup s.crb) (16 * i) 16)) ∧
    (16 ≤ i → i < 80 → sweepBlock s i = some (0x5000 + 16 * (i - 16), zero)) ∧
    (80 ≤ i → i < 80 + d → sweepBlock s i = some (0x1000 + 16 * (i - 80), zero)) ∧
    (80 + d ≤ i → i < 176 + d → sweepBlock s i = some (0x8000 + 16 * (i - (80 + d)), zero)) ∧
    (176 + d ≤ i → i < 192 + d → sweepBlock s i = some (0x8800 + 16 * (i - (176 + d)), zero)) ∧
    (192 + d ≤ i → i < 320 + d → sweepBlock s i = some (0xA000 + 16 * (i - (192 + d)), zero)) ∧
    (320 + d ≤ i → i < 576 + d → sweepBlock s i = some (0xC000 + 16 * (i - (320 + d)), zero)) ∧
    (576 + d ≤ i → sweepBlock s i =
      ((keptClips s)[i - (576 + d)]?).map (fun c => (0xA000 + 16 * c, mirrorBytes (clipOf s c))))

/-! ### The Memory Path -/

/-- The class of a controller access, by the first row of R5's table that contains its address (R5 to R11). -/
def Obligations.AccessTakesClassOfFirstRow : Prop :=
  ∀ (a : Access) (s : State),
    (∀ off, off < 0x10000 → a.addr = regionBase s.crb + off →
      ((off < 0x100 ∨ 0x1000 ≤ off ∧ off < 0x5400) → arrivalOf a s = if a.write then .shadowed off else .regionRead) ∧
      ((0x8000 ≤ off ∧ off < 0x8600 ∨ 0x8800 ≤ off ∧ off < 0x8900 ∨ 0xA000 ≤ off ∧ off < 0xA800 ∨
        0xC000 ≤ off ∧ off < 0xD000) → arrivalOf a s = if a.write then .report else .regionRead) ∧
      ((0x100 ≤ off ∧ off < 0x1000 ∨ 0x5400 ≤ off ∧ off < 0x8000 ∨ 0x8600 ≤ off ∧ off < 0x8800 ∨
        0x8900 ≤ off ∧ off < 0xA000 ∨ 0xA800 ≤ off ∧ off < 0xC000 ∨ 0xD000 ≤ off) → arrivalOf a s = .plain)) ∧
    (inRegion s a.addr = false → ∀ off, off < 0x2000000 → a.addr = lwb s.shadow * 0x2000000 + off →
      arrivalOf a s = if s.session = none then .plain else if a.write then .loadWrite off else .verify off) ∧
    (inRegion s a.addr = false → inWindow s a.addr = false →
      (a.write = false → arrivalOf a s = .plain) ∧
      (a.write = true → (∀ c, c < 128 → laneInExtent a.addr a.lanes (clipOf s c) = false) → arrivalOf a s = .plain) ∧
      (∀ c, a.write = true → c < 128 → laneInExtent a.addr a.lanes (clipOf s c) = true →
        (∀ c', c' < c → laneInExtent a.addr a.lanes (clipOf s c') = false) → arrivalOf a s = .extent c))

/-- PLAIN_ACCESS and CONTROL_REGION_READ: the access is held for the memory port, and the controller sees no done; where RST# or
the sweep holds it, it is held without a class (R5, R7, R17, R18). That an access which arrives while RST# is asserted is held so is
the model's choice (assumption 13, DEDUCED from R20, which speaks of the accesses that a reset meets). -/
def Obligations.PlainAccessAndRegionReadAreHeld : Prop :=
  (∀ (write : Bool) (addr : BitVec 28) (lanes : Lanes) (data : Word) (s : State),
    let a := accessOf write addr lanes data
    s.held = none → noLane a = false → arrivalOf a s = .plain →
    ∃ t, exec (.plainAccess write addr lanes data) s = .next t ∧
      t.held = some ⟨a, if unclassified s a.addr then none else some .direct⟩ ∧ t.done = false ∧ t.readData = s.readData ∧
      unchangedBut [.path] s t) ∧
  (∀ (addr : BitVec 28) (s : State),
    let a := accessOf false addr 0 0
    s.held = none → inRegion s a.addr = true →
    ∃ t, exec (.controlRegionRead addr) s = .next t ∧
      t.held = some ⟨a, if unclassified s a.addr then none else some .direct⟩ ∧ t.done = false ∧ t.readData = s.readData ∧
      unchangedBut [.path] s t)

/-- REPORT_AREA_WRITE and CLIP_EXTENT_WRITE: the write is dropped whole, done at once, and GUARD_WRITE is raised with the
subject, the lanes and the address (R8, R11, R12). -/
def Obligations.GuardedWritesAreDropped : Prop :=
  ∀ (addr : BitVec 28) (lanes : Lanes) (data : Word) (s : State),
    let a := accessOf true addr lanes data
    Arrives a s →
    (arrivalOf a s = .report → ∃ t, exec (.reportAreaWrite addr lanes data) s = .next t ∧ DoneAt s t ∧
      Raises .guardWrite 0xFFFF lanes.toNat (BitVec.ofNat 32 a.addr) s t ∧ unchangedBut [.path, .queue] s t) ∧
    (∀ c, arrivalOf a s = .extent c → ∃ t, exec (.clipExtentWrite addr lanes data) s = .next t ∧ DoneAt s t ∧
      Raises .guardWrite c lanes.toNat (BitVec.ofNat 32 a.addr) s t ∧ unchangedBut [.path, .queue] s t)

/-- NO_LANE_WRITE: complete at arrival whatever its address, sweep or reset, with no other effect (R13). -/
def Obligations.NoLaneWriteOnlyCompletes : Prop :=
  ∀ (addr : BitVec 28) (data : Word) (s : State), s.held = none →
    exec (.noLaneWrite addr data) s = .next { s with done := true }

/-- MEMORY_ACCESS_END: a write has put its enabled lanes into memory and a read returns the memory word, whatever its lanes; the
controller sees it done (R5, R7, R13, R16). -/
def Obligations.MemoryAccessEndsAtMemory : Prop :=
  ∀ (a : Access) (s : State), MemoryForm s → onPort s = some (a, .direct) →
    ∃ t, exec .memoryAccessEnd s = .next t ∧ t.held = none ∧ t.done = true ∧
      (a.write = true → LanesWritten a.addr a.lanes a.data s.mem t.mem ∧ t.readData = s.readData) ∧
      (a.write = false → Same .mem s t ∧ t.readData = readWord s.mem a.addr) ∧
      unchangedBut [.path, .port, .mem] s t

/-! ### Loading -/

/-- LOAD_WINDOW_WRITE and VERIFY_READ: a write is judged partial, then out of range, and else accepted, counted and held with its
memory writes; a verify read that covers no stored frame returns zero at once and else waits for its memory reads (R52 to R57). That of the two
memory reads of a PU8 verify read the lower word's comes first is the model's choice (assumption 28). -/
def Obligations.LoadWindowAccessesAreJudged : Prop :=
  (∀ (addr : BitVec 28) (lanes : Lanes) (data : Word) (s : State) (se : Session) (off : Nat),
    let a := accessOf true addr lanes data
    Arrives a s → s.session = some se → arrivalOf a s = .loadWrite off →
    ∃ t, exec (.loadWindowWrite addr lanes data) s = .next t ∧
      (isPartial se.packing lanes = true → DoneAt s t ∧
        Raises .loadPartial se.clip lanes.toNat (BitVec.ofNat 32 off) s t ∧ unchangedBut [.path, .queue] s t) ∧
      (isPartial se.packing lanes = false → outOfRange se off lanes = true → DoneAt s t ∧
        Raises .loadRange se.clip lanes.toNat (BitVec.ofNat 32 off) s t ∧ unchangedBut [.path, .queue] s t) ∧
      (isPartial se.packing lanes = false → outOfRange se off lanes = false →
        t.held = some ⟨a, some (.converted false (halfWrites se off lanes data))⟩ ∧ t.done = false ∧
        t.session = some (countWrite se off lanes data) ∧ unchangedBut [.path, .session] s t)) ∧
  (∀ (addr : BitVec 28) (s : State) (se : Session) (off : Nat),
    let a := accessOf false addr 0 0
    Arrives a s → s.session = some se → arrivalOf a s = .verify off →
    ∃ t, exec (.verifyRead addr) s = .next t ∧
      (coveredPositions (verifyJob se off) = [] → t.held = none ∧ t.done = true ∧ t.readData = 0) ∧
      (coveredPositions (verifyJob se off) ≠ [] →
        t.held = some ⟨a, some (.verify (verifyJob se off))⟩ ∧ t.done = false) ∧
      unchangedBut [.path] s t)

/-- An accepted write moves the next offset past its highest lane, keeps the order flag only where its lanes are contiguous and
start at the next offset, and raises the highest frame and the peak to cover its samples and no further, neither ever falling; the
CRC register takes its stored samples in ascending lane, each low byte first (R57 to R60). -/
def Obligations.AcceptedWriteUpdatesTotals : Prop :=
  ∀ (se : Session) (off : Nat) (lanes : Lanes) (data : Word), lanes ≠ 0 → isPartial se.packing lanes = false →
    let t := countWrite se off lanes data
    t.nextOffset = off + highLane lanes + 1 ∧
    (t.orderGood = true ↔ se.orderGood = true ∧ contiguous lanes = true ∧ off + lowLane lanes = se.nextOffset) ∧
    (∀ i, i ∈ enabledPositions se.packing lanes →
      (∃ f, t.highest = some f ∧ frameOf se.packing se.channels (off + i) ≤ f) ∧
      magnitude (storedSample se.packing data i) ≤ t.peak) ∧
    se.peak ≤ t.peak ∧ (∀ f, se.highest = some f → ∃ g, t.highest = some g ∧ f ≤ g) ∧
    t.crc.toNat =
      (enabledPositions se.packing lanes).foldl (fun r i => crcAfterSample r (storedSample se.packing data i)) se.crc.toNat ∧
    (enabledPositions se.packing lanes).Pairwise (· < ·) ∧
    (t.peak = se.peak ∨ ∃ i, i ∈ enabledPositions se.packing lanes ∧ t.peak = magnitude (storedSample se.packing data i)) ∧
    (t.highest = se.highest ∨
      ∃ i, i ∈ enabledPositions se.packing lanes ∧ t.highest = some (frameOf se.packing se.channels (off + i))) ∧
    t.clip = se.clip ∧ t.packing = se.packing ∧ t.channels = se.channels ∧ t.base = se.base ∧ t.capacity = se.capacity

/-- The memory writes of an accepted write, performed one after the other, store each of its samples at the address the
translation gives and leave every other byte; there are one or two, on aligned words, the lower address first (R50, R51). -/
def Obligations.ConvertedWritesStoreSamples : Prop :=
  ∀ (se : Session) (off : Nat) (lanes : Lanes) (data : Word) (m : Cells), cellsWf m = true →
    (se.channels = 1 ∨ se.channels = 2) → se.base % 4 = 0 → off % 4 = 0 → lanes ≠ 0 → isPartial se.packing lanes = false →
    let hs := halfWrites se off lanes data
    let m' := hs.foldl (fun m h => writeLanes m h.addr h.lanes h.data) m
    (∀ i, i ∈ enabledPositions se.packing lanes →
      readHalf m' (storedAddr se.packing se.channels se.base (off + i)) = storedSample se.packing data i) ∧
    (∀ b, (∀ i, i ∈ enabledPositions se.packing lanes →
        b ≠ storedAddr se.packing se.channels se.base (off + i) ∧
          b ≠ storedAddr se.packing se.channels se.base (off + i) + 1) → readByte m' b = readByte m b) ∧
    (∀ h, h ∈ hs → h.addr % 4 = 0) ∧ (hs.map HalfWrite.addr).Pairwise (· < ·) ∧ 1 ≤ hs.length ∧ hs.length ≤ 2

/-- CONVERTED_WRITE_HALF_END and VERIFY_READ_HALF_END: the memory write is in memory, or the memory word is read; the second half
is presented, or the controller sees the access done (R16, R17, R51, R56). -/
def Obligations.HalvesOfLoadAccessesEnd : Prop :=
  (∀ (a : Access) (started : Bool) (h : HalfWrite) (hs : List HalfWrite) (s : State), MemoryForm s →
    onPort s = some (a, .converted started (h :: hs)) →
    ∃ t, exec .convertedWriteHalfEnd s = .next t ∧ LanesWritten h.addr h.lanes h.data s.mem t.mem ∧
      (hs = [] → DoneAt s t) ∧ (hs ≠ [] → t.held = some ⟨a, some (.converted true hs)⟩ ∧ t.done = s.done) ∧
      unchangedBut [.path, .port, .mem] s t) ∧
  (∀ (a : Access) (j : VerifyJob) (w : Nat) (ws : List Nat) (s : State),
    onPort s = some (a, .verify j) → j.todo = w :: ws →
    ∃ t, exec .verifyReadHalfEnd s = .next t ∧
      let j' := { j with todo := ws, got := j.got ++ [(w, readWord s.mem w)] }
      (ws = [] → t.held = none ∧ t.done = true ∧ t.readData = verifyWord j') ∧
      (ws ≠ [] → t.held = some ⟨a, some (.verify j')⟩ ∧ t.done = s.done) ∧
      unchangedBut [.path, .port] s t)

/-- A verify read whose memory words have been read returns, at each position whose frame lies below the capacity, the reverse
conversion of the stored halfword, and zero at the others. A sample read back after it was stored: P16 and PU8 return what was
written, P12R returns it with copies of its sign in bits 15..12, and P24L returns its rounded 16 bits over zeros (R47 to R50,
R55). -/
def Obligations.VerifyReadReturnsStoredSamples : Prop :=
  (∀ (se : Session) (off : Nat) (m : Cells), (se.channels = 1 ∨ se.channels = 2) → se.base % 4 = 0 → off % 4 = 0 →
    let j := verifyJob se off
    let w := verifyWord { j with todo := [], got := j.todo.map (fun a => (a, readWord m a)) }
    ∀ i, i ∈ positions se.packing →
      w.extractLsb' (8 * i) (8 * sampleBytes se.packing) =
        if frameOf se.packing se.channels (off + i) < se.capacity then
          (returnedSample se.packing (readHalf m (storedAddr se.packing se.channels se.base (off + i)))).extractLsb' 0
            (8 * sampleBytes se.packing)
        else 0) ∧
  (∀ (w : Word) (i : Nat),
    (i = 0 ∨ i = 2 → (returnedSample .p16 (storedSample .p16 w i)).extractLsb' 0 16 = w.extractLsb' (8 * i) 16) ∧
    (i = 0 ∨ i = 2 → (returnedSample .p12r (storedSample .p12r w i)).extractLsb' 0 16
      = (w.extractLsb' (8 * i) 12).signExtend 16) ∧
    (i < 4 → (returnedSample .pu8 (storedSample .pu8 w i)).extractLsb' 0 8 = w.extractLsb' (8 * i) 8) ∧
    ((returnedSample .p24l (storedSample .p24l w 0)).extractLsb' 16 16 = storedSample .p24l w 0 ∧
      (returnedSample .p24l (storedSample .p24l w 0)).extractLsb' 0 16 = 0 ∧
      (storedSample .p24l w 0).toInt = min 32767 (((w.extractLsb' 8 24).toInt + 128) / 256)))

/-! ### The Control Shadow -/

/-- SHADOWED_WRITE_ARRIVAL: a write of the deck or the ring is accepted, a trigger at slot E with sequence number S being taken and
any other not; a setup write that would change a refusable field is dropped with SETUP_REFUSED, and one that needs no clamp is
held (R6, R26, R27, R28, R92). -/
def Obligations.ShadowedArrivalsAreJudged : Prop :=
  ∀ (addr : BitVec 28) (lanes : Lanes) (data : Word) (s : State) (off : Nat),
    let a := accessOf true addr lanes data
    let sh := writeLanes s.shadow off lanes data
    Arrives a s → arrivalOf a s = .shadowed off →
    ∃ t, exec (.shadowedWriteArrival addr lanes data) s = .next t ∧
      (regionPart off = .deck →
        t.held = some ⟨a, some (.shadowed off lanes .data)⟩ ∧ t.done = false ∧ unchangedBut [.path] s t) ∧
      (regionPart off = .ring → t.held = some ⟨a, some (.shadowed off lanes
          (if off % 16 = 0 ∧ lanes.getLsbD 0 = true ∧ lanes.getLsbD 1 = true ∧ lanes.getLsbD 2 = true then
            if off = 0x5000 + 16 * s.expSlot ∧ data.toNat % 65536 = s.expSeq then .taken else .misplaced
          else .data))⟩ ∧ t.done = false ∧ unchangedBut [.path] s t) ∧
      (regionPart off = .setup → ∀ f, refusedField s sh = some f → DoneAt s t ∧
        Raises .setupRefused f lanes.toNat (enabledData lanes data) s t ∧ unchangedBut [.path, .queue] s t) ∧
      (regionPart off = .setup → refusedField s sh = none → clamped s off lanes sh = [] →
        t.held = some ⟨a, some (.shadowed off lanes .data)⟩ ∧ t.done = false ∧ unchangedBut [.path] s t)

/-- When a setup write that would leave the shadow as `sh` is refused, and for which field: a change of LWB while a session is
open or onto a window that shares a byte with the Control Region or an extent, a change of a line mode while the lockout is not
OPEN, a change of the mode or bound line of a running timer; the field named is the lowest of them. The window at floor(CRB / 2)
holds the region (R27, R28). -/
def Obligations.SetupRefusalsFollowTheirConditions : Prop :=
  (∀ (s : State) (sh : Cells) (f : Nat), refusedField s sh = some f ↔
    FieldRefused s sh f ∧ ∀ g, g < f → ¬ FieldRefused s sh g) ∧
  (∀ (s : State) (w : Nat), lwbForbidden s w = true ↔
    (∃ se, s.session = some se) ∨
    (∃ a, w * 0x2000000 ≤ a ∧ a < w * 0x2000000 + 0x2000000 ∧
      (s.crb * 0x1000000 ≤ a ∧ a < s.crb * 0x1000000 + 0x10000 ∨
        ∃ c lo hi, c < 128 ∧ extentOf (clipOf s c) = some (lo, hi) ∧ lo ≤ a ∧ a < hi))) ∧
  (∀ s : State, lwbForbidden s (s.crb / 2) = true)

/-- A setup write that is not refused: of each clampable field it touches and whose merged value is illegal the lanes are withheld,
and the nearest legal value is handed over as a write-back, or granted already, unless the field holds it; the other lanes are held
for the port with its other fields, and where none is left the write is done at once without a memory access; the write-backs of
other fields stand (R29, R30). The clampable fields are those of the table, Rd the first of them, and the ranges are the table's; the
nearest legal value of Rd is W. That the hand-over falls at classification is DEDUCED (assumption 10). -/
def Obligations.ClampedFieldsAreWrittenBack : Prop :=
  (∀ f, f ∈ clampFields ↔
    f = ⟨0x04, 1, 0, 255, true⟩ ∨ f = ⟨0x06, 2, 256, 65535, true⟩ ∨ f = ⟨0x08, 2, 0, 4096, true⟩ ∨
    ∃ b, b < 4 ∧ (f = ⟨0x50 + 12 * b, 2, 0, 4096, true⟩ ∨ f = ⟨0x52 + 12 * b, 2, 0, 4096, true⟩ ∨
      f = ⟨0x54 + 12 * b, 2, 1, 4096, false⟩ ∨ f = ⟨0x56 + 12 * b, 2, 1, 4096, false⟩)) ∧
  (∀ (s : State) (v b : Nat), b < 4 → v < 65536 →
    clampTo s ⟨0x06, 2, 256, 65535, true⟩ v = (if 1 ≤ v ∧ v ≤ 255 then some 256 else none) ∧
    clampTo s ⟨0x08, 2, 0, 4096, true⟩ v = (if 4096 < v then some 4096 else none) ∧
    clampTo s ⟨0x50 + 12 * b, 2, 0, 4096, true⟩ v = (if 4096 < v then some 4096 else none) ∧
    clampTo s ⟨0x52 + 12 * b, 2, 0, 4096, true⟩ v = (if 4096 < v then some 4096 else none) ∧
    clampTo s ⟨0x54 + 12 * b, 2, 1, 4096, false⟩ v = (if v = 0 then some 1 else if 4096 < v then some 4096 else none) ∧
    clampTo s ⟨0x56 + 12 * b, 2, 1, 4096, false⟩ v = (if v = 0 then some 1 else if 4096 < v then some 4096 else none)) ∧
  (∀ (addr : BitVec 28) (lanes : Lanes) (data : Word) (s : State) (off : Nat), MemoryForm s →
    let a := accessOf true addr lanes data
    let sh := writeLanes s.shadow off lanes data
    let illegal : ClampField → Bool := fun f =>
      (List.range 4).any (fun i => lanes.getLsbD i && decide (f.off ≤ off + i) && decide (off + i < f.off + f.width)) &&
        (clampTo s f (readLe sh f.off f.width)).isSome
    let keep : Nat → Bool := fun i => lanes.getLsbD i &&
      !clampFields.any (fun f => illegal f && decide (f.off ≤ off + i) && decide (off + i < f.off + f.width))
    Arrives a s → arrivalOf a s = .shadowed off → regionPart off = .setup → refusedField s sh = none →
    ∃ t, exec (.shadowedWriteArrival addr lanes data) s = .next t ∧
      ((∃ i, i < 4 ∧ keep i = true) → ∃ kept : Lanes, (∀ i, i < 4 → kept.getLsbD i = keep i) ∧
        t.held = some ⟨a, some (.shadowed off kept .data)⟩ ∧ t.done = false) ∧
      ((∀ i, i < 4 → keep i = false) → DoneAt s t) ∧
      (∀ f c, f ∈ clampFields → illegal f = true → clampTo s f (readLe sh f.off f.width) = some c →
        (readLe s.shadow f.off f.width = c → ∀ b, b ∈ t.writeBacks → b.off ≠ f.off) ∧
        (readLe s.shadow f.off f.width ≠ c → ⟨f.off, f.width, c⟩ ∈ t.writeBacks ∨
          t.port = some (.report (.clamp f.off) (regionAddr s f.off) (leBytes f.width c) false))) ∧
      (∀ b, b ∈ t.writeBacks → b ∈ s.writeBacks ∨ ∃ f, f ∈ clampFields ∧ illegal f = true ∧ b.off = f.off) ∧
      (∀ b, b ∈ s.writeBacks → (∀ f, f ∈ clampFields → illegal f = true → b.off ≠ f.off) →
        b ∈ t.writeBacks ∨ s.port = none ∧ ∃ a bs, t.port = some (.report (.clamp b.off) a bs false)) ∧
      unchangedBut [.path, .writeBacks] s t)

/-- A write of Rd alone: a value on the way from the present Rd forward to W, both ends included, is held for the port; any other
is withheld, and a write-back of Rd stands or is granted with the value W, unless Rd equals W already; the write-backs of other fields
stand (R29, R30, R176). That Rd is held
against W as it stands at the classification is the model's choice (assumption 10, DEDUCED). -/
def Obligations.RdIsJudgedAgainstWrittenRecords : Prop :=
  ∀ (s : State) (data : Word) (addr : BitVec 28), MemoryForm s →
    let a := accessOf true addr 1#4 data
    let new := laneOf data 0
    Arrives a s → arrivalOf a s = .shadowed 0x04 →
    ∃ t, exec (.shadowedWriteArrival addr 1#4 data) s = .next t ∧
      ((new - rd s.shadow).toNat ≤ (s.w - rd s.shadow).toNat →
        t.held = some ⟨a, some (.shadowed 0x04 1#4 .data)⟩ ∧ t.done = false ∧ unchangedBut [.path] s t) ∧
      ((s.w - rd s.shadow).toNat < (new - rd s.shadow).toNat → DoneAt s t ∧ unchangedBut [.path, .writeBacks] s t ∧
        (∀ b, b ∈ s.writeBacks → b.off ≠ 0x04 →
          b ∈ t.writeBacks ∨ s.port = none ∧ ∃ a bs, t.port = some (.report (.clamp b.off) a bs false)) ∧
        (rd s.shadow ≠ s.w → (∃ b, b ∈ t.writeBacks ∧ b.off = 0x04 ∧ writeBackValue t b = s.w.toNat) ∨
          t.port = some (.report (.clamp 0x04) (regionAddr s 0x04) [s.w] false)))

/-- Every row of a merge: memory and shadow take the lanes at the same moment, pending write-backs of the fields written and the
pending result write of the slot word written are cancelled, every other write-back stands but for one that the port is granted to
at once, and the controller sees its access done (R6, R25, R30, R96). A write of
the Setup Block or the Trigger Ring that a line reset met, and that ends while the sweep runs, reaches memory alone and nothing acts
on it, as every block runs on the shadow's reset contents: this is the model's choice (assumption 25; R20, R33, R35). -/
def Obligations.AcceptedWritesMerge : Prop :=
  ∀ (s : State) (m : PortMerge) (i : Instr) (p : PortMerge → State → Bool), MemoryForm s →
    (i, p) ∈ mergeRows → p m s = true →
    (Merges s m → ∃ t, exec i s = .next t ∧ Merged m s t ∧
      t.results = (if m.isSlotWord then s.results.filter (fun r => r.1 != m.slot) else s.results) ∧
      Same .settings s t ∧ Same .sweep s t ∧ Same .session s t ∧ Same .intake s t ∧ Same .counter s t ∧ Same .buses s t) ∧
    (OutlastsReset s m → ∃ t, exec i s = .next t ∧ LanesWritten m.access.addr m.lanes m.access.data s.mem t.mem ∧ DoneAt s t ∧
      unchangedBut [.path, .port, .mem] s t)

/-- SHADOW_WRITE: a merge without a row of its own changes nothing beyond it, but for the RING_SEQ that a trigger not taken
raises (R25, R26). -/
def Obligations.ShadowWriteOnlyMerges : Prop :=
  ∀ (s : State) (m : PortMerge), MemoryForm s → Merges s m → hasOwnRow m s = false →
    ∃ t, exec .shadowWrite s = .next t ∧ Merged m s t ∧
      unchangedBut (mergeParts ++ [.results, .queue]) s t ∧ (m.verdict = .data → Same .queue s t)

/-- A trigger that is not taken raises RING_SEQ at its merge, with its slot, the sequence number it carried, and S, E and its
command byte; E, S and the last taken sequence number stay and no command is carried out (R94). -/
def Obligations.MisplacedTriggerRaisesRingSeq : Prop :=
  ∀ (s : State) (m : PortMerge), MemoryForm s → Merges s m → m.verdict = .misplaced → regionPart m.off = .ring →
    ∃ t, exec .shadowWrite s = .next t ∧
      Raises .ringSeq ((m.off - 0x5000) / 16) (m.access.data.toNat % 65536)
        (BitVec.ofNat 32 (s.expSeq + 0x10000 * s.expSlot + 0x1000000 * (laneOf m.access.data 2).toNat)) s t ∧
      Same .intake s t ∧ unchangedBut (mergeParts ++ [.results, .queue]) s t

/-- RD_WRITE, BOARD_INTERVAL_WRITE, LWB_WRITE and TIMER_PRELOAD_WRITE: Rd takes the byte written and ATTN is judged anew, the
board interval takes the lanes written, one or both, and its count restarts, LWB takes its bits, and a stopped timer's counter is loaded with the
merged preload while a running one keeps its count (R3, R31, R32, R176, R178). -/
def Obligations.FieldsWithOwnersTakeEffectAtMerge : Prop :=
  (∀ (s : State) (m : PortMerge), MemoryForm s → Merges s m → m.off = 0x04 → m.lanes.getLsbD 0 = true →
    ∃ t, exec .rdWrite s = .next t ∧ rd t.shadow = laneOf m.access.data 0 ∧ t.w = s.w ∧
      t.attn = (!s.rst && decide (s.w ≠ laneOf m.access.data 0)) ∧ unchangedBut (mergeParts ++ [.ring, .interval]) s t) ∧
  (∀ (s : State) (m : PortMerge), MemoryForm s → Merges s m → m.off = 0x04 →
    m.lanes.getLsbD 2 = true ∨ m.lanes.getLsbD 3 = true →
    ∃ t, exec .boardIntervalWrite s = .next t ∧
      boardInterval t.shadow =
        (if m.lanes.getLsbD 2 = true then (laneOf m.access.data 2).toNat else boardInterval s.shadow % 256) +
        256 * (if m.lanes.getLsbD 3 = true then (laneOf m.access.data 3).toNat else boardInterval s.shadow / 256) ∧
      t.boardCount = 0 ∧ unchangedBut (mergeParts ++ [.ring, .interval]) s t) ∧
  (∀ (s : State) (m : PortMerge), MemoryForm s → Merges s m → m.off = 0x00 → m.lanes.getLsbD 1 = true →
    ∃ t, exec .lwbWrite s = .next t ∧ lwb t.shadow = (laneOf m.access.data 1).toNat % 8 ∧
      (isPreferenceWrite m s = false → isPolarityWrite m s = false → unchangedBut mergeParts s t)) ∧
  (∀ (s : State) (m : PortMerge) (k : Nat), MemoryForm s → Merges s m → k < 4 → m.off = 0x34 + 8 * k → m.writes m.off 3 = true →
    ∃ t, exec .timerPreloadWrite s = .next t ∧ Merged m s t ∧
      timerOf t k = (if (timerOf s k).phase = .stopped then ⟨.stopped, timerPreload t.shadow k⟩ else timerOf s k) ∧
      (∀ j, j ≠ k → timerOf t j = timerOf s j) ∧ unchangedBut (mergeParts ++ [.timers]) s t)

/-- LINE_MODE_WRITE without a polarity change: a line that leaves LOCKOUT has its penalty cleared, one that leaves MOMENTARY its
held cue; filters and every other line stay (R104). -/
def Obligations.LineModeChangeTakesEffect : Prop :=
  ∀ (s : State) (m : PortMerge), MemoryForm s → Merges s m → isLineModeWrite m s = true → isPolarityWrite m s = false →
    ∃ t, exec .lineModeWrite s = .next t ∧
      (∀ n, n < 8 → lineOf t n = { lineOf s n with
        penalty := if lineMode s.shadow n = .lockout ∧ lineMode t.shadow n ≠ .lockout then none else (lineOf s n).penalty
        heldCue := if lineMode s.shadow n = .momentary ∧ lineMode t.shadow n ≠ .momentary then none
          else (lineOf s n).heldCue }) ∧
      lineOf t 8 = lineOf s 8 ∧ lineOf t 9 = lineOf s 9 ∧
      (isPreloadWrite m s = false → isPreferenceWrite m s = false → isRdWrite m s = false → isIntervalWrite m s = false →
        unchangedBut (mergeParts ++ [.lines, .marks]) s t)

/-- POLARITY_WRITE: each line whose level is judged otherwise by the new polarity takes an edge, and its filter moves by R102's
table; every other filter stays. Where G is 0 and one line alone is so judged, in a merge that changes nothing else with an owner,
the press or release that the edge makes is taken in the merge (R102, R103). -/
def Obligations.PolarityChangeIsAnEdge : Prop :=
  ∀ (s : State) (m : PortMerge), MemoryForm s → Merges s m → isPolarityWrite m s = true → s.rst = false →
    ∃ t, exec .polarityWrite s = .next t ∧
      ∀ n, n < 10 →
        ((lineOf t n).filter, (lineOf t n).timer) =
          afterEdge (glitch t.shadow) (readsActive s.shadow n (lineOf s n)) (readsActive t.shadow n (lineOf s n))
            (lineOf s n).filter (lineOf s n).timer ∧
        (isLineModeWrite m s = false → isPreferenceWrite m s = false → isPreloadWrite m s = false → isRdWrite m s = false →
          isIntervalWrite m s = false → glitch t.shadow = 0 →
          (∀ j, j < 10 → j ≠ n → readsActive s.shadow j (lineOf s j) = readsActive t.shadow j (lineOf s j)) →
          (readsActive s.shadow n (lineOf s n) = false → readsActive t.shadow n (lineOf s n) = true →
            (lineOf s n).filter = .up → PressTaken n (setFilter n .down 0 (mergeWord m s)) t) ∧
          (readsActive s.shadow n (lineOf s n) = true → readsActive t.shadow n (lineOf s n) = false →
            (lineOf s n).filter = .down → ReleaseTaken n (setFilter n .up 0 (mergeWord m s)) t))

/-- CLOCK_PREFERENCE_WRITE: INTERNAL takes RELOCKING and HOUSE to FREERUN, HOUSE with CLOCK_LOST cause 1 and the bridge count;
in FREERUN it does nothing, and so does HOUSE (R170, R171). That HOUSE to FREERUN keeps the relock count, as the rest of the Frame
Clock, is the model's choice (assumption 18, DEDUCED). -/
def Obligations.ClockPreferenceChangeActs : Prop :=
  ∀ (s : State) (m : PortMerge), MemoryForm s → Merges s m → m.off = 0x00 → isPreferenceWrite m s = true →
    ∃ t, exec .clockPreferenceWrite s = .next t ∧
      (preferInternal t.shadow = false → Same .clock s t ∧ Same .queue s t) ∧
      (preferInternal t.shadow = true → s.clock.state = .freerun → Same .clock s t ∧ Same .queue s t) ∧
      (preferInternal t.shadow = true → s.clock.state = .relocking →
        t.clock = { s.clock with state := .freerun, relock := 0, gap := 0 } ∧ Same .queue s t) ∧
      (preferInternal t.shadow = true → s.clock.state = .house →
        t.clock = { s.clock with state := .freerun, bridge := 0 } ∧
        Raises .clockLost 0 1 (BitVec.ofNat 32 s.clock.bridge) s t) ∧
      unchangedBut (mergeParts ++ [.clock, .queue, .marks, .lines]) s t

/-- CUE_LEVEL_EDIT: the target level of every voice of the cue that is not IDLE becomes the merged level clamped to 8192; nothing
else of any voice changes, but for a burst fixed or a board flag taken by the grant, and no event is raised (R81). -/
def Obligations.LevelEditReachesVoicesOfCue : Prop :=
  ∀ (s : State) (m : PortMerge), MemoryForm s → Merges s m → isLevelEdit m s = true →
    ∃ t, exec .cueLevelEdit s = .next t ∧
      (∀ v, v < 24 → voiceOf t v = servedVoice t.port v
        (if (voiceOf s v).cue = m.cue ∧ (voiceOf s v).state ≠ .idle then
          { voiceOf s v with lt := min (cueLevel t.shadow m.cue) 8192 } else voiceOf s v)) ∧
      unchangedBut (mergeParts ++ [.voices]) s t

/-! ### The Trigger Ring -/

/-- Every row of a command: the trigger's merge writes lanes 0 to 2 as written and 00h in lane 3, E and S advance and the last
taken sequence number is S, one result is handed over for the slot, and the write-backs of other fields stand, but for one that the
port is granted to at once (R30, R92, R93, R95). -/
def Obligations.TakenTriggerAdvancesIntake : Prop :=
  ∀ (s : State) (m : PortMerge) (i : Instr) (byte : Nat), MemoryForm s → Takes s m byte →
    ((i, byte) ∈ commandRows ∨ i = .unknownCommand ∧ (commandRows.map Prod.snd).contains byte = false) →
    ∃ t, exec i s = .next t ∧ DoneAt s t ∧
      LanesWritten m.access.addr 0xF (m.access.data &&& 0x00FFFFFF) s.mem t.mem ∧
      LanesWritten m.off 0xF (m.access.data &&& 0x00FFFFFF) s.shadow t.shadow ∧
      t.lastSeq = s.expSeq ∧ t.expSlot = (s.expSlot + 1) % 64 ∧
      t.expSeq = (if s.expSeq = 65535 then 1 else s.expSeq + 1) ∧
      t.writeBacks = writeBacksLeft t.port (s.writeBacks.filter (fun b => !touches m.off 0xF b.off b.width)) ∧
      ∃ code, Answered m code s t

/-- A command byte without a meaning is refused with BAD_COMMAND and arguments out of range with BAD_ARGUMENT, and a refusal
changes nothing but the Intake's values and the slot (R41, R97). -/
def Obligations.RefusedCommandsChangeNothing : Prop :=
  ∀ (s : State) (m : PortMerge) (byte : Nat), MemoryForm s → Takes s m byte →
    let a := argsOf s m
    ∀ (i : Instr) (code : ResultCode),
      ((i = .unknownCommand ∧ (commandRows.map Prod.snd).contains byte = false ∧ code = .badCommand) ∨
        (code = .badArgument ∧ (i, byte) ∈ commandRows ∧
          ((i = .release ∧ (3 < a.b0 ∨ 2 < a.b2 ∨ a.b0 = 2 ∧ 23 < a.b1 ∨ a.b0 = 1 ∧ (a.b1 = 0 ∨ 15 < a.b1))) ∨
            (i = .timerStart ∧ (3 < a.b0 ∨
              timerMode s.shadow a.b0 = .hold ∧ lineMode s.shadow (timerLine s.shadow a.b0) ≠ .hold)) ∨
            (i = .timerStop ∧ 3 < a.b0) ∨
            (i = .loadOpen ∧ (127 < a.b0 ∨ 3 < a.b1 ∨ a.b2 ≠ 1 ∧ a.b2 ≠ 2 ∨ a.w3 = 0 ∨ 4194304 < a.w3 ∨ a.w2 % 0x400 ≠ 0 ∨
              0x10000000 < a.w2 + a.w3 * a.b2 * 2)) ∨
            ((i = .clipDiscard ∨ i = .pin ∨ i = .unpin) ∧ 127 < a.b0)))) →
      ∃ t, exec i s = .next t ∧ Answered m code s t ∧ unchangedBut takeParts s t

/-- FIRE refused: the checks of R82 in their order, then ALREADY_PLAYING of an IGNORE cue with a voice that is PRIMING, RISING or
STEADY; a refused RING fire changes nothing and raises no event (R82, R83, R125). -/
def Obligations.FireIsRefusedByFirstFailingCheck : Prop :=
  ∀ (s : State) (m : PortMerge), MemoryForm s → Takes s m 0x01 →
    let cue := (argsOf s m).b0
    let preview := (argsOf s m).b1 % 2 = 1
    let c := cueRecord s.shadow cue
    let e := clipOf s c.clip
    let stop := if c.stop = 0 then e.length else min c.stop e.length
    let verdict : Option ResultCode :=
      if panicAsserted s = true then some .panicHeld
      else if c.armed = false then some .cueNotArmed
      else if e.state ≠ .ready then some .clipNotReady
      else if stop ≤ c.start then some .cueRange
      else if ¬preview ∧ c.mask = 0 then some .noRoute
      else if c.retrigger = .ignore ∧ (List.range 24).any (fun v => (voiceOf s v).cue == cue &&
        ((voiceOf s v).state == .priming || (voiceOf s v).state == .rising || (voiceOf s v).state == .steady)) = true then
        some .alreadyPlaying
      else none
    ∀ code, verdict = some code →
      ∃ t, exec .fire s = .next t ∧ Answered m code s t ∧ unchangedBut takeParts s t

/-- FIRE of a cue without choke group whose retrigger is not RESTART, with an IDLE voice: the lowest IDLE voice takes the
snapshot, its first state by head start and fade-in, and its fetch position, the start or the head length with head start, until its
first burst is granted; with head start the readers of its slot rise; the clip's use count rises; CUE_ADJUSTED stands before CUE_START
where a field was adjusted; and every other voice, clip and slot stays (R70, R79, R84, R85, R87, R88, R124, R127, R129, R130, R131,
R151, R154). The loop points of a voice without a loop are free (assumption 7). -/
def Obligations.FireAllocatesLowestIdleVoice : Prop :=
  ∀ (s : State) (m : PortMerge) (v : Nat), MemoryForm s → Takes s m 0x01 → FirePasses s m →
    let f : Fire := ⟨.ring, 0, (argsOf s m).b0, (argsOf s m).b1 % 2 == 1⟩
    let c := cueRecord s.shadow f.cue
    let e := clipOf s c.clip
    c.retrigger ≠ .restart → c.choke = 0 → v < 24 → (voiceOf s v).state = .idle →
    (∀ w, w < v → (voiceOf s w).state ≠ .idle) →
    ∃ (t : State) (head : Option Nat) (x : Voice), exec .fire s = .next t ∧ Answered m .done s t ∧
      (∀ k, head = some k ↔ GetsHead c s k) ∧ SnapshotTaken f head s (voiceOf s v) x ∧ voiceOf t v = servedVoice t.port v x ∧
      (∀ w, w ≠ v → voiceOf t w = servedVoice t.port w (voiceOf s w)) ∧
      (∀ k, slotOf t k = if head = some k then { slotOf s k with readers := (slotOf s k).readers + 1 } else slotOf s k) ∧
      clipOf t c.clip = { e with uses := e.uses + 1 } ∧ (∀ k, k ≠ c.clip → clipOf t k = clipOf s k) ∧
      (CanAppend 2 s → Appended (startEvents f head v s) s t) ∧
      unchangedBut (takeParts ++ voiceParts ++ [.waiting]) s t

/-- FIRE where retrigger and choke leave a voice IDLE: a RESTART cue ends every voice of its own as RESTARTED, a cue in a choke group
releases the voices of the group that other cues own, every other voice stays, and the fire takes the lowest voice that is then IDLE,
be it one it has freed itself, with the snapshot. The CUE_END records stand in the queue first, of the voices restarted, then of those
choked to their end, lowest voice first, each with the CLIP_EMPTY it causes behind it; then CUE_ADJUSTED, then CUE_START; use counts and
readers follow (R70, R88, R124 to R127, R129, R131, R136, R140, R141). -/
def Obligations.FireRestartsAndChokesThenAllocates : Prop :=
  ∀ (s : State) (m : PortMerge) (v : Nat), MemoryForm s → Takes s m 0x01 → FirePasses s m →
    let f : Fire := ⟨.ring, 0, (argsOf s m).b0, (argsOf s m).b1 % 2 == 1⟩
    let reached := voiceOf (voicesReached f.cue s)
    v < 24 → (reached v).state = .idle → (∀ w, w < v → (reached w).state ≠ .idle) →
    ∃ t, exec .fire s = .next t ∧ Answered m .done s t ∧
      FireTakes f reached (endsByFire f.cue s) v (reached v) s t ∧ unchangedBut (takeParts ++ voiceParts ++ [.waiting]) s t

/-- The allocation of a fire: the lowest IDLE voice; else the FALLING voice at or below the new priority with the lowest last
envelope; else the PRIMING, RISING or STEADY voice below it with the lowest priority, then the earliest start stamp; ties go to
the lower number; else none (R127). A FIRE looks among the voices as its retrigger and choke leave them. One that takes a voice which
is not IDLE steals it: the voice ends STOLEN, with its CUE_END and what the end of its use brings, and is set up for the new fire at
once; one that finds no voice is refused with NO_VOICE, and changes nothing but the voices that its choke has set falling (R66, R124,
R128, R129, R140, R141). -/
def Obligations.AllocationGoesThroughTiers : Prop :=
  (∀ (s : State) (p : Nat),
    let x := voiceOf s
    (∀ v, allocate s p = some (v, false) ↔ v < 24 ∧ (x v).state = .idle ∧ ∀ w, w < v → (x w).state ≠ .idle) ∧
    (∀ v, allocate s p = some (v, true) ↔ v < 24 ∧ (∀ w, w < 24 → (x w).state ≠ .idle) ∧
      (((x v).state = .falling ∧ (x v).priority ≤ p ∧
          ∀ w, w < 24 → (x w).state = .falling → (x w).priority ≤ p →
            (x v).lastEnv < (x w).lastEnv ∨ (x v).lastEnv = (x w).lastEnv ∧ v ≤ w) ∨
        ((∀ w, w < 24 → (x w).state = .falling → p < (x w).priority) ∧ (x v).state ≠ .falling ∧ (x v).priority < p ∧
          ∀ w, w < 24 → (x w).state ≠ .falling → (x w).priority < p →
            (x v).priority < (x w).priority ∨ (x v).priority = (x w).priority ∧
              ((s.frameCounter - (x w).stamp).toNat < (s.frameCounter - (x v).stamp).toNat ∨
                (s.frameCounter - (x w).stamp).toNat = (s.frameCounter - (x v).stamp).toNat ∧ v ≤ w)))) ∧
    (allocate s p = none ↔ ∀ v, v < 24 → (x v).state ≠ .idle ∧ ((x v).state = .falling → p < (x v).priority) ∧
      ((x v).state ≠ .falling → p ≤ (x v).priority))) ∧
  (∀ (s : State) (m : PortMerge), MemoryForm s → Takes s m 0x01 → FirePasses s m →
    let f : Fire := ⟨.ring, 0, (argsOf s m).b0, (argsOf s m).b1 % 2 == 1⟩
    let c := cueRecord s.shadow f.cue
    let r := voicesReached f.cue s
    (allocate r c.priority = none →
      ∃ t, exec .fire s = .next t ∧ Answered m .noVoice s t ∧ (∀ v, v < 24 → voiceOf t v = servedVoice t.port v (voiceOf r v)) ∧
        unchangedBut (.voices :: takeParts) s t ∧ (c.choke = 0 → unchangedBut takeParts s t)) ∧
    (∀ v, allocate r c.priority = some (v, true) →
      ∃ t, exec .fire s = .next t ∧ Answered m .done s t ∧
        FireTakes f (voiceOf r) [(v, voiceOf r v, .stolen)] v (endedVoice .stolen (voiceOf r v)) s t ∧
        unchangedBut (takeParts ++ voiceParts ++ [.waiting]) s t))

/-- RELEASE: every voice in its scope, by cue, by choke group, by number or all, falls or ends by its mode, FADE with the voice's
own Fo, QUICK with the length given, CUT at once; every other voice stays, and DONE is returned. Each voice that ends raises CUE_END
with its reason, lowest voice first, leaves its head slot and lowers its clip's use count; a RETIRING clip whose use count reaches 0
becomes EMPTY with CLIP_EMPTY behind that CUE_END, and a DRAINING slot whose readers reach 0 becomes FREE (R64, R66, R70, R136, R138,
R140, R141). -/
def Obligations.ReleaseReachesVoicesInScope : Prop :=
  ∀ (s : State) (m : PortMerge), MemoryForm s → Takes s m 0x02 →
    let a := argsOf s m
    a.b0 ≤ 3 → a.b2 ≤ 2 → (a.b0 = 2 → a.b1 ≤ 23) → (a.b0 = 1 → 1 ≤ a.b1 ∧ a.b1 ≤ 15) →
    let reached : Nat → Voice := fun v =>
      let x := voiceOf s v
      if a.b0 = 0 ∧ x.cue = a.b1 ∨ a.b0 = 1 ∧ x.choke = a.b1 ∨ a.b0 = 2 ∧ v = a.b1 ∨ a.b0 = 3 then
        releasedVoice (if a.b2 = 1 then none else if a.b2 = 2 then some (a.w2 % 65536) else some x.fo) .released .cut x
      else x
    let ends := endsAmong s reached (if a.b2 = 1 then .cut else .released)
    ∃ t, exec .release s = .next t ∧ Answered m .done s t ∧
      (∀ v, v < 24 → voiceOf t v = servedVoice t.port v (reached v)) ∧
      (CanAppend (2 * ends.length) s → Appended (endEvents s [] ends) s t) ∧ EndsCounted ends s t ∧
      unchangedBut (takeParts ++ voiceParts) s t

/-- LOCK_ARM arms an OPEN lockout, LOCK_REARM arms a LOCKED one again with its winner barred, LOCK_RESET opens it; in any other
state the first two are refused with LOCK_STATE and the third is DONE without effect. A WIN timer that counts as the lockout
leaves LOCKED reloads and waits (R114, R120). -/
def Obligations.LockCommandsMoveTheLockout : Prop :=
  ∀ (s : State) (m : PortMerge) (byte : Nat), MemoryForm s → Takes s m byte →
    let lo := s.lockout
    let winTimers : State → Prop := fun t => ∀ k, k < 4 → timerOf t k =
      if timerMode s.shadow k = .win ∧ (timerOf s k).phase = .counting then
        ⟨if timerPreload s.shadow k = 0 then .stopped else .waiting, timerPreload s.shadow k⟩
      else timerOf s k
    (byte = 0x10 → ∃ t, exec .lockArm s = .next t ∧
      (lo.state = .unlocked → Answered m .done s t ∧
        t.lockout = { lo with state := .armed, barred := 0, late := [], reaction := 0, armClock := 0 } ∧
        unchangedBut (takeParts ++ [.lockout, .marks]) s t) ∧
      (lo.state ≠ .unlocked → Answered m .lockState s t ∧ unchangedBut takeParts s t)) ∧
    (byte = 0x11 → ∃ t, exec .lockRearm s = .next t ∧
      (lo.state = .locked → Answered m .done s t ∧
        t.lockout = { lo with state := .armed, winner := none, barred := t.lockout.barred, late := [] } ∧
        (∀ n, n < 8 → t.lockout.barred.getLsbD n = (lo.barred.getLsbD n || lo.winner == some n)) ∧ winTimers t ∧
        unchangedBut (takeParts ++ [.lockout, .timers, .marks]) s t) ∧
      (lo.state ≠ .locked → Answered m .lockState s t ∧ unchangedBut takeParts s t)) ∧
    (byte = 0x12 → ∃ t, exec .lockReset s = .next t ∧ Answered m .done s t ∧
      (lo.state = .unlocked → unchangedBut takeParts s t) ∧
      (lo.state = .armed → t.lockout = { lo with state := .unlocked, winner := none, barred := 0, late := [] } ∧
        unchangedBut (takeParts ++ [.lockout, .marks]) s t) ∧
      (lo.state = .locked → t.lockout = { lo with state := .unlocked, winner := none, barred := 0, late := [] } ∧ winTimers t ∧
        unchangedBut (takeParts ++ [.lockout, .timers, .marks]) s t))

/-- TIMER_START starts a stopped timer in the phase of its mode, from its counter or, where that is 0, from its preload; a running
timer, PANIC asserted, or a counter and preload of 0 leave it as it is. TIMER_STOP stops a running timer and keeps its counter.
Both return DONE (R97, R117). -/
def Obligations.TimerCommandsStartAndStop : Prop :=
  ∀ (s : State) (m : PortMerge) (byte : Nat), MemoryForm s → Takes s m byte →
    let k := (argsOf s m).b0
    let x := timerOf s k
    let p := timerPreload s.shadow k
    k ≤ 3 →
    (byte = 0x18 → (timerMode s.shadow k = .hold → lineMode s.shadow (timerLine s.shadow k) = .hold) →
      ∃ t, exec .timerStart s = .next t ∧ Answered m .done s t ∧
        timerOf t k =
          (if x.phase ≠ .stopped ∨ panicAsserted s = true ∨ x.counter = 0 ∧ p = 0 then x
          else ⟨if timerMode s.shadow k = .hold ∨ timerMode s.shadow k = .win ∧ s.lockout.state ≠ .locked then .waiting
            else .counting, if x.counter = 0 then p else x.counter⟩) ∧
        (∀ j, j ≠ k → timerOf t j = timerOf s j) ∧ unchangedBut (takeParts ++ [.timers]) s t) ∧
    (byte = 0x19 → ∃ t, exec .timerStop s = .next t ∧ Answered m .done s t ∧
      timerOf t k = (if x.phase = .stopped then x else { x with phase := .stopped }) ∧
      (∀ j, j ≠ k → timerOf t j = timerOf s j) ∧ unchangedBut (takeParts ++ [.timers]) s t)

/-- LOAD_OPEN with its arguments in range: LOAD_BUSY while a session is open, then CLIP_BUSY of a clip that is RETIRING or in use,
then LOAD_OVERLAP where the extent would share a byte with the Control Region, the Load Window or another clip's extent; else the
session is open and the entry LOADING, its old head slot FREE (R41, R42). -/
def Obligations.LoadOpenJudgesThenOpens : Prop :=
  ∀ (s : State) (m : PortMerge), MemoryForm s → Takes s m 0x20 →
    let a := argsOf s m
    a.b0 ≤ 127 → a.b1 ≤ 3 → (a.b2 = 1 ∨ a.b2 = 2) → 1 ≤ a.w3 → a.w3 ≤ 4194304 → a.w2 % 0x400 = 0 →
    a.w2 + a.w3 * a.b2 * 2 ≤ 0x10000000 →
    let e := clipOf s a.b0
    let busy : Prop := e.state = .retiring ∨ 0 < e.uses
    let overlap : Prop := ∃ b, a.w2 ≤ b ∧ b < a.w2 + a.w3 * a.b2 * 2 ∧
      (s.crb * 0x1000000 ≤ b ∧ b < s.crb * 0x1000000 + 0x10000 ∨
        lwb s.shadow * 0x2000000 ≤ b ∧ b < lwb s.shadow * 0x2000000 + 0x2000000 ∨
        ∃ c lo hi, c < 128 ∧ c ≠ a.b0 ∧ extentOf (clipOf s c) = some (lo, hi) ∧ lo ≤ b ∧ b < hi)
    ∃ t, exec .loadOpen s = .next t ∧
      (s.session ≠ none → Answered m .loadBusy s t ∧ unchangedBut takeParts s t) ∧
      (s.session = none → busy → Answered m .clipBusy s t ∧ unchangedBut takeParts s t) ∧
      (s.session = none → ¬ busy → overlap → Answered m .loadOverlap s t ∧ unchangedBut takeParts s t) ∧
      (s.session = none → ¬ busy → ¬ overlap → Answered m .done s t ∧
        t.session = some ⟨a.b0, if a.b1 = 0 then .p16 else if a.b1 = 1 then .p24l else if a.b1 = 2 then .p12r else .pu8,
          a.b2, a.w2, a.w3, none, 0, 0xFFFF, true, 0⟩ ∧
        clipOf t a.b0 = ⟨.loading, a.b2, a.w2, a.w3, 0, 0, 0, .notChecked, 0, none⟩ ∧
        (OwnSlot a.b0 s → (∀ c, c ≠ a.b0 → clipOf t c = clipOf s c) ∧
          ∀ k, slotOf t k = if e.headSlot = some k then HeadSlot.blank else slotOf s k) ∧
        unchangedBut (takeParts ++ [.session, .clips, .mirror, .slots]) s t)

/-- LOAD_CLOSE: NO_LOAD without a session, LOAD_EMPTY of one without a sample; else the entry takes the length, peak, CRC and CRC
status of the session and is READY or FAULTY by that status, the session is over, and LOAD_DONE is raised. LOAD_ABORT makes the
entry EMPTY and raises nothing (R43, R44, R45). That a closed entry's capacity, which R61 gives a meaning in LOADING only, is 0 is the
model's choice (assumption 29). -/
def Obligations.LoadCloseAndAbortEndTheSession : Prop :=
  (∀ (s : State) (m : PortMerge), MemoryForm s → Takes s m 0x21 →
    let a := argsOf s m
    ∃ t, exec .loadClose s = .next t ∧
      (s.session = none → Answered m .noLoad s t ∧ unchangedBut takeParts s t) ∧
      (∀ se, s.session = some se → se.highest = none → Answered m .loadEmpty s t ∧ unchangedBut takeParts s t) ∧
      (∀ se f, s.session = some se → se.highest = some f → se.clip < 128 →
        let status : CrcStatus := if a.b0 % 2 = 0 then .notChecked else if se.orderGood = false then .order
          else if se.crc.toNat = a.w2 % 65536 then .matched else .mismatch
        Answered m .done s t ∧ t.session = none ∧
          clipOf t se.clip = ⟨if status = .mismatch ∨ status = .order then .faulty else .ready, se.channels, se.base, 0, f + 1,
            se.peak, se.crc, status, 0, none⟩ ∧
          (∀ c, c ≠ se.clip → clipOf t c = clipOf s c) ∧
          Raises .loadDone se.clip status.code (BitVec.ofNat 32 (f + 1)) s t ∧
          unchangedBut (takeParts ++ [.session, .clips, .mirror, .queue]) s t)) ∧
  (∀ (s : State) (m : PortMerge), MemoryForm s → Takes s m 0x22 →
    ∃ t, exec .loadAbort s = .next t ∧
      (s.session = none → Answered m .noLoad s t ∧ unchangedBut takeParts s t) ∧
      (∀ se, s.session = some se → Answered m .done s t ∧ t.session = none ∧ clipOf t se.clip = ClipEntry.blank ∧
        (∀ c, c ≠ se.clip → clipOf t c = clipOf s c) ∧
        unchangedBut (takeParts ++ [.session, .clips, .mirror]) s t))

/-- CLIP_DISCARD, PIN and UNPIN by the state of the entry: a discard makes a READY or FAULTY clip EMPTY, or RETIRING while it is
in use, with an implied UNPIN; a PIN of a READY clip takes the lowest FREE slot; an UNPIN frees the slot or leaves it DRAINING for
its readers. The refusals change nothing (R65, R68, R71, R72). -/
def Obligations.DiscardPinAndUnpinFollowTheEntry : Prop :=
  ∀ (s : State) (m : PortMerge) (byte : Nat), MemoryForm s → Takes s m byte →
    let c := (argsOf s m).b0
    let e := clipOf s c
    let kept := e.headSlot.filter (fun k => !freedAtOnce (slotOf s k))
    c ≤ 127 → OwnSlot c s →
    (byte = 0x23 → ∃ t, exec .clipDiscard s = .next t ∧
      (e.state = .empty ∨ e.state = .retiring → Answered m .done s t ∧ unchangedBut takeParts s t) ∧
      (e.state = .loading → Answered m .loadBusy s t ∧ unchangedBut takeParts s t) ∧
      (e.state = .ready ∨ e.state = .faulty → Answered m .done s t ∧ UnpinnedFrom c s t ∧
        clipOf t c = (if e.uses = 0 then ClipEntry.blank else { e with state := .retiring, headSlot := kept }) ∧
        unchangedBut (takeParts ++ [.clips, .mirror, .slots]) s t)) ∧
    (byte = 0x28 → ∃ t, exec .pin s = .next t ∧
      (e.state ≠ .ready → Answered m .clipNotReady s t ∧ unchangedBut takeParts s t) ∧
      (e.state = .ready → e.headSlot ≠ none → Answered m .alreadyPinned s t ∧ unchangedBut takeParts s t) ∧
      (e.state = .ready → e.headSlot = none → (∀ k, k < 8 → (slotOf s k).state ≠ .free) →
        Answered m .headFull s t ∧ unchangedBut takeParts s t) ∧
      (∀ k, e.state = .ready → e.headSlot = none → k < 8 → (slotOf s k).state = .free →
        (∀ j, j < k → (slotOf s j).state ≠ .free) →
        Answered m .done s t ∧ slotOf t k = ⟨.filling, c, min 256 e.length, 0, 0, []⟩ ∧
          (∀ j, j ≠ k → slotOf t j = slotOf s j) ∧ clipOf t c = { e with headSlot := some k } ∧
          (∀ d, d ≠ c → clipOf t d = clipOf s d) ∧ unchangedBut (takeParts ++ [.clips, .mirror, .slots]) s t)) ∧
    (byte = 0x29 → ∃ t, exec .unpin s = .next t ∧
      (e.state = .ready ∨ e.state = .retiring → e.headSlot ≠ none →
        Answered m .done s t ∧ UnpinnedFrom c s t ∧ clipOf t c = { e with headSlot := kept } ∧
          unchangedBut (takeParts ++ [.clips, .mirror, .slots]) s t) ∧
      ((e.state ≠ .ready ∧ e.state ≠ .retiring) ∨ e.headSlot = none →
        Answered m .notPinned s t ∧ unchangedBut takeParts s t))

/-- METER_CLEAR sets to 0 the clip counter of each bus in its mask, keeps the others, and leaves the duck gains, the outputs, the
voices and the pending queue as they stand; block 4 of the Status Block then shows the counters (R99). -/
def Obligations.MeterClearClearsMaskedCounters : Prop :=
  ∀ (s : State) (m : PortMerge), MemoryForm s → Takes s m 0x30 →
    ∃ t, exec .meterClear s = .next t ∧ Answered m .done s t ∧
      (∀ b, b < 4 → busOf t b =
        if ((argsOf s m).b0 / 2 ^ b) % 2 = 1 then { busOf s b with clips := 0 } else busOf s b) ∧
      (∀ b, b < 4 → ((statusBytes t 4).drop (8 + 2 * b)).take 2 = leBytes 2 (busOf t b).clips) ∧
      unchangedBut (takeParts ++ [.buses]) s t

/-! ### The part's own accesses -/

/-- RESULT_WRITE, CLAMP_WRITE_BACK, STATUS_BLOCK_WRITE, DIRECTORY_MIRROR_WRITE and VOICE_BOARD_QUARTER_WRITE: memory, and the
shadow of a shadowed word, take the bytes at the same moment; a result is then no longer pending, a write-back of Rd judges ATTN
anew, one of the board interval restarts its count, a quarter makes way for the next, and the mirror flag of the entry written is
cleared unless the entry has changed since the grant; a change sets the flag, and while the entry's write is on the port it is
remembered as one that calls for another (R24, R29, R63, R95, R176, R178, R179). That a write which a reset met on the port has no
effect on the part, and once RST# is released none on the shadow, is the model's choice (assumption 15, DEDUCED from R20 and R33). -/
def Obligations.ReportWritesReachMemoryAndShadow : Prop :=
  (∀ (c : Nat) (e : ClipEntry) (s : State), c < 128 →
    bankGet (setClip c e s).mirrorFlags c false = true ∧
      (∀ a bs, s.port = some (.report (.mirror c) a bs false) → (setClip c e s).mirrorAgain = true)) ∧
  ∀ (s : State) (i : Instr) (k : ReportKind) (off : Nat) (bytes : List Byte) (orphan : Bool), MemoryForm s →
    s.port = some (.report k (regionAddr s off) bytes orphan) →
    ((∃ j, i = .resultWrite ∧ k = .result j) ∨ (∃ f, i = .clampWriteBack ∧ k = .clamp f) ∨
      (∃ b, i = .statusBlockWrite ∧ k = .status b) ∨ (∃ c, i = .directoryMirrorWrite ∧ k = .mirror c) ∨
      (∃ v q, i = .voiceBoardQuarterWrite ∧ k = .board v q)) →
    ∃ t, exec i s = .next t ∧ BytesWritten (regionAddr s off) bytes s.mem t.mem ∧
      (orphan = false ∨ s.rst = true → off < 0x5400 → BytesWritten off bytes s.shadow t.shadow) ∧
      ((orphan = true ∧ s.rst = false) ∨ 0x5400 ≤ off → Same .shadow s t) ∧
      (orphan = true → unchangedBut [.port, .mem, .shadow] s t) ∧
      (orphan = false →
        (∀ j, k = .result j → t.results = s.results.filter (fun r => r.1 != j) ∧
          unchangedBut [.port, .mem, .shadow, .results] s t) ∧
        (∀ f, k = .clamp f →
          (f = 0x04 → t.w = s.w ∧ t.attn = (!s.rst && decide (s.w ≠ rd t.shadow)) ∧
            unchangedBut [.port, .mem, .shadow, .ring] s t) ∧
          (f = 0x06 → t.boardCount = 0 ∧ unchangedBut [.port, .mem, .shadow, .interval] s t) ∧
          (f ≠ 0x04 → f ≠ 0x06 → unchangedBut [.port, .mem, .shadow] s t)) ∧
        (∀ b, k = .status b → unchangedBut [.port, .mem, .shadow] s t) ∧
        (∀ c, k = .mirror c → unchangedBut [.port, .mem, .shadow, .mirror] s t) ∧
        (∀ v q, k = .board v q → unchangedBut [.port, .mem, .shadow, .copy] s t) ∧
        (∀ c, k = .mirror c → c < 128 →
          bankGet t.mirrorFlags c false = (bankGet s.mirrorFlags c false && s.mirrorAgain) ∧ t.mirrorAgain = false ∧
            ∀ d, d ≠ c → bankGet t.mirrorFlags d false = bankGet s.mirrorFlags d false) ∧
        (∀ v q c, k = .board v q → q < 3 → s.boardCopy = some c → t.boardCopy = some { c with next := q + 1 }) ∧
        (∀ v q, k = .board v q → 3 ≤ q → CopyLeft t.port none t.boardCopy))

/-- EVENT_RECORD_WRITE: the head record leaves the queue, W advances modulo 256 and ATTN is judged anew, Status Block block 0 is
marked, and where events were lost a LOST record with their number is appended and the lost count cleared (R174, R175, R176). -/
def Obligations.EventRecordLeavesTheQueue : Prop :=
  ∀ (s : State) (addr : Nat) (bytes : List Byte), MemoryForm s → s.port = some (.report .event addr bytes false) →
    ∃ t, exec .eventRecordWrite s = .next t ∧ BytesWritten addr bytes s.mem t.mem ∧ t.w = s.w + 1 ∧
      t.attn = (!s.rst && decide (s.w + 1 ≠ rd t.shadow)) ∧ t.lost = 0 ∧
      (s.lost = 0 → t.queue = s.queue.drop 1 ∧ t.nextSeq = s.nextSeq) ∧
      (s.lost ≠ 0 → t.queue = s.queue.drop 1 ++ [⟨s.nextSeq, .lost, 0, s.frameCounter, 0, 0, BitVec.ofNat 32 s.lost⟩] ∧
        t.nextSeq = s.nextSeq + 1) ∧
      (bankGet t.marks 0 false = true ∨ ∃ a bs, t.port = some (.report (.status 0) a bs false)) ∧
      unchangedBut [.port, .mem, .shadow, .queue, .ring, .marks] s t

/-- Raising an event: a merging kind adds 1 to the repeats of the first waiting record of its kind and subject A, the head record
standing out once its write is granted; else it is appended with the next sequence number while the queue has room, and counted
as lost where it has none, as all are while the sweep runs; the repeats stop at 255, the lost count at 65535 (R35, R173, R174).
That nothing of any kind is raised or counted while RST# is asserted is the model's choice (assumption 20, DEDUCED: R172 says so of
the events of frames and of the Frame Clock). -/
def Obligations.RaisedEventIsMergedAppendedOrLost : Prop :=
  ∀ (k : EventKind) (a b : Nat) (value : Word) (s : State),
    let t := raiseEvent k a b value s
    let first : Nat := match s.port with
      | some (.report .event _ _ false) => 1
      | _ => 0
    let matched : Nat → Prop := fun i =>
      ∃ r, s.queue[i]? = some r ∧ first ≤ i ∧ r.kind = k ∧ r.subjectA = BitVec.ofNat 16 a
    let merging : Prop := k = .loadPartial ∨ k = .loadRange ∨ k = .guardWrite ∨ k = .setupRefused ∨ k = .ringSeq ∨ k = .busClip
    (s.rst = true → t = s) ∧
    (s.rst = false → s.sweep ≠ none → t = { s with lost := min 65535 (s.lost + 1) }) ∧
    (s.rst = false → s.sweep = none →
      (∀ i r, merging → matched i → (∀ j, j < i → ¬ matched j) → s.queue[i]? = some r →
        t = { s with queue := s.queue.set i { r with repeats := min 255 (r.repeats + 1) } }) ∧
      ((¬ merging ∨ ∀ i, ¬ matched i) → s.queue.length < 16 →
        t = { s with
          queue := s.queue ++ [⟨s.nextSeq, k, 0, s.frameCounter, BitVec.ofNat 16 a, BitVec.ofNat 16 b, value⟩]
          nextSeq := s.nextSeq + 1 }) ∧
      ((¬ merging ∨ ∀ i, ¬ matched i) → 16 ≤ s.queue.length → t = { s with lost := min 65535 (s.lost + 1) }))

/-- FETCH_BURST_LAND: a burst of a voice that is not IDLE, with its current epoch and not stale, appends its frames to the FIFO,
each with its position and the epoch, the voice's frames in flight return to 0 until its next burst is granted, and a PRIMING voice
whose FIFO holds enough leaves PRIMING; any other burst is discarded, and no voice changes but for the grant (R132, R149, R160). HEAD_FILL_BURST_LAND: the frames enter the slot, and at the head length it is READY and PIN_DONE is raised;
a stale burst, or one of a slot that is no longer FILLING, is discarded (R69). -/
def Obligations.BurstsLandOrAreDiscarded : Prop :=
  let frame : Cells → Nat → Nat → Nat → Frame := fun m addr channels i =>
    ⟨readHalf m (addr + 2 * channels * i), readHalf m (addr + 2 * channels * i + (if channels = 2 then 2 else 0))⟩
  (∀ (s : State) (b : Burst), s.port = some (.burst b) → b.voice < 24 →
    let x := voiceOf s b.voice
    let held := fill x + b.frames
    ∃ t, exec .fetchBurstLand s = .next t ∧
      (b.stale = false → x.state ≠ .idle → x.epoch = b.epoch →
        let leaves : Prop := x.state = .priming ∧ (8 ≤ held ∨ x.loop = false ∧ x.effEnd ≤ x.due + held)
        let fifo := x.fifo ++ (List.range b.frames).map (fun i => ⟨frame s.mem b.addr b.channels i, b.start + i, b.epoch⟩)
        (leaves → voiceOf t b.voice = servedVoice t.port b.voice
          { x with fifo := fifo, inFlight := 0, state := if 0 < x.fi then .rising else .steady, n := 0, boardFlag := true }) ∧
        (¬ leaves → voiceOf t b.voice = servedVoice t.port b.voice { x with fifo := fifo, inFlight := 0 }) ∧
        (∀ w, w ≠ b.voice → voiceOf t w = servedVoice t.port w (voiceOf s w)) ∧ unchangedBut [.port, .voices] s t) ∧
      (b.stale = true ∨ x.state = .idle ∨ x.epoch ≠ b.epoch → unchangedBut [.port] s t)) ∧
  (∀ (s : State) (b : FillBurst), s.port = some (.fill b) → b.slot < 8 →
    let h := slotOf s b.slot
    ∃ t, exec .headFillBurstLand s = .next t ∧
      (b.stale = false → h.state = .filling →
        let full : Bool := decide (h.headLength ≤ h.fillPos + b.frames)
        slotOf t b.slot = { h with
          state := if full = true then .ready else .filling
          fillPos := h.fillPos + b.frames
          frames := h.frames ++ (List.range b.frames).map (frame s.mem b.addr b.channels) } ∧
        (full = true → Raises .pinDone h.clip b.slot (BitVec.ofNat 32 h.headLength) s t) ∧
        (full = false → Same .queue s t) ∧
        (∀ k, k ≠ b.slot → slotOf t k = slotOf s k) ∧ unchangedBut [.port, .slots, .queue] s t) ∧
      (b.stale = true ∨ h.state ≠ .filling → unchangedBut [.port] s t))

/-- The burst of a voice is fixed at its grant: it starts at the fetch position, has 8 frames or as many as lie before the loop
end or the effective end, is addressed by the clip's base and channels and carries the fetch epoch; the fetch position goes on
behind it, wrapped at the loop end, and the frames are counted as in flight. A burst crosses neither end, after the one that
reaches the effective end the voice has no frames to fetch, and the FIFO can hold a burst that was requested (R148). -/
def Obligations.BurstIsFixedAtItsGrant : Prop :=
  ∀ (s : State) (v : Nat), v < 24 →
    let x := voiceOf s v
    let e := clipOf s x.clip
    let n := min 8 ((if x.loop = true then x.le else x.effEnd) - x.fetchPos)
    let t := grantVoice v s
    t.port = some (.burst ⟨v, x.epoch, x.fetchPos, n, e.base + x.fetchPos * e.channels * 2, e.channels, false⟩) ∧
      voiceOf t v = { x with
        inFlight := n
        fetchPos := if x.loop = true ∧ x.fetchPos + n = x.le then x.ls else x.fetchPos + n } ∧
      (∀ w, w ≠ v → voiceOf t w = voiceOf s w) ∧
      t = { s with port := t.port, voices := t.voices } ∧
      (x.fetchPos < (if x.loop = true then x.le else x.effEnd) →
        1 ≤ n ∧ x.fetchPos + n ≤ (if x.loop = true then x.le else x.effEnd)) ∧
      (x.loop = false → x.fetchPos + n = x.effEnd → hasFrames (voiceOf t v) = false) ∧
      (requests x = true → fill x + n ≤ 32)

/-- The grant of a free port: the sweep; then the urgent voice that stands first; then, from 12 pending records on, the Report
Writer; then the controller; then a voice that is not urgent; then the head fill on offer, one that stands before a new one of the
lowest FILLING slot; then the Report Writer, by its own orders. A voice's burst is fixed as its grant has it, a mirror flag
stands until its write ends, and a grant takes or moves nothing beyond what its own access is about (R15, R63, R69, R146, R147, R148, R175, R177, R178). -/
def Obligations.PortIsGrantedByPlace : Prop :=
  ∀ s : State, s.port = none → s.rst = false →
    let t := arbitrate s
    let burstOf : Nat → Prop := fun v => t.port = (grantVoice v s).port ∧ voiceOf t v = voiceOf (grantVoice v s) v ∧
      ∃ b, t.port = some (.burst b) ∧ b.voice = v
    let fillOf : Nat → Prop := fun k =>
      let h := slotOf s k
      let e := clipOf s h.clip
      t.port = some (.fill ⟨k, min 8 (h.headLength - h.fillPos), e.base + 2 * e.channels * h.fillPos, e.channels, false⟩) ∧
        t.offer = none
    unchangedBut [] s t ∧
    (∀ i off bytes, s.sweep = some i → sweepBlock s i = some (off, bytes) →
      t.port = some (.sweep (regionAddr s off) bytes false)) ∧
    (s.sweep = none →
      (∀ v, FirstRequester s v → urgent (voiceOf s v) = true → burstOf v) ∧
      (NoneUrgent s → 12 ≤ s.queue.length → ReportGranted s t) ∧
      (NoneUrgent s → s.queue.length < 12 → controllerRequests s = true → t.port = some .controller) ∧
      (∀ v, NoneUrgent s → s.queue.length < 12 → controllerRequests s = false → FirstRequester s v → burstOf v) ∧
      (s.queue.length < 12 → controllerRequests s = false → (∀ v, v < 24 → requests (voiceOf s v) = false) →
        (∀ k, s.offer = some k → (slotOf s k).state = .filling → fillOf k) ∧
        (∀ k, (∀ j, s.offer = some j → (slotOf s j).state ≠ .filling) → k < 8 → (slotOf s k).state = .filling →
          (∀ j, j < k → (slotOf s j).state ≠ .filling) → fillOf k)) ∧
      (OnlyReports s → ReportGranted s t))

/-! ### Lines -/

/-- The passing of `d` reference periods, 120 to a line unit: a filter timer that counts and a penalty fall by them, the arm clock
rises while ARMED or LOCKED and the win clock while LOCKED, each up to its top in line units. LINE_EDGE: after that time the pin
takes its level, and an edge of the judged level moves the filter by the table of R102; with a glitch filter of 0 the press or
release that the edge makes is taken at once; else, or while RST# is asserted, nothing more changes (R1, R101, R102, R103, R109,
R113). That each timer counts its line units from its own start is assumption 5; that the command changes nothing where another
timer runs out sooner is assumption 4; both are the model's choice. -/
def Obligations.LineEdgesMoveFilters : Prop :=
  (∀ (d : Nat) (s : State),
    let e := elapse d s
    (∀ n, n < 10 →
      let l := lineOf s n
      lineOf e n = { l with
        timer := if l.filter = .pressing ∨ l.filter = .releasing then l.timer - d else l.timer
        penalty := l.penalty.map (fun p => p - d) }) ∧
    e.lockout = { s.lockout with
      armClock := if s.lockout.state = .unlocked then s.lockout.armClock else min (0xFFFFFFFF * 120) (s.lockout.armClock + d)
      winClock := if s.lockout.state = .locked then min (65535 * 120) (s.lockout.winClock + d) else s.lockout.winClock } ∧
    e.clock = { s.clock with
      frameTimer := s.clock.frameTimer - d
      gap := if s.clock.state = .relocking then s.clock.gap - d else s.clock.gap } ∧
    unchangedBut [.lines, .lockout, .clock] s e) ∧
  (∀ (n : Fin 10) (high : Bool) (after : Nat) (s : State), Soonest after s →
    let e := elapse after s
    let l := lineOf e n
    let was := readsActive s.shadow n l
    let now := readsActive s.shadow n { l with high := high }
    let press : Prop := was = false ∧ now = true ∧ l.filter = .up ∧ glitch s.shadow = 0
    let release : Prop := was = true ∧ now = false ∧ l.filter = .down ∧ glitch s.shadow = 0
    ∃ t, exec (.lineEdge n high after) s = .next t ∧ (lineOf t n).high = high ∧
      (∀ j, j ≠ n.val → lineOf t j = lineOf e j) ∧
      (s.rst = true → lineOf t n = { l with high := high } ∧ unchangedBut [.lines] e t) ∧
      (s.rst = false →
        ((lineOf t n).filter, (lineOf t n).timer) = afterEdge (glitch s.shadow) was now l.filter l.timer ∧
        (¬ press → ¬ release → unchangedBut [.lines] e t) ∧
        (press → PressTaken n (setFilter n .down 0 (setPin n high e)) t) ∧
        (release → ReleaseTaken n (setFilter n .up 0 (setPin n high e)) t))) ∧
  (∀ (n : Fin 10) (high : Bool) (after : Nat) (s : State), ¬ Soonest after s → exec (.lineEdge n high after) s = .next s)

/-- FILTER_TIMER_EXPIRY: the line is DOWN and its press is taken, or UP and its release is taken, and handed to the owner by the
line's mode: OFF and TALK do nothing more, KEY fires the bound cue, MOMENTARY fires it and holds it until the release releases it
with FADE, HOLD starts and reloads the timers bound to the line (R102, R104, R105, R108, R119). That the command stands for the time up
to the expiry, which passes first, is the model's choice (assumption 4). -/
def Obligations.FilterExpiryTakesPressOrRelease : Prop :=
  ∀ (n : Fin 10) (s : State),
    (PressComing n s → n.val ≠ 8 → ∃ t, exec (.filterTimerExpiry n) s = .next t ∧ PressServed n (atPress n s) t) ∧
    (ReleaseComing n s → n.val ≠ 8 → ∃ t, exec (.filterTimerExpiry n) s = .next t ∧ ReleaseServed n (atRelease n s) t)

/-- A press of a LOCKOUT line: early while OPEN, with its penalty and LOCK_EARLY; while ARMED it wins unless the line is barred or
in penalty: LOCK_WON is raised with the whole line units since LOCK_ARM, waiting WIN timers count, and the bound cue is fired behind
LOCK_WON, to start or to be refused; while LOCKED it is entered in the late list with LOCK_LATE and the whole line units since the
win, unless the line is the winner, barred, in penalty or listed, or the list is full (R110, R111, R112, R113, R120). That reaction, delay
and penalty are counted in reference periods from their own start, 120 to a line unit, is assumption 5, and that the command stands
for the time up to the expiry, which passes first, is assumption 4; both are the model's choice. -/
def Obligations.LockoutPressIsJudged : Prop :=
  ∀ (n : Fin 10) (s : State), n.val < 8 → PressComing n s → lineMode s.shadow n = .lockout →
    ∃ t, exec (.filterTimerExpiry n) s = .next t ∧ LockoutJudged n (atPress n s) t

/-- A press of PANIC raises PANIC_ON with the voices that are not IDLE and the timers that run, stops every timer with its counter
kept, and ends or fades every voice by the panic fade, the burst in flight of a voice that ends turning stale; its release raises
PANIC_OFF and changes nothing else. The ends of voices raise their CUE_END records behind PANIC_ON, lowest voice first, and lower use
counts and readers (R64, R66, R70, R106, R107, R139, R141, R154). That FILTER_TIMER_EXPIRY stands for the time up to the expiry, which
passes first, is the model's choice (assumption 4). -/
def Obligations.PanicStopsTimersAndReleasesVoices : Prop :=
  ∀ s : State,
    (PressComing 8 s → ∃ t, exec (.filterTimerExpiry 8) s = .next t ∧ PanicTaken (atPress 8 s) t) ∧
    (ReleaseComing 8 s → ∃ t, exec (.filterTimerExpiry 8) s = .next t ∧ PanicReleased (atRelease 8 s) t)

/-! ### Expiries -/

/-- PENALTY_END: the line is in penalty no longer. TIMER_EXPIRY: the frame event that brings a counting timer to 0 gives it the phase
and counter of its mode, moves every other timer by one frame, and fires its bound cue in that same event (stated where no voice
sounds and no other timer counts). BOARD_INTERVAL_EXPIRY: the frame event that brings the count to the interval restarts it, sets the
board flags of the sounding voices and marks Status Block blocks, but for what the grant takes at once (R113, R116 to R121, R166,
R178). That the last two commands name a whole frame event, the same that FRAME_TIMER_EXPIRY names, is the model's choice
(assumption 4). -/
def Obligations.ExpiriesTakeTheirEffect : Prop :=
  (∀ (n : Fin 8) (s : State) (p : Nat), (lineOf s n).penalty = some p → Soonest p s →
    let e := elapse p s
    ∃ t, exec (.penaltyEnd n) s = .next t ∧
      (∀ j, lineOf t j = if j = n.val then { lineOf e n with penalty := none } else lineOf e j) ∧
      unchangedBut [.lines, .marks] e t) ∧
  (∀ (k : Fin 4) (s : State) (i : Instr), s.rst = false → (timerOf s k).phase = .counting → (timerOf s k).counter ≤ 1 →
    Soonest s.clock.frameTimer s → (i = .timerExpiry k ∨ ∃ order, i = .frameTimerExpiry order) →
    let preload := timerPreload s.shadow k
    ∃ t, exec i s = .next t ∧ t.frameCounter = s.frameCounter + 1 ∧
      (timerMode s.shadow k = .oneShot ∨ timerMode s.shadow k = .win → timerOf t k = ⟨.stopped, 0⟩) ∧
      (timerMode s.shadow k = .repeating → timerOf t k = ⟨if preload = 0 then .stopped else .counting, preload⟩) ∧
      (timerMode s.shadow k = .hold → timerOf t k = ⟨.held, 0⟩) ∧
      (∀ j, j < 4 → timerOf t j = timerAfterFrame s j) ∧
      ((∀ v, v < 24 → sounding (voiceOf s v) = false) → (∀ j, j < 4 → j ≠ k.val → (timerOf s j).phase ≠ .counting) →
        s.clock.state ≠ .house →
        FireComes ⟨.timer, k, timerCue s.shadow k, false⟩ [.timers, .clock, .buses, .marks, .interval, .waiting] True
          { elapse s.clock.frameTimer s with frameCounter := s.frameCounter + 1 } t)) ∧
  (∀ (s : State) (i : Instr), s.rst = false → boardInterval s.shadow ≠ 0 → boardInterval s.shadow ≤ s.boardCount + 1 →
    Soonest s.clock.frameTimer s → (i = .boardIntervalExpiry ∨ ∃ order, i = .frameTimerExpiry order) →
    ∃ t, exec i s = .next t ∧ t.frameCounter = s.frameCounter + 1 ∧ t.boardCount = 0 ∧
      (∀ v, v < 24 → sounding (voiceOf s v) = true →
        (voiceOf t v).boardFlag = true ∨ ∃ a bs, t.port = some (.report (.board v 0) a bs false)) ∧
      (∀ i, i < 5 → bankGet t.marks i false = true ∨ ∃ a bs, t.port = some (.report (.status i) a bs false)) ∧
      unchangedBut frameParts (elapse s.clock.frameTimer s) t)

/-- FRAME_TIMER_EXPIRY, WCLK_EDGE and GAP_TIMER_EXPIRY by the clock state: FREERUN and RELOCKING make their frame events from the
frame timer, HOUSE from WCLK; a first edge starts a relock unless the preference is INTERNAL, 4800 clean periods end it in HOUSE
with CLOCK_HOUSE, a gap ends it in FREERUN; HOUSE bridges two late edges, skips as many, and falls back to FREERUN with CLOCK_LOST
at the third. A frame event counts unless RST# is asserted, for the frame counter, the cue timers and the board interval. The two
clock events are stated for a frame event in which nothing else can raise one (R116, R166 to R170, R172, R178). The value of
CLOCK_HOUSE, read from the gap timer, and the relock count kept through HOUSE are the model's choice (assumption 18, DEDUCED); that a
command comes about only where no other timer runs out sooner is assumption 4. -/
def Obligations.FrameClockFollowsItsTables : Prop :=
  (∀ (order : FrameChoice) (s : State), Soonest s.clock.frameTimer s →
    let e := elapse s.clock.frameTimer s
    let c := e.clock
    let lost : Prop := c.state = .house ∧ 3 ≤ c.bridge + 1
    ∃ t, exec (.frameTimerExpiry order) s = .next t ∧
      (lost → t.clock = { c with state := .freerun, frameTimer := 250, bridge := 0 }) ∧
      (c.state = .house → c.bridge + 1 < 3 → t.clock = { c with frameTimer := 250, bridge := c.bridge + 1 }) ∧
      (c.state ≠ .house → t.clock = { c with frameTimer := 250 }) ∧
      t.frameCounter = (if s.rst = true then s.frameCounter else s.frameCounter + 1) ∧
      (s.rst = false → (∀ k, k < 4 → timerOf t k = timerAfterFrame s k) ∧ t.boardCount = countAfterFrame s) ∧
      (Silent s → (lost → Raises .clockLost 0 0 (BitVec.ofNat 32 (c.bridge + 1)) { e with frameCounter := e.frameCounter + 1 } t) ∧
        (¬ lost → Same .queue e t)) ∧
      (s.rst = true → unchangedBut [.clock, .marks] e t) ∧ unchangedBut frameParts e t) ∧
  (∀ (after : Nat) (order : FrameChoice) (s : State), Soonest after s →
    let e := elapse after s
    let c := e.clock
    let counted := if s.rst = true then s.frameCounter else s.frameCounter + 1
    ∃ t, exec (.wclkEdge after order) s = .next t ∧
      let frameTaken : Prop := s.rst = false → (∀ k, k < 4 → timerOf t k = timerAfterFrame s k) ∧ t.boardCount = countAfterFrame s
      (c.state = .freerun → preferInternal s.shadow = true → unchangedBut [] e t) ∧
      (c.state = .freerun → preferInternal s.shadow = false →
        t.clock = { c with state := .relocking, relock := 0, gap := 750 } ∧ unchangedBut [.clock, .marks] e t) ∧
      (c.state = .relocking → c.relock + 1 < 4800 →
        t.clock = { c with relock := c.relock + 1, gap := 750 } ∧ unchangedBut [.clock, .marks] e t) ∧
      (c.state = .relocking → 4800 ≤ c.relock + 1 →
        t.clock.state = .house ∧ t.clock.frameTimer = 250 ∧ t.clock.gap = 0 ∧ t.clock.bridge = 0 ∧ t.frameCounter = counted ∧
        frameTaken ∧
        (Silent s → Raises .clockHouse 0 0 (BitVec.ofNat 32 (750 - c.gap)) { e with frameCounter := e.frameCounter + 1 } t)) ∧
      (c.state = .house → c.bridge = 0 → t.clock = { c with frameTimer := 250 } ∧ t.frameCounter = counted ∧ frameTaken) ∧
      (c.state = .house → 0 < c.bridge →
        t.clock = { c with frameTimer := 250, bridge := c.bridge - 1 } ∧ unchangedBut [.clock, .marks] e t) ∧
      unchangedBut frameParts e t) ∧
  (∀ s : State, s.clock.state = .relocking → Soonest s.clock.gap s →
    let e := elapse s.clock.gap s
    ∃ t, exec .gapTimerExpiry s = .next t ∧ t.clock = { e.clock with state := .freerun, relock := 0, gap := 0 } ∧
      unchangedBut [.clock, .marks] e t)

/-! ### The voice at the frame event, and the Mixer -/

/-- The frame of a sounding voice, stage by stage: a tail fade begins at its position, the level rides, the envelope is that of
its state, the samples come from head slot or FIFO or are silence on an underrun, the shares go to the buses of the mask, the
counters and the due position advance, an underrun empties the FIFO and starts a new epoch, the effective end or the last frame of a
fall ends the voice, and at an underrun or an end the voice's burst in flight turns stale. UNDERRUN stands first, then the CUE_END of an
end with its reason, the voice having sounded, and its underrun count, then the CLIP_EMPTY of a RETIRING clip whose last use it was; the
clip's use count falls, and the head slot loses its reader at handover or end, a DRAINING one without readers becoming FREE (R64, R66,
R70, R86, R133 to R137, R140, R141, R150 to R154, R158 to R161). -/
def Obligations.VoiceFrameFollowsItsStages : Prop :=
  ∀ (v : Nat) (r : FrameRun), v < 24 → sounding (voiceOf r.state v) = true →
    let s := r.state
    let o := voiceOf s v
    let er := if o.state = .steady ∨ o.sounded = false then 4096 else o.lastEnv
    let x : Voice :=
      if o.loop = false ∧ o.tail = true ∧ 0 < o.fo ∧ o.state ≠ .falling ∧ o.due = max o.start (o.effEnd - o.fo) then
        { o with state := .falling, m := 1, er := er, lastEnv := er, fallLength := o.fo, fallReason := .complete, boardFlag := true }
      else o
    let step := rideStep s.shadow
    let lc := if step = 0 then x.lt else if x.lt < x.lc then max x.lt (x.lc - step)
      else if x.lc < x.lt then min x.lt (x.lc + step) else x.lc
    let env := if x.state = .rising then 4096 * x.n / x.fi
      else if x.state = .falling then x.er * (x.fallLength - x.m) / x.fallLength else 4096
    let under := (frameTaken s x).isNone
    let f := (frameTaken s x).getD ⟨0, 0⟩
    let left : Int := f.left.toInt * lc / 4096 * env / 4096
    let right : Int := f.right.toInt * lc / 4096 * env / 4096
    let pos := if x.loop = true ∧ x.due + 1 = x.le then x.ls else x.due + 1
    let leaves : Bool := x.headFlag && pos == (slotOf s x.headSlot).headLength
    let risen : Bool := x.state == .rising && x.n == x.fi
    let y : Voice := { x with
      lc := lc, lastEnv := env, sounded := true, due := pos
      state := if risen = true then .steady else x.state
      boardFlag := x.boardFlag || risen
      n := if x.state = .rising ∧ risen = false then x.n + 1 else x.n
      m := if x.state = .falling ∧ x.m ≠ x.fallLength then x.m + 1 else x.m
      headFlag := x.headFlag && !leaves
      headSlot := if leaves = true then 0 else x.headSlot
      fifo := if x.headFlag = true then x.fifo else x.fifo.drop 1
      underruns := if under = true then min 65535 (x.underruns + 1) else x.underruns
      epoch := if under = true then x.epoch + 1 else x.epoch
      fetchPos := if under = true then pos else x.fetchPos
      inFlight := if under = true then 0 else x.inFlight }
    let reason : Option EndReason :=
      if x.loop = false ∧ pos = x.effEnd then some .complete
      else if x.state = .falling ∧ x.m = x.fallLength then some x.fallReason else none
    let t := voiceFrame v r
    let ends : List VoiceEnd := reason.toList.map (fun e => (v, y, e))
    let underrun : List RaisedEvent :=
      if under = true ∧ x.underruns = 0 then [(.underrun, x.cue, v, BitVec.ofNat 32 (x.due % 0x800000 + 0x1000000 * x.clip))] else []
    voiceOf t.state v = (match reason with
      | none => y
      | some e => endedVoice e y) ∧
    (∀ w, w ≠ v → voiceOf t.state w = voiceOf s w) ∧
    (∀ b, s.port = some (.burst b) → t.state.port =
      some (.burst { b with stale := b.stale || (b.voice == v && (under || reason.isSome)) })) ∧
    (∀ b, b < 4 →
      let q := sumOf r.sums b
      sumOf t.sums b =
        if x.mask.getLsbD b = false then q
        else if x.role = .duckable then { q with duckLeft := q.duckLeft + left, duckRight := q.duckRight + right }
        else { q with
          restLeft := q.restLeft + left, restRight := q.restRight + right, ducked := q.ducked || x.role == .ducker }) ∧
    t.follows = r.follows ++ (if reason = some .complete ∧ x.followOn = true then [(v, x.followCue)] else []) ∧
    (reason = none →
      (under = true ∧ x.underruns = 0 →
        Raises .underrun x.cue v (BitVec.ofNat 32 (x.due % 0x800000 + 0x1000000 * x.clip)) s t.state) ∧
      (¬ (under = true ∧ x.underruns = 0) → Same .queue s t.state)) ∧
    (CanAppend (1 + 2 * ends.length) s → Appended (underrun ++ endEvents s [] ends) s t.state) ∧
    (∀ c, c < 128 → UsesCounted ends 0 c s t.state) ∧
    (∀ k, k < 8 → ReadersCounted
      (if x.headFlag = true ∧ x.headSlot = k ∧ (leaves = true ∨ reason.isSome = true) then 1 else 0) 0 k s t.state) ∧
    unchangedBut voiceParts s t.state

/-- A bus formed: its duck gain steps to the duck depth while a DUCKER voice feeds it or TALK is asserted with both enables set,
and to 4096 otherwise; each side is ducked, trimmed and limited, each clamp adds 1 to the clip counter and one BUS_CLIP is raised;
the serial pair is silent while PLAY is 0. And the frame event in FREERUN of one sounding voice gives that voice its frame and
forms every bus from its shares; where the frame ends the voice COMPLETE with follow enable, its follow cue is fired with source FOLLOW
in that same frame event, behind the end: it starts, on the voice just freed or a lower IDLE one, or is refused with CUE_REFUSED, the
records of this stated for a frame event in which no bus clamps (R89, R133, R142, R161 to R165, R167). -/
def Obligations.BusesAreFormedFromTheirSums : Prop :=
  (∀ (sums : Sums) (b : Nat) (s : State), b < 4 →
    let q := sumOf sums b
    let old := busOf s b
    let target := if q.ducked = true ∨ talkAsserted s = true ∧ talkEnable s.shadow = true ∧ talkDuck s.shadow b = true then
      duckDepth s.shadow b else 4096
    let d := if target < old.duck then max target (old.duck - duckDown s.shadow b)
      else if old.duck < target then min target (old.duck + duckUp s.shadow b) else old.duck
    let ql : Int := (q.duckLeft * d / 4096 + q.restLeft) * trim s.shadow b / 4096
    let qr : Int := (q.duckRight * d / 4096 + q.restRight) * trim s.shadow b / 4096
    let cl : Nat := if ql < -32768 ∨ 32767 < ql then 1 else 0
    let cr : Nat := if qr < -32768 ∨ 32767 < qr then 1 else 0
    let l := max (-32768) (min 32767 ql)
    let r := max (-32768) (min 32767 qr)
    let t := formBus sums b s
    busOf t b = ⟨d, min 65535 (old.clips + (cl + cr)), l, r, if play s.shadow = true then l else 0,
      if play s.shadow = true then r else 0⟩ ∧
    (∀ a, a ≠ b → busOf t a = busOf s a) ∧
    (0 < cl + cr → Raises .busClip b (cl + 2 * cr) (BitVec.ofInt 32 (if cl = 1 then ql else qr)) s t) ∧
    (cl + cr = 0 → Same .queue s t) ∧ unchangedBut [.buses, .queue] s t) ∧
  (∀ (order : FrameChoice) (s : State) (v : Nat), s.rst = false → s.clock.state = .freerun →
    Soonest s.clock.frameTimer s → (boardInterval s.shadow = 0 ∨ s.boardCount + 1 < boardInterval s.shadow) →
    (∀ k, k < 4 → (timerOf s k).phase ≠ .counting) →
    v < 24 → sounding (voiceOf s v) = true → (∀ w, w < 24 → w ≠ v → sounding (voiceOf s w) = false) →
    let r := voiceFrame v
      ⟨{ elapse s.clock.frameTimer s with frameCounter := s.frameCounter + 1 }, Vector.replicate 4 BusSum.zero, []⟩
    let changed : List Part := [.clock, .buses, .interval]
    let noneClamps : Prop := ∀ b, b < 4 →
      (busOf (formBus r.sums b r.state) b).clips = (busOf r.state b).clips ∧ (busOf r.state b).clips < 65535
    ∃ t, exec (.frameTimerExpiry order) s = .next t ∧
      (∀ b, b < 4 → busOf t b = busOf (formBus r.sums b r.state) b) ∧
      (r.follows = [] → (∀ w, VoiceHolds r.state t w (voiceOf r.state w)) ∧ unchangedBut (.queue :: changed) r.state t ∧
        (noneClamps → unchangedBut changed r.state t)) ∧
      (∀ c, r.follows = [(v, c)] → FireComes ⟨.follow, 0, c, false⟩ changed noneClamps r.state t))

end Statements
end

