-- ==== Sys2Proof/Laws/State.lean ====
section
/-!
SUPPORT. The small laws of the updates of State: for each update and each field, what the field is after it. They are true by
rfl, and no later proof unfolds a record update.
-/

namespace Sys2Proof.Machine

/-! ### mark -/

section
variable (i : Nat) (s : State)

@[simp] theorem mark_pending : (mark i s).pending = s.pending := rfl
@[simp] theorem mark_rst : (mark i s).rst = s.rst := rfl
@[simp] theorem mark_crb : (mark i s).crb = s.crb := rfl
@[simp] theorem mark_held : (mark i s).held = s.held := rfl
@[simp] theorem mark_done : (mark i s).done = s.done := rfl
@[simp] theorem mark_readData : (mark i s).readData = s.readData := rfl
@[simp] theorem mark_port : (mark i s).port = s.port := rfl
@[simp] theorem mark_mem : (mark i s).mem = s.mem := rfl
@[simp] theorem mark_shadow : (mark i s).shadow = s.shadow := rfl
@[simp] theorem mark_writeBacks : (mark i s).writeBacks = s.writeBacks := rfl
@[simp] theorem mark_deckClear : (mark i s).deckClear = s.deckClear := rfl
@[simp] theorem mark_sweep : (mark i s).sweep = s.sweep := rfl
@[simp] theorem mark_session : (mark i s).session = s.session := rfl
@[simp] theorem mark_clips : (mark i s).clips = s.clips := rfl
@[simp] theorem mark_mirrorFlags : (mark i s).mirrorFlags = s.mirrorFlags := rfl
@[simp] theorem mark_mirrorAgain : (mark i s).mirrorAgain = s.mirrorAgain := rfl
@[simp] theorem mark_owed : (mark i s).owed = s.owed := rfl
@[simp] theorem mark_slots : (mark i s).slots = s.slots := rfl
@[simp] theorem mark_offer : (mark i s).offer = s.offer := rfl
@[simp] theorem mark_expSlot : (mark i s).expSlot = s.expSlot := rfl
@[simp] theorem mark_expSeq : (mark i s).expSeq = s.expSeq := rfl
@[simp] theorem mark_lastSeq : (mark i s).lastSeq = s.lastSeq := rfl
@[simp] theorem mark_results : (mark i s).results = s.results := rfl
@[simp] theorem mark_lines : (mark i s).lines = s.lines := rfl
@[simp] theorem mark_lockout : (mark i s).lockout = s.lockout := rfl
@[simp] theorem mark_timers : (mark i s).timers = s.timers := rfl
@[simp] theorem mark_voices : (mark i s).voices = s.voices := rfl
@[simp] theorem mark_buses : (mark i s).buses = s.buses := rfl
@[simp] theorem mark_clock : (mark i s).clock = s.clock := rfl
@[simp] theorem mark_frameCounter : (mark i s).frameCounter = s.frameCounter := rfl
@[simp] theorem mark_queue : (mark i s).queue = s.queue := rfl
@[simp] theorem mark_lost : (mark i s).lost = s.lost := rfl
@[simp] theorem mark_nextSeq : (mark i s).nextSeq = s.nextSeq := rfl
@[simp] theorem mark_w : (mark i s).w = s.w := rfl
@[simp] theorem mark_attn : (mark i s).attn = s.attn := rfl
@[simp] theorem mark_marks : (mark i s).marks = bankSet s.marks i true := rfl
@[simp] theorem mark_boardCount : (mark i s).boardCount = s.boardCount := rfl
@[simp] theorem mark_boardCopy : (mark i s).boardCopy = s.boardCopy := rfl
@[simp] theorem mark_draws : (mark i s).draws = s.draws := rfl

end

/-! ### markAll -/

section
variable (s : State)

@[simp] theorem markAll_pending : (markAll s).pending = s.pending := rfl
@[simp] theorem markAll_rst : (markAll s).rst = s.rst := rfl
@[simp] theorem markAll_crb : (markAll s).crb = s.crb := rfl
@[simp] theorem markAll_held : (markAll s).held = s.held := rfl
@[simp] theorem markAll_done : (markAll s).done = s.done := rfl
@[simp] theorem markAll_readData : (markAll s).readData = s.readData := rfl
@[simp] theorem markAll_port : (markAll s).port = s.port := rfl
@[simp] theorem markAll_mem : (markAll s).mem = s.mem := rfl
@[simp] theorem markAll_shadow : (markAll s).shadow = s.shadow := rfl
@[simp] theorem markAll_writeBacks : (markAll s).writeBacks = s.writeBacks := rfl
@[simp] theorem markAll_deckClear : (markAll s).deckClear = s.deckClear := rfl
@[simp] theorem markAll_sweep : (markAll s).sweep = s.sweep := rfl
@[simp] theorem markAll_session : (markAll s).session = s.session := rfl
@[simp] theorem markAll_clips : (markAll s).clips = s.clips := rfl
@[simp] theorem markAll_mirrorFlags : (markAll s).mirrorFlags = s.mirrorFlags := rfl
@[simp] theorem markAll_mirrorAgain : (markAll s).mirrorAgain = s.mirrorAgain := rfl
@[simp] theorem markAll_owed : (markAll s).owed = s.owed := rfl
@[simp] theorem markAll_slots : (markAll s).slots = s.slots := rfl
@[simp] theorem markAll_offer : (markAll s).offer = s.offer := rfl
@[simp] theorem markAll_expSlot : (markAll s).expSlot = s.expSlot := rfl
@[simp] theorem markAll_expSeq : (markAll s).expSeq = s.expSeq := rfl
@[simp] theorem markAll_lastSeq : (markAll s).lastSeq = s.lastSeq := rfl
@[simp] theorem markAll_results : (markAll s).results = s.results := rfl
@[simp] theorem markAll_lines : (markAll s).lines = s.lines := rfl
@[simp] theorem markAll_lockout : (markAll s).lockout = s.lockout := rfl
@[simp] theorem markAll_timers : (markAll s).timers = s.timers := rfl
@[simp] theorem markAll_voices : (markAll s).voices = s.voices := rfl
@[simp] theorem markAll_buses : (markAll s).buses = s.buses := rfl
@[simp] theorem markAll_clock : (markAll s).clock = s.clock := rfl
@[simp] theorem markAll_frameCounter : (markAll s).frameCounter = s.frameCounter := rfl
@[simp] theorem markAll_queue : (markAll s).queue = s.queue := rfl
@[simp] theorem markAll_lost : (markAll s).lost = s.lost := rfl
@[simp] theorem markAll_nextSeq : (markAll s).nextSeq = s.nextSeq := rfl
@[simp] theorem markAll_w : (markAll s).w = s.w := rfl
@[simp] theorem markAll_attn : (markAll s).attn = s.attn := rfl
@[simp] theorem markAll_marks : (markAll s).marks = Vector.replicate 5 true := rfl
@[simp] theorem markAll_boardCount : (markAll s).boardCount = s.boardCount := rfl
@[simp] theorem markAll_boardCopy : (markAll s).boardCopy = s.boardCopy := rfl
@[simp] theorem markAll_draws : (markAll s).draws = s.draws := rfl

end

/-! ### flagMirror -/

section
variable (c : Nat) (s : State)

@[simp] theorem flagMirror_pending : (flagMirror c s).pending = s.pending := rfl
@[simp] theorem flagMirror_rst : (flagMirror c s).rst = s.rst := rfl
@[simp] theorem flagMirror_crb : (flagMirror c s).crb = s.crb := rfl
@[simp] theorem flagMirror_held : (flagMirror c s).held = s.held := rfl
@[simp] theorem flagMirror_done : (flagMirror c s).done = s.done := rfl
@[simp] theorem flagMirror_readData : (flagMirror c s).readData = s.readData := rfl
@[simp] theorem flagMirror_port : (flagMirror c s).port = s.port := rfl
@[simp] theorem flagMirror_mem : (flagMirror c s).mem = s.mem := rfl
@[simp] theorem flagMirror_shadow : (flagMirror c s).shadow = s.shadow := rfl
@[simp] theorem flagMirror_writeBacks : (flagMirror c s).writeBacks = s.writeBacks := rfl
@[simp] theorem flagMirror_deckClear : (flagMirror c s).deckClear = s.deckClear := rfl
@[simp] theorem flagMirror_sweep : (flagMirror c s).sweep = s.sweep := rfl
@[simp] theorem flagMirror_session : (flagMirror c s).session = s.session := rfl
@[simp] theorem flagMirror_clips : (flagMirror c s).clips = s.clips := rfl
@[simp] theorem flagMirror_mirrorFlags : (flagMirror c s).mirrorFlags = bankSet s.mirrorFlags c true := rfl
@[simp] theorem flagMirror_mirrorAgain : (flagMirror c s).mirrorAgain = (s.mirrorAgain || mirrorOnPort s c) := rfl
@[simp] theorem flagMirror_owed : (flagMirror c s).owed = s.owed := rfl
@[simp] theorem flagMirror_slots : (flagMirror c s).slots = s.slots := rfl
@[simp] theorem flagMirror_offer : (flagMirror c s).offer = s.offer := rfl
@[simp] theorem flagMirror_expSlot : (flagMirror c s).expSlot = s.expSlot := rfl
@[simp] theorem flagMirror_expSeq : (flagMirror c s).expSeq = s.expSeq := rfl
@[simp] theorem flagMirror_lastSeq : (flagMirror c s).lastSeq = s.lastSeq := rfl
@[simp] theorem flagMirror_results : (flagMirror c s).results = s.results := rfl
@[simp] theorem flagMirror_lines : (flagMirror c s).lines = s.lines := rfl
@[simp] theorem flagMirror_lockout : (flagMirror c s).lockout = s.lockout := rfl
@[simp] theorem flagMirror_timers : (flagMirror c s).timers = s.timers := rfl
@[simp] theorem flagMirror_voices : (flagMirror c s).voices = s.voices := rfl
@[simp] theorem flagMirror_buses : (flagMirror c s).buses = s.buses := rfl
@[simp] theorem flagMirror_clock : (flagMirror c s).clock = s.clock := rfl
@[simp] theorem flagMirror_frameCounter : (flagMirror c s).frameCounter = s.frameCounter := rfl
@[simp] theorem flagMirror_queue : (flagMirror c s).queue = s.queue := rfl
@[simp] theorem flagMirror_lost : (flagMirror c s).lost = s.lost := rfl
@[simp] theorem flagMirror_nextSeq : (flagMirror c s).nextSeq = s.nextSeq := rfl
@[simp] theorem flagMirror_w : (flagMirror c s).w = s.w := rfl
@[simp] theorem flagMirror_attn : (flagMirror c s).attn = s.attn := rfl
@[simp] theorem flagMirror_marks : (flagMirror c s).marks = s.marks := rfl
@[simp] theorem flagMirror_boardCount : (flagMirror c s).boardCount = s.boardCount := rfl
@[simp] theorem flagMirror_boardCopy : (flagMirror c s).boardCopy = s.boardCopy := rfl
@[simp] theorem flagMirror_draws : (flagMirror c s).draws = s.draws := rfl

end

/-! ### judgeAttn -/

section
variable (s : State)

@[simp] theorem judgeAttn_pending : (judgeAttn s).pending = s.pending := rfl
@[simp] theorem judgeAttn_rst : (judgeAttn s).rst = s.rst := rfl
@[simp] theorem judgeAttn_crb : (judgeAttn s).crb = s.crb := rfl
@[simp] theorem judgeAttn_held : (judgeAttn s).held = s.held := rfl
@[simp] theorem judgeAttn_done : (judgeAttn s).done = s.done := rfl
@[simp] theorem judgeAttn_readData : (judgeAttn s).readData = s.readData := rfl
@[simp] theorem judgeAttn_port : (judgeAttn s).port = s.port := rfl
@[simp] theorem judgeAttn_mem : (judgeAttn s).mem = s.mem := rfl
@[simp] theorem judgeAttn_shadow : (judgeAttn s).shadow = s.shadow := rfl
@[simp] theorem judgeAttn_writeBacks : (judgeAttn s).writeBacks = s.writeBacks := rfl
@[simp] theorem judgeAttn_deckClear : (judgeAttn s).deckClear = s.deckClear := rfl
@[simp] theorem judgeAttn_sweep : (judgeAttn s).sweep = s.sweep := rfl
@[simp] theorem judgeAttn_session : (judgeAttn s).session = s.session := rfl
@[simp] theorem judgeAttn_clips : (judgeAttn s).clips = s.clips := rfl
@[simp] theorem judgeAttn_mirrorFlags : (judgeAttn s).mirrorFlags = s.mirrorFlags := rfl
@[simp] theorem judgeAttn_mirrorAgain : (judgeAttn s).mirrorAgain = s.mirrorAgain := rfl
@[simp] theorem judgeAttn_owed : (judgeAttn s).owed = s.owed := rfl
@[simp] theorem judgeAttn_slots : (judgeAttn s).slots = s.slots := rfl
@[simp] theorem judgeAttn_offer : (judgeAttn s).offer = s.offer := rfl
@[simp] theorem judgeAttn_expSlot : (judgeAttn s).expSlot = s.expSlot := rfl
@[simp] theorem judgeAttn_expSeq : (judgeAttn s).expSeq = s.expSeq := rfl
@[simp] theorem judgeAttn_lastSeq : (judgeAttn s).lastSeq = s.lastSeq := rfl
@[simp] theorem judgeAttn_results : (judgeAttn s).results = s.results := rfl
@[simp] theorem judgeAttn_lines : (judgeAttn s).lines = s.lines := rfl
@[simp] theorem judgeAttn_lockout : (judgeAttn s).lockout = s.lockout := rfl
@[simp] theorem judgeAttn_timers : (judgeAttn s).timers = s.timers := rfl
@[simp] theorem judgeAttn_voices : (judgeAttn s).voices = s.voices := rfl
@[simp] theorem judgeAttn_buses : (judgeAttn s).buses = s.buses := rfl
@[simp] theorem judgeAttn_clock : (judgeAttn s).clock = s.clock := rfl
@[simp] theorem judgeAttn_frameCounter : (judgeAttn s).frameCounter = s.frameCounter := rfl
@[simp] theorem judgeAttn_queue : (judgeAttn s).queue = s.queue := rfl
@[simp] theorem judgeAttn_lost : (judgeAttn s).lost = s.lost := rfl
@[simp] theorem judgeAttn_nextSeq : (judgeAttn s).nextSeq = s.nextSeq := rfl
@[simp] theorem judgeAttn_w : (judgeAttn s).w = s.w := rfl
@[simp] theorem judgeAttn_attn : (judgeAttn s).attn = (!s.rst && decide (s.w ≠ rd s.shadow)) := rfl
@[simp] theorem judgeAttn_marks : (judgeAttn s).marks = s.marks := rfl
@[simp] theorem judgeAttn_boardCount : (judgeAttn s).boardCount = s.boardCount := rfl
@[simp] theorem judgeAttn_boardCopy : (judgeAttn s).boardCopy = s.boardCopy := rfl
@[simp] theorem judgeAttn_draws : (judgeAttn s).draws = s.draws := rfl

end

/-! ### setLine -/

section
variable (n : Nat) (l : Line) (s : State)

@[simp] theorem setLine_pending : (setLine n l s).pending = s.pending := rfl
@[simp] theorem setLine_rst : (setLine n l s).rst = s.rst := rfl
@[simp] theorem setLine_crb : (setLine n l s).crb = s.crb := rfl
@[simp] theorem setLine_held : (setLine n l s).held = s.held := rfl
@[simp] theorem setLine_done : (setLine n l s).done = s.done := rfl
@[simp] theorem setLine_readData : (setLine n l s).readData = s.readData := rfl
@[simp] theorem setLine_port : (setLine n l s).port = s.port := rfl
@[simp] theorem setLine_mem : (setLine n l s).mem = s.mem := rfl
@[simp] theorem setLine_shadow : (setLine n l s).shadow = s.shadow := rfl
@[simp] theorem setLine_writeBacks : (setLine n l s).writeBacks = s.writeBacks := rfl
@[simp] theorem setLine_deckClear : (setLine n l s).deckClear = s.deckClear := rfl
@[simp] theorem setLine_sweep : (setLine n l s).sweep = s.sweep := rfl
@[simp] theorem setLine_session : (setLine n l s).session = s.session := rfl
@[simp] theorem setLine_clips : (setLine n l s).clips = s.clips := rfl
@[simp] theorem setLine_mirrorFlags : (setLine n l s).mirrorFlags = s.mirrorFlags := rfl
@[simp] theorem setLine_mirrorAgain : (setLine n l s).mirrorAgain = s.mirrorAgain := rfl
@[simp] theorem setLine_owed : (setLine n l s).owed = s.owed := rfl
@[simp] theorem setLine_slots : (setLine n l s).slots = s.slots := rfl
@[simp] theorem setLine_offer : (setLine n l s).offer = s.offer := rfl
@[simp] theorem setLine_expSlot : (setLine n l s).expSlot = s.expSlot := rfl
@[simp] theorem setLine_expSeq : (setLine n l s).expSeq = s.expSeq := rfl
@[simp] theorem setLine_lastSeq : (setLine n l s).lastSeq = s.lastSeq := rfl
@[simp] theorem setLine_results : (setLine n l s).results = s.results := rfl
@[simp] theorem setLine_lines : (setLine n l s).lines = bankSet s.lines n l := rfl
@[simp] theorem setLine_lockout : (setLine n l s).lockout = s.lockout := rfl
@[simp] theorem setLine_timers : (setLine n l s).timers = s.timers := rfl
@[simp] theorem setLine_voices : (setLine n l s).voices = s.voices := rfl
@[simp] theorem setLine_buses : (setLine n l s).buses = s.buses := rfl
@[simp] theorem setLine_clock : (setLine n l s).clock = s.clock := rfl
@[simp] theorem setLine_frameCounter : (setLine n l s).frameCounter = s.frameCounter := rfl
@[simp] theorem setLine_queue : (setLine n l s).queue = s.queue := rfl
@[simp] theorem setLine_lost : (setLine n l s).lost = s.lost := rfl
@[simp] theorem setLine_nextSeq : (setLine n l s).nextSeq = s.nextSeq := rfl
@[simp] theorem setLine_w : (setLine n l s).w = s.w := rfl
@[simp] theorem setLine_attn : (setLine n l s).attn = s.attn := rfl
@[simp] theorem setLine_marks : (setLine n l s).marks = s.marks := rfl
@[simp] theorem setLine_boardCount : (setLine n l s).boardCount = s.boardCount := rfl
@[simp] theorem setLine_boardCopy : (setLine n l s).boardCopy = s.boardCopy := rfl
@[simp] theorem setLine_draws : (setLine n l s).draws = s.draws := rfl

end

/-! ### setTimer -/

section
variable (n : Nat) (x : CueTimer) (s : State)

@[simp] theorem setTimer_pending : (setTimer n x s).pending = s.pending := rfl
@[simp] theorem setTimer_rst : (setTimer n x s).rst = s.rst := rfl
@[simp] theorem setTimer_crb : (setTimer n x s).crb = s.crb := rfl
@[simp] theorem setTimer_held : (setTimer n x s).held = s.held := rfl
@[simp] theorem setTimer_done : (setTimer n x s).done = s.done := rfl
@[simp] theorem setTimer_readData : (setTimer n x s).readData = s.readData := rfl
@[simp] theorem setTimer_port : (setTimer n x s).port = s.port := rfl
@[simp] theorem setTimer_mem : (setTimer n x s).mem = s.mem := rfl
@[simp] theorem setTimer_shadow : (setTimer n x s).shadow = s.shadow := rfl
@[simp] theorem setTimer_writeBacks : (setTimer n x s).writeBacks = s.writeBacks := rfl
@[simp] theorem setTimer_deckClear : (setTimer n x s).deckClear = s.deckClear := rfl
@[simp] theorem setTimer_sweep : (setTimer n x s).sweep = s.sweep := rfl
@[simp] theorem setTimer_session : (setTimer n x s).session = s.session := rfl
@[simp] theorem setTimer_clips : (setTimer n x s).clips = s.clips := rfl
@[simp] theorem setTimer_mirrorFlags : (setTimer n x s).mirrorFlags = s.mirrorFlags := rfl
@[simp] theorem setTimer_mirrorAgain : (setTimer n x s).mirrorAgain = s.mirrorAgain := rfl
@[simp] theorem setTimer_owed : (setTimer n x s).owed = s.owed := rfl
@[simp] theorem setTimer_slots : (setTimer n x s).slots = s.slots := rfl
@[simp] theorem setTimer_offer : (setTimer n x s).offer = s.offer := rfl
@[simp] theorem setTimer_expSlot : (setTimer n x s).expSlot = s.expSlot := rfl
@[simp] theorem setTimer_expSeq : (setTimer n x s).expSeq = s.expSeq := rfl
@[simp] theorem setTimer_lastSeq : (setTimer n x s).lastSeq = s.lastSeq := rfl
@[simp] theorem setTimer_results : (setTimer n x s).results = s.results := rfl
@[simp] theorem setTimer_lines : (setTimer n x s).lines = s.lines := rfl
@[simp] theorem setTimer_lockout : (setTimer n x s).lockout = s.lockout := rfl
@[simp] theorem setTimer_timers : (setTimer n x s).timers = bankSet s.timers n x := rfl
@[simp] theorem setTimer_voices : (setTimer n x s).voices = s.voices := rfl
@[simp] theorem setTimer_buses : (setTimer n x s).buses = s.buses := rfl
@[simp] theorem setTimer_clock : (setTimer n x s).clock = s.clock := rfl
@[simp] theorem setTimer_frameCounter : (setTimer n x s).frameCounter = s.frameCounter := rfl
@[simp] theorem setTimer_queue : (setTimer n x s).queue = s.queue := rfl
@[simp] theorem setTimer_lost : (setTimer n x s).lost = s.lost := rfl
@[simp] theorem setTimer_nextSeq : (setTimer n x s).nextSeq = s.nextSeq := rfl
@[simp] theorem setTimer_w : (setTimer n x s).w = s.w := rfl
@[simp] theorem setTimer_attn : (setTimer n x s).attn = s.attn := rfl
@[simp] theorem setTimer_marks : (setTimer n x s).marks = s.marks := rfl
@[simp] theorem setTimer_boardCount : (setTimer n x s).boardCount = s.boardCount := rfl
@[simp] theorem setTimer_boardCopy : (setTimer n x s).boardCopy = s.boardCopy := rfl
@[simp] theorem setTimer_draws : (setTimer n x s).draws = s.draws := rfl

end

/-! ### appendEvent -/

section
variable (k : EventKind) (a b : Nat) (v : Word) (s : State)

@[simp] theorem appendEvent_pending : (appendEvent k a b v s).pending = s.pending := rfl
@[simp] theorem appendEvent_rst : (appendEvent k a b v s).rst = s.rst := rfl
@[simp] theorem appendEvent_crb : (appendEvent k a b v s).crb = s.crb := rfl
@[simp] theorem appendEvent_held : (appendEvent k a b v s).held = s.held := rfl
@[simp] theorem appendEvent_done : (appendEvent k a b v s).done = s.done := rfl
@[simp] theorem appendEvent_readData : (appendEvent k a b v s).readData = s.readData := rfl
@[simp] theorem appendEvent_port : (appendEvent k a b v s).port = s.port := rfl
@[simp] theorem appendEvent_mem : (appendEvent k a b v s).mem = s.mem := rfl
@[simp] theorem appendEvent_shadow : (appendEvent k a b v s).shadow = s.shadow := rfl
@[simp] theorem appendEvent_writeBacks : (appendEvent k a b v s).writeBacks = s.writeBacks := rfl
@[simp] theorem appendEvent_deckClear : (appendEvent k a b v s).deckClear = s.deckClear := rfl
@[simp] theorem appendEvent_sweep : (appendEvent k a b v s).sweep = s.sweep := rfl
@[simp] theorem appendEvent_session : (appendEvent k a b v s).session = s.session := rfl
@[simp] theorem appendEvent_clips : (appendEvent k a b v s).clips = s.clips := rfl
@[simp] theorem appendEvent_mirrorFlags : (appendEvent k a b v s).mirrorFlags = s.mirrorFlags := rfl
@[simp] theorem appendEvent_mirrorAgain : (appendEvent k a b v s).mirrorAgain = s.mirrorAgain := rfl
@[simp] theorem appendEvent_owed : (appendEvent k a b v s).owed = s.owed := rfl
@[simp] theorem appendEvent_slots : (appendEvent k a b v s).slots = s.slots := rfl
@[simp] theorem appendEvent_offer : (appendEvent k a b v s).offer = s.offer := rfl
@[simp] theorem appendEvent_expSlot : (appendEvent k a b v s).expSlot = s.expSlot := rfl
@[simp] theorem appendEvent_expSeq : (appendEvent k a b v s).expSeq = s.expSeq := rfl
@[simp] theorem appendEvent_lastSeq : (appendEvent k a b v s).lastSeq = s.lastSeq := rfl
@[simp] theorem appendEvent_results : (appendEvent k a b v s).results = s.results := rfl
@[simp] theorem appendEvent_lines : (appendEvent k a b v s).lines = s.lines := rfl
@[simp] theorem appendEvent_lockout : (appendEvent k a b v s).lockout = s.lockout := rfl
@[simp] theorem appendEvent_timers : (appendEvent k a b v s).timers = s.timers := rfl
@[simp] theorem appendEvent_voices : (appendEvent k a b v s).voices = s.voices := rfl
@[simp] theorem appendEvent_buses : (appendEvent k a b v s).buses = s.buses := rfl
@[simp] theorem appendEvent_clock : (appendEvent k a b v s).clock = s.clock := rfl
@[simp] theorem appendEvent_frameCounter : (appendEvent k a b v s).frameCounter = s.frameCounter := rfl
@[simp] theorem appendEvent_queue : (appendEvent k a b v s).queue = s.queue ++ [⟨s.nextSeq, k, 0, s.frameCounter, BitVec.ofNat 16 a, BitVec.ofNat 16 b, v⟩] := rfl
@[simp] theorem appendEvent_lost : (appendEvent k a b v s).lost = s.lost := rfl
@[simp] theorem appendEvent_nextSeq : (appendEvent k a b v s).nextSeq = s.nextSeq + 1 := rfl
@[simp] theorem appendEvent_w : (appendEvent k a b v s).w = s.w := rfl
@[simp] theorem appendEvent_attn : (appendEvent k a b v s).attn = s.attn := rfl
@[simp] theorem appendEvent_marks : (appendEvent k a b v s).marks = s.marks := rfl
@[simp] theorem appendEvent_boardCount : (appendEvent k a b v s).boardCount = s.boardCount := rfl
@[simp] theorem appendEvent_boardCopy : (appendEvent k a b v s).boardCopy = s.boardCopy := rfl
@[simp] theorem appendEvent_draws : (appendEvent k a b v s).draws = s.draws := rfl

end

/-! ### loseEvent -/

section
variable (s : State)

@[simp] theorem loseEvent_pending : (loseEvent s).pending = s.pending := rfl
@[simp] theorem loseEvent_rst : (loseEvent s).rst = s.rst := rfl
@[simp] theorem loseEvent_crb : (loseEvent s).crb = s.crb := rfl
@[simp] theorem loseEvent_held : (loseEvent s).held = s.held := rfl
@[simp] theorem loseEvent_done : (loseEvent s).done = s.done := rfl
@[simp] theorem loseEvent_readData : (loseEvent s).readData = s.readData := rfl
@[simp] theorem loseEvent_port : (loseEvent s).port = s.port := rfl
@[simp] theorem loseEvent_mem : (loseEvent s).mem = s.mem := rfl
@[simp] theorem loseEvent_shadow : (loseEvent s).shadow = s.shadow := rfl
@[simp] theorem loseEvent_writeBacks : (loseEvent s).writeBacks = s.writeBacks := rfl
@[simp] theorem loseEvent_deckClear : (loseEvent s).deckClear = s.deckClear := rfl
@[simp] theorem loseEvent_sweep : (loseEvent s).sweep = s.sweep := rfl
@[simp] theorem loseEvent_session : (loseEvent s).session = s.session := rfl
@[simp] theorem loseEvent_clips : (loseEvent s).clips = s.clips := rfl
@[simp] theorem loseEvent_mirrorFlags : (loseEvent s).mirrorFlags = s.mirrorFlags := rfl
@[simp] theorem loseEvent_mirrorAgain : (loseEvent s).mirrorAgain = s.mirrorAgain := rfl
@[simp] theorem loseEvent_owed : (loseEvent s).owed = s.owed := rfl
@[simp] theorem loseEvent_slots : (loseEvent s).slots = s.slots := rfl
@[simp] theorem loseEvent_offer : (loseEvent s).offer = s.offer := rfl
@[simp] theorem loseEvent_expSlot : (loseEvent s).expSlot = s.expSlot := rfl
@[simp] theorem loseEvent_expSeq : (loseEvent s).expSeq = s.expSeq := rfl
@[simp] theorem loseEvent_lastSeq : (loseEvent s).lastSeq = s.lastSeq := rfl
@[simp] theorem loseEvent_results : (loseEvent s).results = s.results := rfl
@[simp] theorem loseEvent_lines : (loseEvent s).lines = s.lines := rfl
@[simp] theorem loseEvent_lockout : (loseEvent s).lockout = s.lockout := rfl
@[simp] theorem loseEvent_timers : (loseEvent s).timers = s.timers := rfl
@[simp] theorem loseEvent_voices : (loseEvent s).voices = s.voices := rfl
@[simp] theorem loseEvent_buses : (loseEvent s).buses = s.buses := rfl
@[simp] theorem loseEvent_clock : (loseEvent s).clock = s.clock := rfl
@[simp] theorem loseEvent_frameCounter : (loseEvent s).frameCounter = s.frameCounter := rfl
@[simp] theorem loseEvent_queue : (loseEvent s).queue = s.queue := rfl
@[simp] theorem loseEvent_lost : (loseEvent s).lost = satAdd 65535 s.lost 1 := rfl
@[simp] theorem loseEvent_nextSeq : (loseEvent s).nextSeq = s.nextSeq := rfl
@[simp] theorem loseEvent_w : (loseEvent s).w = s.w := rfl
@[simp] theorem loseEvent_attn : (loseEvent s).attn = s.attn := rfl
@[simp] theorem loseEvent_marks : (loseEvent s).marks = s.marks := rfl
@[simp] theorem loseEvent_boardCount : (loseEvent s).boardCount = s.boardCount := rfl
@[simp] theorem loseEvent_boardCopy : (loseEvent s).boardCopy = s.boardCopy := rfl
@[simp] theorem loseEvent_draws : (loseEvent s).draws = s.draws := rfl

end

/-! ### setClip -/

section
variable (c : Nat) (e : ClipEntry) (s : State)

@[simp] theorem setClip_pending : (setClip c e s).pending = s.pending := rfl
@[simp] theorem setClip_rst : (setClip c e s).rst = s.rst := rfl
@[simp] theorem setClip_crb : (setClip c e s).crb = s.crb := rfl
@[simp] theorem setClip_held : (setClip c e s).held = s.held := rfl
@[simp] theorem setClip_done : (setClip c e s).done = s.done := rfl
@[simp] theorem setClip_readData : (setClip c e s).readData = s.readData := rfl
@[simp] theorem setClip_port : (setClip c e s).port = s.port := rfl
@[simp] theorem setClip_mem : (setClip c e s).mem = s.mem := rfl
@[simp] theorem setClip_shadow : (setClip c e s).shadow = s.shadow := rfl
@[simp] theorem setClip_writeBacks : (setClip c e s).writeBacks = s.writeBacks := rfl
@[simp] theorem setClip_deckClear : (setClip c e s).deckClear = s.deckClear := rfl
@[simp] theorem setClip_sweep : (setClip c e s).sweep = s.sweep := rfl
@[simp] theorem setClip_session : (setClip c e s).session = s.session := rfl
@[simp] theorem setClip_clips : (setClip c e s).clips = bankSet s.clips c e := rfl
@[simp] theorem setClip_mirrorFlags : (setClip c e s).mirrorFlags = bankSet s.mirrorFlags c true := rfl
@[simp] theorem setClip_mirrorAgain : (setClip c e s).mirrorAgain = (s.mirrorAgain || mirrorOnPort s c) := rfl
@[simp] theorem setClip_owed : (setClip c e s).owed = s.owed := rfl
@[simp] theorem setClip_slots : (setClip c e s).slots = s.slots := rfl
@[simp] theorem setClip_offer : (setClip c e s).offer = s.offer := rfl
@[simp] theorem setClip_expSlot : (setClip c e s).expSlot = s.expSlot := rfl
@[simp] theorem setClip_expSeq : (setClip c e s).expSeq = s.expSeq := rfl
@[simp] theorem setClip_lastSeq : (setClip c e s).lastSeq = s.lastSeq := rfl
@[simp] theorem setClip_results : (setClip c e s).results = s.results := rfl
@[simp] theorem setClip_lines : (setClip c e s).lines = s.lines := rfl
@[simp] theorem setClip_lockout : (setClip c e s).lockout = s.lockout := rfl
@[simp] theorem setClip_timers : (setClip c e s).timers = s.timers := rfl
@[simp] theorem setClip_voices : (setClip c e s).voices = s.voices := rfl
@[simp] theorem setClip_buses : (setClip c e s).buses = s.buses := rfl
@[simp] theorem setClip_clock : (setClip c e s).clock = s.clock := rfl
@[simp] theorem setClip_frameCounter : (setClip c e s).frameCounter = s.frameCounter := rfl
@[simp] theorem setClip_queue : (setClip c e s).queue = s.queue := rfl
@[simp] theorem setClip_lost : (setClip c e s).lost = s.lost := rfl
@[simp] theorem setClip_nextSeq : (setClip c e s).nextSeq = s.nextSeq := rfl
@[simp] theorem setClip_w : (setClip c e s).w = s.w := rfl
@[simp] theorem setClip_attn : (setClip c e s).attn = s.attn := rfl
@[simp] theorem setClip_marks : (setClip c e s).marks = s.marks := rfl
@[simp] theorem setClip_boardCount : (setClip c e s).boardCount = s.boardCount := rfl
@[simp] theorem setClip_boardCopy : (setClip c e s).boardCopy = s.boardCopy := rfl
@[simp] theorem setClip_draws : (setClip c e s).draws = s.draws := rfl

end

/-! ### setSlot -/

section
variable (k : Nat) (h : HeadSlot) (s : State)

@[simp] theorem setSlot_pending : (setSlot k h s).pending = s.pending := rfl
@[simp] theorem setSlot_rst : (setSlot k h s).rst = s.rst := rfl
@[simp] theorem setSlot_crb : (setSlot k h s).crb = s.crb := rfl
@[simp] theorem setSlot_held : (setSlot k h s).held = s.held := rfl
@[simp] theorem setSlot_done : (setSlot k h s).done = s.done := rfl
@[simp] theorem setSlot_readData : (setSlot k h s).readData = s.readData := rfl
@[simp] theorem setSlot_port : (setSlot k h s).port = s.port := rfl
@[simp] theorem setSlot_mem : (setSlot k h s).mem = s.mem := rfl
@[simp] theorem setSlot_shadow : (setSlot k h s).shadow = s.shadow := rfl
@[simp] theorem setSlot_writeBacks : (setSlot k h s).writeBacks = s.writeBacks := rfl
@[simp] theorem setSlot_deckClear : (setSlot k h s).deckClear = s.deckClear := rfl
@[simp] theorem setSlot_sweep : (setSlot k h s).sweep = s.sweep := rfl
@[simp] theorem setSlot_session : (setSlot k h s).session = s.session := rfl
@[simp] theorem setSlot_clips : (setSlot k h s).clips = s.clips := rfl
@[simp] theorem setSlot_mirrorFlags : (setSlot k h s).mirrorFlags = s.mirrorFlags := rfl
@[simp] theorem setSlot_mirrorAgain : (setSlot k h s).mirrorAgain = s.mirrorAgain := rfl
@[simp] theorem setSlot_owed : (setSlot k h s).owed = s.owed := rfl
@[simp] theorem setSlot_slots : (setSlot k h s).slots = bankSet s.slots k h := rfl
@[simp] theorem setSlot_offer : (setSlot k h s).offer = s.offer := rfl
@[simp] theorem setSlot_expSlot : (setSlot k h s).expSlot = s.expSlot := rfl
@[simp] theorem setSlot_expSeq : (setSlot k h s).expSeq = s.expSeq := rfl
@[simp] theorem setSlot_lastSeq : (setSlot k h s).lastSeq = s.lastSeq := rfl
@[simp] theorem setSlot_results : (setSlot k h s).results = s.results := rfl
@[simp] theorem setSlot_lines : (setSlot k h s).lines = s.lines := rfl
@[simp] theorem setSlot_lockout : (setSlot k h s).lockout = s.lockout := rfl
@[simp] theorem setSlot_timers : (setSlot k h s).timers = s.timers := rfl
@[simp] theorem setSlot_voices : (setSlot k h s).voices = s.voices := rfl
@[simp] theorem setSlot_buses : (setSlot k h s).buses = s.buses := rfl
@[simp] theorem setSlot_clock : (setSlot k h s).clock = s.clock := rfl
@[simp] theorem setSlot_frameCounter : (setSlot k h s).frameCounter = s.frameCounter := rfl
@[simp] theorem setSlot_queue : (setSlot k h s).queue = s.queue := rfl
@[simp] theorem setSlot_lost : (setSlot k h s).lost = s.lost := rfl
@[simp] theorem setSlot_nextSeq : (setSlot k h s).nextSeq = s.nextSeq := rfl
@[simp] theorem setSlot_w : (setSlot k h s).w = s.w := rfl
@[simp] theorem setSlot_attn : (setSlot k h s).attn = s.attn := rfl
@[simp] theorem setSlot_marks : (setSlot k h s).marks = s.marks := rfl
@[simp] theorem setSlot_boardCount : (setSlot k h s).boardCount = s.boardCount := rfl
@[simp] theorem setSlot_boardCopy : (setSlot k h s).boardCopy = s.boardCopy := rfl
@[simp] theorem setSlot_draws : (setSlot k h s).draws = s.draws := rfl

end

/-! ### setVoice -/

section
variable (v : Nat) (x : Voice) (s : State)

@[simp] theorem setVoice_pending : (setVoice v x s).pending = s.pending := rfl
@[simp] theorem setVoice_rst : (setVoice v x s).rst = s.rst := rfl
@[simp] theorem setVoice_crb : (setVoice v x s).crb = s.crb := rfl
@[simp] theorem setVoice_held : (setVoice v x s).held = s.held := rfl
@[simp] theorem setVoice_done : (setVoice v x s).done = s.done := rfl
@[simp] theorem setVoice_readData : (setVoice v x s).readData = s.readData := rfl
@[simp] theorem setVoice_port : (setVoice v x s).port = s.port := rfl
@[simp] theorem setVoice_mem : (setVoice v x s).mem = s.mem := rfl
@[simp] theorem setVoice_shadow : (setVoice v x s).shadow = s.shadow := rfl
@[simp] theorem setVoice_writeBacks : (setVoice v x s).writeBacks = s.writeBacks := rfl
@[simp] theorem setVoice_deckClear : (setVoice v x s).deckClear = s.deckClear := rfl
@[simp] theorem setVoice_sweep : (setVoice v x s).sweep = s.sweep := rfl
@[simp] theorem setVoice_session : (setVoice v x s).session = s.session := rfl
@[simp] theorem setVoice_clips : (setVoice v x s).clips = s.clips := rfl
@[simp] theorem setVoice_mirrorFlags : (setVoice v x s).mirrorFlags = s.mirrorFlags := rfl
@[simp] theorem setVoice_mirrorAgain : (setVoice v x s).mirrorAgain = s.mirrorAgain := rfl
@[simp] theorem setVoice_owed : (setVoice v x s).owed = s.owed := rfl
@[simp] theorem setVoice_slots : (setVoice v x s).slots = s.slots := rfl
@[simp] theorem setVoice_offer : (setVoice v x s).offer = s.offer := rfl
@[simp] theorem setVoice_expSlot : (setVoice v x s).expSlot = s.expSlot := rfl
@[simp] theorem setVoice_expSeq : (setVoice v x s).expSeq = s.expSeq := rfl
@[simp] theorem setVoice_lastSeq : (setVoice v x s).lastSeq = s.lastSeq := rfl
@[simp] theorem setVoice_results : (setVoice v x s).results = s.results := rfl
@[simp] theorem setVoice_lines : (setVoice v x s).lines = s.lines := rfl
@[simp] theorem setVoice_lockout : (setVoice v x s).lockout = s.lockout := rfl
@[simp] theorem setVoice_timers : (setVoice v x s).timers = s.timers := rfl
@[simp] theorem setVoice_voices : (setVoice v x s).voices = bankSet s.voices v x := rfl
@[simp] theorem setVoice_buses : (setVoice v x s).buses = s.buses := rfl
@[simp] theorem setVoice_clock : (setVoice v x s).clock = s.clock := rfl
@[simp] theorem setVoice_frameCounter : (setVoice v x s).frameCounter = s.frameCounter := rfl
@[simp] theorem setVoice_queue : (setVoice v x s).queue = s.queue := rfl
@[simp] theorem setVoice_lost : (setVoice v x s).lost = s.lost := rfl
@[simp] theorem setVoice_nextSeq : (setVoice v x s).nextSeq = s.nextSeq := rfl
@[simp] theorem setVoice_w : (setVoice v x s).w = s.w := rfl
@[simp] theorem setVoice_attn : (setVoice v x s).attn = s.attn := rfl
@[simp] theorem setVoice_marks : (setVoice v x s).marks = s.marks := rfl
@[simp] theorem setVoice_boardCount : (setVoice v x s).boardCount = s.boardCount := rfl
@[simp] theorem setVoice_boardCopy : (setVoice v x s).boardCopy = s.boardCopy := rfl
@[simp] theorem setVoice_draws : (setVoice v x s).draws = s.draws := rfl

end

/-! ### setBus -/

section
variable (b : Nat) (x : Bus) (s : State)

@[simp] theorem setBus_pending : (setBus b x s).pending = s.pending := rfl
@[simp] theorem setBus_rst : (setBus b x s).rst = s.rst := rfl
@[simp] theorem setBus_crb : (setBus b x s).crb = s.crb := rfl
@[simp] theorem setBus_held : (setBus b x s).held = s.held := rfl
@[simp] theorem setBus_done : (setBus b x s).done = s.done := rfl
@[simp] theorem setBus_readData : (setBus b x s).readData = s.readData := rfl
@[simp] theorem setBus_port : (setBus b x s).port = s.port := rfl
@[simp] theorem setBus_mem : (setBus b x s).mem = s.mem := rfl
@[simp] theorem setBus_shadow : (setBus b x s).shadow = s.shadow := rfl
@[simp] theorem setBus_writeBacks : (setBus b x s).writeBacks = s.writeBacks := rfl
@[simp] theorem setBus_deckClear : (setBus b x s).deckClear = s.deckClear := rfl
@[simp] theorem setBus_sweep : (setBus b x s).sweep = s.sweep := rfl
@[simp] theorem setBus_session : (setBus b x s).session = s.session := rfl
@[simp] theorem setBus_clips : (setBus b x s).clips = s.clips := rfl
@[simp] theorem setBus_mirrorFlags : (setBus b x s).mirrorFlags = s.mirrorFlags := rfl
@[simp] theorem setBus_mirrorAgain : (setBus b x s).mirrorAgain = s.mirrorAgain := rfl
@[simp] theorem setBus_owed : (setBus b x s).owed = s.owed := rfl
@[simp] theorem setBus_slots : (setBus b x s).slots = s.slots := rfl
@[simp] theorem setBus_offer : (setBus b x s).offer = s.offer := rfl
@[simp] theorem setBus_expSlot : (setBus b x s).expSlot = s.expSlot := rfl
@[simp] theorem setBus_expSeq : (setBus b x s).expSeq = s.expSeq := rfl
@[simp] theorem setBus_lastSeq : (setBus b x s).lastSeq = s.lastSeq := rfl
@[simp] theorem setBus_results : (setBus b x s).results = s.results := rfl
@[simp] theorem setBus_lines : (setBus b x s).lines = s.lines := rfl
@[simp] theorem setBus_lockout : (setBus b x s).lockout = s.lockout := rfl
@[simp] theorem setBus_timers : (setBus b x s).timers = s.timers := rfl
@[simp] theorem setBus_voices : (setBus b x s).voices = s.voices := rfl
@[simp] theorem setBus_buses : (setBus b x s).buses = bankSet s.buses b x := rfl
@[simp] theorem setBus_clock : (setBus b x s).clock = s.clock := rfl
@[simp] theorem setBus_frameCounter : (setBus b x s).frameCounter = s.frameCounter := rfl
@[simp] theorem setBus_queue : (setBus b x s).queue = s.queue := rfl
@[simp] theorem setBus_lost : (setBus b x s).lost = s.lost := rfl
@[simp] theorem setBus_nextSeq : (setBus b x s).nextSeq = s.nextSeq := rfl
@[simp] theorem setBus_w : (setBus b x s).w = s.w := rfl
@[simp] theorem setBus_attn : (setBus b x s).attn = s.attn := rfl
@[simp] theorem setBus_marks : (setBus b x s).marks = s.marks := rfl
@[simp] theorem setBus_boardCount : (setBus b x s).boardCount = s.boardCount := rfl
@[simp] theorem setBus_boardCopy : (setBus b x s).boardCopy = s.boardCopy := rfl
@[simp] theorem setBus_draws : (setBus b x s).draws = s.draws := rfl

end

/-! ### accessDone -/

section
variable (s : State)

@[simp] theorem accessDone_pending : (accessDone s).pending = s.pending := rfl
@[simp] theorem accessDone_rst : (accessDone s).rst = s.rst := rfl
@[simp] theorem accessDone_crb : (accessDone s).crb = s.crb := rfl
@[simp] theorem accessDone_held : (accessDone s).held = none := rfl
@[simp] theorem accessDone_done : (accessDone s).done = true := rfl
@[simp] theorem accessDone_readData : (accessDone s).readData = s.readData := rfl
@[simp] theorem accessDone_port : (accessDone s).port = s.port := rfl
@[simp] theorem accessDone_mem : (accessDone s).mem = s.mem := rfl
@[simp] theorem accessDone_shadow : (accessDone s).shadow = s.shadow := rfl
@[simp] theorem accessDone_writeBacks : (accessDone s).writeBacks = s.writeBacks := rfl
@[simp] theorem accessDone_deckClear : (accessDone s).deckClear = s.deckClear := rfl
@[simp] theorem accessDone_sweep : (accessDone s).sweep = s.sweep := rfl
@[simp] theorem accessDone_session : (accessDone s).session = s.session := rfl
@[simp] theorem accessDone_clips : (accessDone s).clips = s.clips := rfl
@[simp] theorem accessDone_mirrorFlags : (accessDone s).mirrorFlags = s.mirrorFlags := rfl
@[simp] theorem accessDone_mirrorAgain : (accessDone s).mirrorAgain = s.mirrorAgain := rfl
@[simp] theorem accessDone_owed : (accessDone s).owed = s.owed := rfl
@[simp] theorem accessDone_slots : (accessDone s).slots = s.slots := rfl
@[simp] theorem accessDone_offer : (accessDone s).offer = s.offer := rfl
@[simp] theorem accessDone_expSlot : (accessDone s).expSlot = s.expSlot := rfl
@[simp] theorem accessDone_expSeq : (accessDone s).expSeq = s.expSeq := rfl
@[simp] theorem accessDone_lastSeq : (accessDone s).lastSeq = s.lastSeq := rfl
@[simp] theorem accessDone_results : (accessDone s).results = s.results := rfl
@[simp] theorem accessDone_lines : (accessDone s).lines = s.lines := rfl
@[simp] theorem accessDone_lockout : (accessDone s).lockout = s.lockout := rfl
@[simp] theorem accessDone_timers : (accessDone s).timers = s.timers := rfl
@[simp] theorem accessDone_voices : (accessDone s).voices = s.voices := rfl
@[simp] theorem accessDone_buses : (accessDone s).buses = s.buses := rfl
@[simp] theorem accessDone_clock : (accessDone s).clock = s.clock := rfl
@[simp] theorem accessDone_frameCounter : (accessDone s).frameCounter = s.frameCounter := rfl
@[simp] theorem accessDone_queue : (accessDone s).queue = s.queue := rfl
@[simp] theorem accessDone_lost : (accessDone s).lost = s.lost := rfl
@[simp] theorem accessDone_nextSeq : (accessDone s).nextSeq = s.nextSeq := rfl
@[simp] theorem accessDone_w : (accessDone s).w = s.w := rfl
@[simp] theorem accessDone_attn : (accessDone s).attn = s.attn := rfl
@[simp] theorem accessDone_marks : (accessDone s).marks = s.marks := rfl
@[simp] theorem accessDone_boardCount : (accessDone s).boardCount = s.boardCount := rfl
@[simp] theorem accessDone_boardCopy : (accessDone s).boardCopy = s.boardCopy := rfl
@[simp] theorem accessDone_draws : (accessDone s).draws = s.draws := rfl

end

/-! ### readDone -/

section
variable (d : Word) (s : State)

@[simp] theorem readDone_pending : (readDone d s).pending = s.pending := rfl
@[simp] theorem readDone_rst : (readDone d s).rst = s.rst := rfl
@[simp] theorem readDone_crb : (readDone d s).crb = s.crb := rfl
@[simp] theorem readDone_held : (readDone d s).held = none := rfl
@[simp] theorem readDone_done : (readDone d s).done = true := rfl
@[simp] theorem readDone_readData : (readDone d s).readData = d := rfl
@[simp] theorem readDone_port : (readDone d s).port = s.port := rfl
@[simp] theorem readDone_mem : (readDone d s).mem = s.mem := rfl
@[simp] theorem readDone_shadow : (readDone d s).shadow = s.shadow := rfl
@[simp] theorem readDone_writeBacks : (readDone d s).writeBacks = s.writeBacks := rfl
@[simp] theorem readDone_deckClear : (readDone d s).deckClear = s.deckClear := rfl
@[simp] theorem readDone_sweep : (readDone d s).sweep = s.sweep := rfl
@[simp] theorem readDone_session : (readDone d s).session = s.session := rfl
@[simp] theorem readDone_clips : (readDone d s).clips = s.clips := rfl
@[simp] theorem readDone_mirrorFlags : (readDone d s).mirrorFlags = s.mirrorFlags := rfl
@[simp] theorem readDone_mirrorAgain : (readDone d s).mirrorAgain = s.mirrorAgain := rfl
@[simp] theorem readDone_owed : (readDone d s).owed = s.owed := rfl
@[simp] theorem readDone_slots : (readDone d s).slots = s.slots := rfl
@[simp] theorem readDone_offer : (readDone d s).offer = s.offer := rfl
@[simp] theorem readDone_expSlot : (readDone d s).expSlot = s.expSlot := rfl
@[simp] theorem readDone_expSeq : (readDone d s).expSeq = s.expSeq := rfl
@[simp] theorem readDone_lastSeq : (readDone d s).lastSeq = s.lastSeq := rfl
@[simp] theorem readDone_results : (readDone d s).results = s.results := rfl
@[simp] theorem readDone_lines : (readDone d s).lines = s.lines := rfl
@[simp] theorem readDone_lockout : (readDone d s).lockout = s.lockout := rfl
@[simp] theorem readDone_timers : (readDone d s).timers = s.timers := rfl
@[simp] theorem readDone_voices : (readDone d s).voices = s.voices := rfl
@[simp] theorem readDone_buses : (readDone d s).buses = s.buses := rfl
@[simp] theorem readDone_clock : (readDone d s).clock = s.clock := rfl
@[simp] theorem readDone_frameCounter : (readDone d s).frameCounter = s.frameCounter := rfl
@[simp] theorem readDone_queue : (readDone d s).queue = s.queue := rfl
@[simp] theorem readDone_lost : (readDone d s).lost = s.lost := rfl
@[simp] theorem readDone_nextSeq : (readDone d s).nextSeq = s.nextSeq := rfl
@[simp] theorem readDone_w : (readDone d s).w = s.w := rfl
@[simp] theorem readDone_attn : (readDone d s).attn = s.attn := rfl
@[simp] theorem readDone_marks : (readDone d s).marks = s.marks := rfl
@[simp] theorem readDone_boardCount : (readDone d s).boardCount = s.boardCount := rfl
@[simp] theorem readDone_boardCopy : (readDone d s).boardCopy = s.boardCopy := rfl
@[simp] theorem readDone_draws : (readDone d s).draws = s.draws := rfl

end

/-! ### portFree -/

section
variable (s : State)

@[simp] theorem portFree_pending : (portFree s).pending = s.pending := rfl
@[simp] theorem portFree_rst : (portFree s).rst = s.rst := rfl
@[simp] theorem portFree_crb : (portFree s).crb = s.crb := rfl
@[simp] theorem portFree_held : (portFree s).held = s.held := rfl
@[simp] theorem portFree_done : (portFree s).done = s.done := rfl
@[simp] theorem portFree_readData : (portFree s).readData = s.readData := rfl
@[simp] theorem portFree_port : (portFree s).port = none := rfl
@[simp] theorem portFree_mem : (portFree s).mem = s.mem := rfl
@[simp] theorem portFree_shadow : (portFree s).shadow = s.shadow := rfl
@[simp] theorem portFree_writeBacks : (portFree s).writeBacks = s.writeBacks := rfl
@[simp] theorem portFree_deckClear : (portFree s).deckClear = s.deckClear := rfl
@[simp] theorem portFree_sweep : (portFree s).sweep = s.sweep := rfl
@[simp] theorem portFree_session : (portFree s).session = s.session := rfl
@[simp] theorem portFree_clips : (portFree s).clips = s.clips := rfl
@[simp] theorem portFree_mirrorFlags : (portFree s).mirrorFlags = s.mirrorFlags := rfl
@[simp] theorem portFree_mirrorAgain : (portFree s).mirrorAgain = s.mirrorAgain := rfl
@[simp] theorem portFree_owed : (portFree s).owed = s.owed := rfl
@[simp] theorem portFree_slots : (portFree s).slots = s.slots := rfl
@[simp] theorem portFree_offer : (portFree s).offer = s.offer := rfl
@[simp] theorem portFree_expSlot : (portFree s).expSlot = s.expSlot := rfl
@[simp] theorem portFree_expSeq : (portFree s).expSeq = s.expSeq := rfl
@[simp] theorem portFree_lastSeq : (portFree s).lastSeq = s.lastSeq := rfl
@[simp] theorem portFree_results : (portFree s).results = s.results := rfl
@[simp] theorem portFree_lines : (portFree s).lines = s.lines := rfl
@[simp] theorem portFree_lockout : (portFree s).lockout = s.lockout := rfl
@[simp] theorem portFree_timers : (portFree s).timers = s.timers := rfl
@[simp] theorem portFree_voices : (portFree s).voices = s.voices := rfl
@[simp] theorem portFree_buses : (portFree s).buses = s.buses := rfl
@[simp] theorem portFree_clock : (portFree s).clock = s.clock := rfl
@[simp] theorem portFree_frameCounter : (portFree s).frameCounter = s.frameCounter := rfl
@[simp] theorem portFree_queue : (portFree s).queue = s.queue := rfl
@[simp] theorem portFree_lost : (portFree s).lost = s.lost := rfl
@[simp] theorem portFree_nextSeq : (portFree s).nextSeq = s.nextSeq := rfl
@[simp] theorem portFree_w : (portFree s).w = s.w := rfl
@[simp] theorem portFree_attn : (portFree s).attn = s.attn := rfl
@[simp] theorem portFree_marks : (portFree s).marks = s.marks := rfl
@[simp] theorem portFree_boardCount : (portFree s).boardCount = s.boardCount := rfl
@[simp] theorem portFree_boardCopy : (portFree s).boardCopy = s.boardCopy := rfl
@[simp] theorem portFree_draws : (portFree s).draws = s.draws := rfl

end

/-! ### drawOne -/

section
variable (s : State)

@[simp] theorem drawOne_pending : (drawOne s).pending = s.pending := rfl
@[simp] theorem drawOne_rst : (drawOne s).rst = s.rst := rfl
@[simp] theorem drawOne_crb : (drawOne s).crb = s.crb := rfl
@[simp] theorem drawOne_held : (drawOne s).held = s.held := rfl
@[simp] theorem drawOne_done : (drawOne s).done = s.done := rfl
@[simp] theorem drawOne_readData : (drawOne s).readData = s.readData := rfl
@[simp] theorem drawOne_port : (drawOne s).port = s.port := rfl
@[simp] theorem drawOne_mem : (drawOne s).mem = s.mem := rfl
@[simp] theorem drawOne_shadow : (drawOne s).shadow = s.shadow := rfl
@[simp] theorem drawOne_writeBacks : (drawOne s).writeBacks = s.writeBacks := rfl
@[simp] theorem drawOne_deckClear : (drawOne s).deckClear = s.deckClear := rfl
@[simp] theorem drawOne_sweep : (drawOne s).sweep = s.sweep := rfl
@[simp] theorem drawOne_session : (drawOne s).session = s.session := rfl
@[simp] theorem drawOne_clips : (drawOne s).clips = s.clips := rfl
@[simp] theorem drawOne_mirrorFlags : (drawOne s).mirrorFlags = s.mirrorFlags := rfl
@[simp] theorem drawOne_mirrorAgain : (drawOne s).mirrorAgain = s.mirrorAgain := rfl
@[simp] theorem drawOne_owed : (drawOne s).owed = s.owed := rfl
@[simp] theorem drawOne_slots : (drawOne s).slots = s.slots := rfl
@[simp] theorem drawOne_offer : (drawOne s).offer = s.offer := rfl
@[simp] theorem drawOne_expSlot : (drawOne s).expSlot = s.expSlot := rfl
@[simp] theorem drawOne_expSeq : (drawOne s).expSeq = s.expSeq := rfl
@[simp] theorem drawOne_lastSeq : (drawOne s).lastSeq = s.lastSeq := rfl
@[simp] theorem drawOne_results : (drawOne s).results = s.results := rfl
@[simp] theorem drawOne_lines : (drawOne s).lines = s.lines := rfl
@[simp] theorem drawOne_lockout : (drawOne s).lockout = s.lockout := rfl
@[simp] theorem drawOne_timers : (drawOne s).timers = s.timers := rfl
@[simp] theorem drawOne_voices : (drawOne s).voices = s.voices := rfl
@[simp] theorem drawOne_buses : (drawOne s).buses = s.buses := rfl
@[simp] theorem drawOne_clock : (drawOne s).clock = s.clock := rfl
@[simp] theorem drawOne_frameCounter : (drawOne s).frameCounter = s.frameCounter := rfl
@[simp] theorem drawOne_queue : (drawOne s).queue = s.queue := rfl
@[simp] theorem drawOne_lost : (drawOne s).lost = s.lost := rfl
@[simp] theorem drawOne_nextSeq : (drawOne s).nextSeq = s.nextSeq := rfl
@[simp] theorem drawOne_w : (drawOne s).w = s.w := rfl
@[simp] theorem drawOne_attn : (drawOne s).attn = s.attn := rfl
@[simp] theorem drawOne_marks : (drawOne s).marks = s.marks := rfl
@[simp] theorem drawOne_boardCount : (drawOne s).boardCount = s.boardCount := rfl
@[simp] theorem drawOne_boardCopy : (drawOne s).boardCopy = s.boardCopy := rfl
@[simp] theorem drawOne_draws : (drawOne s).draws = s.draws + 1 := rfl

end

/-! ### restartBoard -/

section
variable (s : State)

@[simp] theorem restartBoard_pending : (restartBoard s).pending = s.pending := rfl
@[simp] theorem restartBoard_rst : (restartBoard s).rst = s.rst := rfl
@[simp] theorem restartBoard_crb : (restartBoard s).crb = s.crb := rfl
@[simp] theorem restartBoard_held : (restartBoard s).held = s.held := rfl
@[simp] theorem restartBoard_done : (restartBoard s).done = s.done := rfl
@[simp] theorem restartBoard_readData : (restartBoard s).readData = s.readData := rfl
@[simp] theorem restartBoard_port : (restartBoard s).port = s.port := rfl
@[simp] theorem restartBoard_mem : (restartBoard s).mem = s.mem := rfl
@[simp] theorem restartBoard_shadow : (restartBoard s).shadow = s.shadow := rfl
@[simp] theorem restartBoard_writeBacks : (restartBoard s).writeBacks = s.writeBacks := rfl
@[simp] theorem restartBoard_deckClear : (restartBoard s).deckClear = s.deckClear := rfl
@[simp] theorem restartBoard_sweep : (restartBoard s).sweep = s.sweep := rfl
@[simp] theorem restartBoard_session : (restartBoard s).session = s.session := rfl
@[simp] theorem restartBoard_clips : (restartBoard s).clips = s.clips := rfl
@[simp] theorem restartBoard_mirrorFlags : (restartBoard s).mirrorFlags = s.mirrorFlags := rfl
@[simp] theorem restartBoard_mirrorAgain : (restartBoard s).mirrorAgain = s.mirrorAgain := rfl
@[simp] theorem restartBoard_owed : (restartBoard s).owed = s.owed := rfl
@[simp] theorem restartBoard_slots : (restartBoard s).slots = s.slots := rfl
@[simp] theorem restartBoard_offer : (restartBoard s).offer = s.offer := rfl
@[simp] theorem restartBoard_expSlot : (restartBoard s).expSlot = s.expSlot := rfl
@[simp] theorem restartBoard_expSeq : (restartBoard s).expSeq = s.expSeq := rfl
@[simp] theorem restartBoard_lastSeq : (restartBoard s).lastSeq = s.lastSeq := rfl
@[simp] theorem restartBoard_results : (restartBoard s).results = s.results := rfl
@[simp] theorem restartBoard_lines : (restartBoard s).lines = s.lines := rfl
@[simp] theorem restartBoard_lockout : (restartBoard s).lockout = s.lockout := rfl
@[simp] theorem restartBoard_timers : (restartBoard s).timers = s.timers := rfl
@[simp] theorem restartBoard_voices : (restartBoard s).voices = s.voices := rfl
@[simp] theorem restartBoard_buses : (restartBoard s).buses = s.buses := rfl
@[simp] theorem restartBoard_clock : (restartBoard s).clock = s.clock := rfl
@[simp] theorem restartBoard_frameCounter : (restartBoard s).frameCounter = s.frameCounter := rfl
@[simp] theorem restartBoard_queue : (restartBoard s).queue = s.queue := rfl
@[simp] theorem restartBoard_lost : (restartBoard s).lost = s.lost := rfl
@[simp] theorem restartBoard_nextSeq : (restartBoard s).nextSeq = s.nextSeq := rfl
@[simp] theorem restartBoard_w : (restartBoard s).w = s.w := rfl
@[simp] theorem restartBoard_attn : (restartBoard s).attn = s.attn := rfl
@[simp] theorem restartBoard_marks : (restartBoard s).marks = s.marks := rfl
@[simp] theorem restartBoard_boardCount : (restartBoard s).boardCount = 0 := rfl
@[simp] theorem restartBoard_boardCopy : (restartBoard s).boardCopy = s.boardCopy := rfl
@[simp] theorem restartBoard_draws : (restartBoard s).draws = s.draws := rfl

end

/-! ### advanceIntake -/

section
variable (s : State)

@[simp] theorem advanceIntake_pending : (advanceIntake s).pending = s.pending := rfl
@[simp] theorem advanceIntake_rst : (advanceIntake s).rst = s.rst := rfl
@[simp] theorem advanceIntake_crb : (advanceIntake s).crb = s.crb := rfl
@[simp] theorem advanceIntake_held : (advanceIntake s).held = s.held := rfl
@[simp] theorem advanceIntake_done : (advanceIntake s).done = s.done := rfl
@[simp] theorem advanceIntake_readData : (advanceIntake s).readData = s.readData := rfl
@[simp] theorem advanceIntake_port : (advanceIntake s).port = s.port := rfl
@[simp] theorem advanceIntake_mem : (advanceIntake s).mem = s.mem := rfl
@[simp] theorem advanceIntake_shadow : (advanceIntake s).shadow = s.shadow := rfl
@[simp] theorem advanceIntake_writeBacks : (advanceIntake s).writeBacks = s.writeBacks := rfl
@[simp] theorem advanceIntake_deckClear : (advanceIntake s).deckClear = s.deckClear := rfl
@[simp] theorem advanceIntake_sweep : (advanceIntake s).sweep = s.sweep := rfl
@[simp] theorem advanceIntake_session : (advanceIntake s).session = s.session := rfl
@[simp] theorem advanceIntake_clips : (advanceIntake s).clips = s.clips := rfl
@[simp] theorem advanceIntake_mirrorFlags : (advanceIntake s).mirrorFlags = s.mirrorFlags := rfl
@[simp] theorem advanceIntake_mirrorAgain : (advanceIntake s).mirrorAgain = s.mirrorAgain := rfl
@[simp] theorem advanceIntake_owed : (advanceIntake s).owed = s.owed := rfl
@[simp] theorem advanceIntake_slots : (advanceIntake s).slots = s.slots := rfl
@[simp] theorem advanceIntake_offer : (advanceIntake s).offer = s.offer := rfl
@[simp] theorem advanceIntake_expSlot : (advanceIntake s).expSlot = (s.expSlot + 1) % 64 := rfl
@[simp] theorem advanceIntake_expSeq : (advanceIntake s).expSeq = if s.expSeq = 65535 then 1 else s.expSeq + 1 := rfl
@[simp] theorem advanceIntake_lastSeq : (advanceIntake s).lastSeq = s.expSeq := rfl
@[simp] theorem advanceIntake_results : (advanceIntake s).results = s.results := rfl
@[simp] theorem advanceIntake_lines : (advanceIntake s).lines = s.lines := rfl
@[simp] theorem advanceIntake_lockout : (advanceIntake s).lockout = s.lockout := rfl
@[simp] theorem advanceIntake_timers : (advanceIntake s).timers = s.timers := rfl
@[simp] theorem advanceIntake_voices : (advanceIntake s).voices = s.voices := rfl
@[simp] theorem advanceIntake_buses : (advanceIntake s).buses = s.buses := rfl
@[simp] theorem advanceIntake_clock : (advanceIntake s).clock = s.clock := rfl
@[simp] theorem advanceIntake_frameCounter : (advanceIntake s).frameCounter = s.frameCounter := rfl
@[simp] theorem advanceIntake_queue : (advanceIntake s).queue = s.queue := rfl
@[simp] theorem advanceIntake_lost : (advanceIntake s).lost = s.lost := rfl
@[simp] theorem advanceIntake_nextSeq : (advanceIntake s).nextSeq = s.nextSeq := rfl
@[simp] theorem advanceIntake_w : (advanceIntake s).w = s.w := rfl
@[simp] theorem advanceIntake_attn : (advanceIntake s).attn = s.attn := rfl
@[simp] theorem advanceIntake_marks : (advanceIntake s).marks = s.marks := rfl
@[simp] theorem advanceIntake_boardCount : (advanceIntake s).boardCount = s.boardCount := rfl
@[simp] theorem advanceIntake_boardCopy : (advanceIntake s).boardCopy = s.boardCopy := rfl
@[simp] theorem advanceIntake_draws : (advanceIntake s).draws = s.draws := rfl

end

/-! ### handResult -/

section
variable (k : Nat) (c : ResultCode) (s : State)

@[simp] theorem handResult_pending : (handResult k c s).pending = s.pending := rfl
@[simp] theorem handResult_rst : (handResult k c s).rst = s.rst := rfl
@[simp] theorem handResult_crb : (handResult k c s).crb = s.crb := rfl
@[simp] theorem handResult_held : (handResult k c s).held = s.held := rfl
@[simp] theorem handResult_done : (handResult k c s).done = s.done := rfl
@[simp] theorem handResult_readData : (handResult k c s).readData = s.readData := rfl
@[simp] theorem handResult_port : (handResult k c s).port = s.port := rfl
@[simp] theorem handResult_mem : (handResult k c s).mem = s.mem := rfl
@[simp] theorem handResult_shadow : (handResult k c s).shadow = s.shadow := rfl
@[simp] theorem handResult_writeBacks : (handResult k c s).writeBacks = s.writeBacks := rfl
@[simp] theorem handResult_deckClear : (handResult k c s).deckClear = s.deckClear := rfl
@[simp] theorem handResult_sweep : (handResult k c s).sweep = s.sweep := rfl
@[simp] theorem handResult_session : (handResult k c s).session = s.session := rfl
@[simp] theorem handResult_clips : (handResult k c s).clips = s.clips := rfl
@[simp] theorem handResult_mirrorFlags : (handResult k c s).mirrorFlags = s.mirrorFlags := rfl
@[simp] theorem handResult_mirrorAgain : (handResult k c s).mirrorAgain = s.mirrorAgain := rfl
@[simp] theorem handResult_owed : (handResult k c s).owed = s.owed := rfl
@[simp] theorem handResult_slots : (handResult k c s).slots = s.slots := rfl
@[simp] theorem handResult_offer : (handResult k c s).offer = s.offer := rfl
@[simp] theorem handResult_expSlot : (handResult k c s).expSlot = s.expSlot := rfl
@[simp] theorem handResult_expSeq : (handResult k c s).expSeq = s.expSeq := rfl
@[simp] theorem handResult_lastSeq : (handResult k c s).lastSeq = s.lastSeq := rfl
@[simp] theorem handResult_results : (handResult k c s).results = s.results ++ [(k, c)] := rfl
@[simp] theorem handResult_lines : (handResult k c s).lines = s.lines := rfl
@[simp] theorem handResult_lockout : (handResult k c s).lockout = s.lockout := rfl
@[simp] theorem handResult_timers : (handResult k c s).timers = s.timers := rfl
@[simp] theorem handResult_voices : (handResult k c s).voices = s.voices := rfl
@[simp] theorem handResult_buses : (handResult k c s).buses = s.buses := rfl
@[simp] theorem handResult_clock : (handResult k c s).clock = s.clock := rfl
@[simp] theorem handResult_frameCounter : (handResult k c s).frameCounter = s.frameCounter := rfl
@[simp] theorem handResult_queue : (handResult k c s).queue = s.queue := rfl
@[simp] theorem handResult_lost : (handResult k c s).lost = s.lost := rfl
@[simp] theorem handResult_nextSeq : (handResult k c s).nextSeq = s.nextSeq := rfl
@[simp] theorem handResult_w : (handResult k c s).w = s.w := rfl
@[simp] theorem handResult_attn : (handResult k c s).attn = s.attn := rfl
@[simp] theorem handResult_marks : (handResult k c s).marks = s.marks := rfl
@[simp] theorem handResult_boardCount : (handResult k c s).boardCount = s.boardCount := rfl
@[simp] theorem handResult_boardCopy : (handResult k c s).boardCopy = s.boardCopy := rfl
@[simp] theorem handResult_draws : (handResult k c s).draws = s.draws := rfl

end

end Sys2Proof.Machine
end

