-- ==== Sys2Proof/Laws/Memory.lean ====
section
/-!
SUPPORT. The laws of memory: reading after writing, and the canonical form, which every memory operation keeps; and the laws of
a bank.
-/

namespace Sys2Proof

theorem bankGet_bankSet_same {α : Type} {n : Nat} (xs : Vector α n) (i : Nat) (a d : α) (h : i < n) :
    bankGet (bankSet xs i a) i d = a := by simp [bankGet, bankSet, h]

theorem bankGet_bankSet_ne {α : Type} {n : Nat} (xs : Vector α n) (i j : Nat) (a d : α) (h : i ≠ j) :
    bankGet (bankSet xs i a) j d = bankGet xs j d := by simp [bankGet, bankSet, h]

theorem bankGet_replicate {α : Type} (n i : Nat) (a : α) : bankGet (Vector.replicate n a) i a = a := by
  unfold bankGet
  by_cases h : i < n <;> simp [h]

theorem bankGet_map {α β : Type} {n : Nat} (f : α → β) (xs : Vector α n) (i : Nat) (d : α) :
    bankGet (xs.map f) i (f d) = f (bankGet xs i d) := by
  unfold bankGet
  by_cases h : i < n <;> simp [h]

end Sys2Proof

namespace Sys2Proof.Machine

/-! ### One byte -/

theorem readByte_writeByte (m : Cells) (a : Nat) (b : Byte) (c : Nat) (h : cellsWf m = true) :
    readByte (writeByte m a b) c = if c = a then b else readByte m c := by
  induction m with
  | nil =>
    unfold writeByte
    by_cases hc : c = a
    · subst hc; split <;> simp_all [readByte]
    · have hc' : a ≠ c := fun e => hc e.symm
      split <;> simp [readByte, hc']
  | cons p m ih =>
    obtain ⟨a', b'⟩ := p
    simp only [cellsWf, Bool.and_eq_true, decide_eq_true_eq, List.all_eq_true] at h
    obtain ⟨⟨hb', hlt⟩, hm⟩ := h
    have none : ∀ (l : Cells) (x : Nat), (∀ y ∈ l, x < y.1) → readByte l x = Config.unwritten := by
      intro l x hl
      induction l with
      | nil => rfl
      | cons q l il =>
        have h1 := hl q (by simp)
        rw [readByte, if_neg (by omega), il (fun y hy => hl y (by simp [hy]))]
    unfold writeByte
    split
    · rename_i hlt1
      have h0 := none m a (fun y hy => Nat.lt_trans hlt1 (hlt y hy))
      split
      · rename_i hb
        by_cases hc : c = a
        · subst hc; rw [if_pos rfl, readByte, if_neg (by omega), h0, hb]
        · rw [if_neg hc]
      · by_cases hc : c = a
        · subst hc; simp [readByte]
        · rw [if_neg hc]; conv_lhs => rw [readByte]
          rw [if_neg (fun e => hc e.symm)]
    · split
      · rename_i h1 h2
        subst h2
        split
        · rename_i hb
          by_cases hc : c = a
          · subst hc; rw [if_pos rfl, none m c hlt, hb]
          · rw [if_neg hc, readByte, if_neg (fun e => hc e.symm)]
        · by_cases hc : c = a
          · subst hc; simp [readByte]
          · rw [if_neg hc]; simp only [readByte]; rw [if_neg (fun e => hc e.symm), if_neg (fun e => hc e.symm)]
      · rename_i h1 h2
        by_cases hc : a' = c
        · subst hc; rw [readByte, if_pos rfl, if_neg (fun e => h2 e.symm), readByte, if_pos rfl]
        · rw [readByte, if_neg hc, ih hm, readByte, if_neg hc]

theorem writeByte_above (m : Cells) (a : Nat) (b : Byte) (x : Nat) (hx : x < a) (h : ∀ c ∈ m, x < c.1) :
    ∀ c ∈ writeByte m a b, x < c.1 := by
  induction m with
  | nil => intro c hc; unfold writeByte at hc; split at hc <;> simp_all
  | cons p m ih =>
    intro c hc
    obtain ⟨a', b'⟩ := p
    unfold writeByte at hc
    split at hc
    · split at hc
      · exact h c hc
      · rcases List.mem_cons.mp hc with rfl | hc
        · exact hx
        · exact h c hc
    · split at hc
      · split at hc
        · exact h c (by simp [hc])
        · rcases List.mem_cons.mp hc with rfl | hc
          · exact hx
          · exact h c (by simp [hc])
      · rcases List.mem_cons.mp hc with rfl | hc
        · exact h _ (by simp)
        · exact ih (fun c hc => h c (by simp [hc])) c hc

theorem cellsWf_cons (a : Nat) (b : Byte) (m : Cells) :
    cellsWf ((a, b) :: m) = true ↔ b ≠ Config.unwritten ∧ (∀ c ∈ m, a < c.1) ∧ cellsWf m = true := by
  simp [cellsWf, and_assoc]

theorem cellsWf_writeByte (m : Cells) (a : Nat) (b : Byte) (h : cellsWf m = true) : cellsWf (writeByte m a b) = true := by
  induction m with
  | nil => by_cases hb : b = Config.unwritten <;> simp [writeByte, hb, cellsWf]
  | cons p m ih =>
    obtain ⟨a', b'⟩ := p
    obtain ⟨hb', hlt, hm⟩ := (cellsWf_cons a' b' m).mp h
    unfold writeByte
    split
    · rename_i h1
      split
      · exact h
      · rename_i hb
        refine (cellsWf_cons a b _).mpr ⟨hb, ?_, h⟩
        intro c hc
        rcases List.mem_cons.mp hc with rfl | hc
        · exact h1
        · exact Nat.lt_trans h1 (hlt c hc)
    · split
      · rename_i h2
        subst h2
        split
        · exact hm
        · rename_i hb
          exact (cellsWf_cons a b m).mpr ⟨hb, hlt, hm⟩
      · rename_i h1 h2
        exact (cellsWf_cons a' b' _).mpr ⟨hb', writeByte_above m a b a' (by omega) hlt, ih hm⟩

/-! ### Several bytes -/

theorem cellsWf_writeBytes (bs : List Byte) (m : Cells) (a : Nat) (h : cellsWf m = true) :
    cellsWf (writeBytes m a bs) = true := by
  induction bs generalizing m a with
  | nil => exact h
  | cons b bs ih => exact ih _ _ (cellsWf_writeByte m a b h)

theorem cellsWf_writeLane (m : Cells) (a : Nat) (lanes : Lanes) (w : Word) (i : Nat) (h : cellsWf m = true) :
    cellsWf (writeLane m a lanes w i) = true := by
  unfold writeLane
  split
  · exact cellsWf_writeByte m _ _ h
  · exact h

theorem cellsWf_writeLanes (m : Cells) (a : Nat) (lanes : Lanes) (w : Word) (h : cellsWf m = true) :
    cellsWf (writeLanes m a lanes w) = true :=
  cellsWf_writeLane _ _ _ _ _ (cellsWf_writeLane _ _ _ _ _ (cellsWf_writeLane _ _ _ _ _ (cellsWf_writeLane _ _ _ _ _ h)))

/-- What a write of bytes leaves at every address. -/
theorem bytesWritten_writeBytes (bs : List Byte) (m : Cells) (a : Nat) (h : cellsWf m = true) :
    BytesWritten a bs m (writeBytes m a bs) := by
  induction bs generalizing m a with
  | nil => intro b; rw [if_neg (by simp)]; rfl
  | cons x bs ih =>
    intro b
    have hw := ih (writeByte m a x) (a + 1) (cellsWf_writeByte m a x h) b
    rw [writeBytes, hw, readByte_writeByte m a x b h]
    simp only [List.length_cons]
    by_cases hb : b = a
    · subst hb
      rw [if_neg (by omega), if_pos rfl, if_pos (by omega)]
      simp
    · by_cases hin : a + 1 ≤ b ∧ b < a + 1 + bs.length
      · rw [if_pos hin, if_pos (by omega)]
        have e : b - a = (b - (a + 1)) + 1 := by omega
        rw [e]
        simp
      · rw [if_neg hin, if_neg hb, if_neg (by omega)]

theorem readByte_writeLane (m : Cells) (a : Nat) (lanes : Lanes) (w : Word) (i b : Nat) (h : cellsWf m = true) :
    readByte (writeLane m a lanes w i) b = if b = a + i ∧ lanes.getLsbD i = true then laneOf w i else readByte m b := by
  unfold writeLane
  by_cases hl : lanes.getLsbD i = true
  · rw [if_pos hl, readByte_writeByte _ _ _ _ h]; simp [hl]
  · rw [if_neg hl]; simp [hl]

/-- What a write of lanes leaves at every address. -/
theorem lanesWritten_writeLanes (m : Cells) (a : Nat) (lanes : Lanes) (w : Word) (h : cellsWf m = true) :
    LanesWritten a lanes w m (writeLanes m a lanes w) := by
  intro b
  have h0 := cellsWf_writeLane m a lanes w 0 h
  have h1 := cellsWf_writeLane _ a lanes w 1 h0
  have h2 := cellsWf_writeLane _ a lanes w 2 h1
  unfold writeLanes
  rw [readByte_writeLane _ _ _ _ _ _ h2, readByte_writeLane _ _ _ _ _ _ h1, readByte_writeLane _ _ _ _ _ _ h0,
    readByte_writeLane _ _ _ _ _ _ h]
  by_cases hin : a ≤ b ∧ b < a + 4
  · obtain ⟨k, rfl⟩ : ∃ k, b = a + k := ⟨b - a, by omega⟩
    have hk : k = 0 ∨ k = 1 ∨ k = 2 ∨ k = 3 := by omega
    rcases hk with rfl | rfl | rfl | rfl <;> simp
  · rw [if_neg (by omega), if_neg (by omega), if_neg (by omega), if_neg (by omega), if_neg (by omega)]

end Sys2Proof.Machine
end

