-- ==== Sys2Proof/Laws/Ops.lean ====
section
/-!
SUPPORT. What the shared operations can change: one lemma for each, cited in place of unfolding the operation. Those of the
Voice Engine change voices, clips, slots, the pending queue, a burst's stale mark and the draws alone; a grant changes what a
frame leaves it.
-/

namespace Sys2Proof.Machine

/-! ### Frames -/

/-- A part is the same as itself. -/
theorem same_refl (p : Part) (s : State) : Same p s s := by
  cases p <;> simp [Same, Kept, servedVoice, writeBacksLeft, marksLeft, againLeft, CopyLeft]
  intro b h1 h2
  rw [h1] at h2
  injection h2 with h2
  injection h2 with h2
  rw [h2]

/-- A part that a body leaves the same and a grant then keeps is kept; the access on the port is spoken of apart. -/
theorem kept_of_same {g : Option PortAccess} {p : Part} {s t u : State} (hp : p ≠ .port) (hs : p ≠ .stale) (h1 : Same p s t)
    (h2 : Kept g p t u) : Kept g p s u := by
  cases p <;> simp_all [Same, Kept, servedVoice, writeBacksLeft, marksLeft, againLeft, CopyLeft]

/-- What two steps in turn leave the same is the same, the access on the port apart. -/
theorem same_trans {p : Part} {s t u : State} (hp : p ≠ .port) (hs : p ≠ .stale) (h1 : Same p s t) (h2 : Same p t u) :
    Same p s u := kept_of_same hp hs h1 h2

/-- A frame that lists more holds too, where both list the port or neither does. -/
theorem unchangedBut_mono {ps qs : List Part} {s t : State} (hs : ∀ p, p ∈ ps → p ∈ qs) (hp : Part.port ∈ ps ↔ Part.port ∈ qs)
    (h : unchangedBut ps s t) : unchangedBut qs s t := by
  intro p hq
  have hg : granted qs s t = granted ps s t := by simp [granted, hp]
  rw [hg]
  exact h p (fun hm => hq (hs p hm))

/-! ### Raising an event, penalties, the lockout, the clock -/

/-- Raising an event changes the pending queue, the lost count and the next sequence number alone. -/
theorem raiseEvent_only (k : EventKind) (a b : Nat) (value : Word) (s : State) :
    raiseEvent k a b value s =
      { s with
        queue := (raiseEvent k a b value s).queue
        lost := (raiseEvent k a b value s).lost
        nextSeq := (raiseEvent k a b value s).nextSeq } := by
  unfold raiseEvent
  split
  · rfl
  · split
    · rfl
    · dsimp only
      split
      · rfl
      · split <;> rfl

/-- Setting a penalty changes the line and may mark block 0. -/
theorem setPenalty_only (n p : Nat) (s : State) :
    setPenalty n p s = { s with lines := (setPenalty n p s).lines, marks := (setPenalty n p s).marks } := by
  simp only [setPenalty]
  split <;> rfl

/-- Writing the lockout changes it and may mark blocks 0 to 2. -/
theorem setLockout_only (lo : Lockout) (s : State) :
    setLockout lo s = { s with lockout := lo, marks := (setLockout lo s).marks } := by
  simp only [setLockout]
  split <;> split <;> rfl

/-- Writing the Frame Clock changes it and may mark block 0. -/
theorem setClock_only (c : FrameClock) (s : State) :
    setClock c s = { s with clock := c, marks := (setClock c s).marks } := by
  simp only [setClock]
  split <;> rfl

/-! ### Time -/

/-- The model's test that time may pass says what the statements mean by it (assumption 4). -/
theorem mayPass_iff (d : Nat) (s : State) : mayPass d s = true ↔ Soonest d s := by
  have hf : (∀ l ∈ (List.range 10).filterMap (filterLeft s), d ≤ l) ↔
      ∀ n, n < 10 → s.rst = false → (lineOf s n).filter = .pressing ∨ (lineOf s n).filter = .releasing →
        d ≤ (lineOf s n).timer := by
    simp only [List.mem_filterMap, List.mem_range, filterLeft, filterCounts]
    constructor
    · intro h n hn hr hc
      exact h _ ⟨n, hn, by rcases hc with hc | hc <;> simp [hr, hc]⟩
    · rintro h l ⟨n, hn, hl⟩
      simp only [Option.ite_none_right_eq_some, Option.some.injEq, Bool.and_eq_true, Bool.or_eq_true, beq_iff_eq,
        Bool.not_eq_true'] at hl
      exact hl.2 ▸ h n hn hl.1.2 hl.1.1
  have hp : (∀ l ∈ (List.range 8).filterMap (fun n => (lineOf s n).penalty), d ≤ l) ↔
      ∀ n p, n < 8 → (lineOf s n).penalty = some p → d ≤ p := by
    simp only [List.mem_filterMap, List.mem_range]
    exact ⟨fun h n p hn hq => h p ⟨n, hn, hq⟩, fun h l ⟨n, hn, hq⟩ => h n l hn hq⟩
  have hg : (∀ l ∈ (gapLeft s).toList, d ≤ l) ↔ (s.clock.state = .relocking → d ≤ s.clock.gap) := by
    unfold gapLeft
    split <;> simp_all
  simp only [mayPass, timesLeft, List.all_eq_true, decide_eq_true_eq, List.mem_append, List.mem_cons, or_imp, forall_and,
    hf, hp, hg, forall_eq, Soonest, and_assoc]

/-- A timed command comes about where its time may pass. -/
theorem afterTime_next {d : Nat} {s : State} (event : State → State) (h : Soonest d s) :
    afterTime d event s = .next (arbitrate (event (elapse d s))) := if_pos ((mayPass_iff d s).mpr h)

/-- It changes nothing where another timer runs out sooner. -/
theorem afterTime_early {d : Nat} {s : State} (event : State → State) (h : ¬ Soonest d s) : afterTime d event s = .next s :=
  if_neg (mt (mayPass_iff d s).mp h)

/-! ### The end of a shadowed write -/

/-- A write that does not outlast a reset merges. -/
theorem endMerge_of_merges {s : State} {m : PortMerge} (h : Merges s m) : endMerge m s = performMerge m s := by
  unfold endMerge outlastsReset
  rcases h.2 with h | h <;> simp [h]

/-- One that outlasts it reaches memory alone. -/
theorem endMerge_of_outlasts {s : State} {m : PortMerge} (h : OutlastsReset s m) : endMerge m s = memoryWord m s := by
  unfold endMerge outlastsReset
  simp [h.2.2, Option.isSome_iff_ne_none, h.2.1]

/-! ### The Voice Engine's operations -/

/-- The access on the port is the same, or it is a burst that has turned stale (R154). -/
def PortStands (s t : State) : Prop :=
  t.port = s.port ∨ ∃ b, s.port = some (.burst b) ∧ t.port = some (.burst { b with stale := true })

theorem PortStands.trans {s t u : State} (h1 : PortStands s t) (h2 : PortStands t u) : PortStands s u := by
  rcases h1 with h1 | ⟨b, hb, h1⟩
  · unfold PortStands at *
    rwa [h1] at h2
  · rcases h2 with h2 | ⟨c, hc, h2⟩
    · exact .inr ⟨b, hb, h2.trans h1⟩
    · rw [h1] at hc
      injection hc with hc
      injection hc with hc
      exact .inr ⟨b, hb, by rw [h2, ← hc]⟩

/-- A free port stays free. -/
theorem PortStands.free_iff {s t : State} (h : PortStands s t) : t.port = none ↔ s.port = none := by
  rcases h with h | ⟨b, hb, h⟩ <;> simp_all

/-- `t` is `s` but for voices, clips, mirror flags, slots, the pending queue, a burst's stale mark and the draws. -/
def VoiceOnly (s t : State) : Prop :=
  t = { s with
    voices := t.voices, clips := t.clips, mirrorFlags := t.mirrorFlags, mirrorAgain := t.mirrorAgain, slots := t.slots,
    queue := t.queue, lost := t.lost,
    nextSeq := t.nextSeq, port := t.port, draws := t.draws } ∧ PortStands s t

theorem VoiceOnly.refl (s : State) : VoiceOnly s s := ⟨rfl, .inl rfl⟩

theorem VoiceOnly.trans {s t u : State} (h1 : VoiceOnly s t) (h2 : VoiceOnly t u) : VoiceOnly s u := by
  refine ⟨?_, h1.2.trans h2.2⟩
  rw [h2.1, h1.1]

/-- Every part but those of the Voice Engine is then the same. -/
theorem VoiceOnly.same {s t : State} (h : VoiceOnly s t) (p : Part) (hp : p ∉ Part.waiting :: voiceParts) : Same p s t := by
  have hport : Same .port s t := .inr h.2
  have h := h.1
  cases p <;> first
    | exact hport
    | (exfalso; apply hp; simp [voiceParts]; done)
    | (rw [h]; simp [Same, Kept, writeBacksLeft, marksLeft, CopyLeft])

theorem setVoice_only (v : Nat) (x : Voice) (s : State) : VoiceOnly s (setVoice v x s) := ⟨rfl, .inl rfl⟩
theorem setClip_only (c : Nat) (e : ClipEntry) (s : State) : VoiceOnly s (setClip c e s) := ⟨rfl, .inl rfl⟩
theorem setSlot_only (k : Nat) (h : HeadSlot) (s : State) : VoiceOnly s (setSlot k h s) := ⟨rfl, .inl rfl⟩
theorem drawOne_only (s : State) : VoiceOnly s (drawOne s) := ⟨rfl, .inl rfl⟩
theorem raiseUse_only (c : Nat) (s : State) : VoiceOnly s (raiseUse c s) := ⟨rfl, .inl rfl⟩

theorem raise_only (k : EventKind) (a b : Nat) (value : Word) (s : State) : VoiceOnly s (raiseEvent k a b value s) := by
  refine ⟨?_, .inl ?_⟩ <;> rw [raiseEvent_only]

theorem freeSlot_only (k : Nat) (s : State) : VoiceOnly s (freeSlot k s) := ⟨rfl, .inl rfl⟩

theorem dropReader_only (k : Nat) (s : State) : VoiceOnly s (dropReader k s) := by
  simp only [dropReader]
  split
  · exact (setSlot_only _ _ s).trans (freeSlot_only k _)
  · exact setSlot_only _ _ s

theorem leaveSlot_only (v : Nat) (s : State) : VoiceOnly s (leaveSlot v s) := by
  simp only [leaveSlot]
  split
  · exact (setVoice_only _ _ s).trans (dropReader_only _ _)
  · exact VoiceOnly.refl s

theorem staleBurst_only (v : Nat) (s : State) : VoiceOnly s (staleBurst v s) := by
  unfold staleBurst
  split
  · rename_i b h
    split
    · exact ⟨rfl, .inr ⟨b, h, rfl⟩⟩
    · exact VoiceOnly.refl s
  · exact VoiceOnly.refl s

/-- Marking a burst stale changes no grant of the Report Writer. -/
theorem staleBurst_headGranted (v : Nat) (s : State) : headGranted (staleBurst v s) = headGranted s := by
  unfold staleBurst
  split
  · rename_i h
    split <;> simp [headGranted, h]
  · rfl

theorem emptyFifo_only (v : Nat) (s : State) : VoiceOnly s (emptyFifo v s) :=
  (setVoice_only _ _ s).trans (staleBurst_only _ _)

theorem lowerUse_only (c : Nat) (s : State) : VoiceOnly s (lowerUse c s) := by
  simp only [lowerUse]
  split
  · exact (setClip_only _ _ s).trans (raise_only _ _ _ _ _)
  · exact setClip_only _ _ s

/-- An end changes the Voice Engine's parts alone (R140). -/
theorem endVoice_only (v : Nat) (reason : EndReason) (s : State) : VoiceOnly s (endVoice v reason s) :=
  ((((setVoice_only _ _ s).trans (leaveSlot_only _ _)).trans (emptyFifo_only _ _)).trans (raise_only _ _ _ _ _)).trans
    (lowerUse_only _ _)

theorem beginFall_only (v len : Nat) (reason : EndReason) (s : State) : VoiceOnly s (beginFall v len reason s) := by
  simp only [beginFall]
  split
  · exact endVoice_only _ _ s
  · exact setVoice_only _ _ s

theorem releaseVoice_only (len : Voice → Option Nat) (f c : EndReason) (v : Nat) (s : State) :
    VoiceOnly s (releaseVoice len f c v s) := by
  simp only [releaseVoice]
  split
  · split
    · exact VoiceOnly.refl s
    · exact endVoice_only _ _ s
  · split
    · exact VoiceOnly.refl s
    · exact endVoice_only _ _ s
    · exact beginFall_only _ _ _ s
    · exact beginFall_only _ _ _ s
    · exact VoiceOnly.refl s

/-- A fold of operations that each keep the rest keeps the rest. -/
theorem foldl_only {α : Type} (f : State → α → State) (hf : ∀ s a, VoiceOnly s (f s a)) (xs : List α) (s : State) :
    VoiceOnly s (xs.foldl f s) := by
  induction xs generalizing s with
  | nil => exact VoiceOnly.refl s
  | cons a xs ih => exact (hf s a).trans (ih (f s a))

theorem eachVoice_only (p : Nat → Voice → Bool) (f : Nat → State → State) (hf : ∀ v s, VoiceOnly s (f v s)) (s : State) :
    VoiceOnly s (eachVoice p f s) := by
  refine foldl_only _ (fun t v => ?_) _ s
  split
  · exact hf v t
  · exact VoiceOnly.refl t

theorem joinSlot_only (head : Option Nat) (s : State) : VoiceOnly s (joinSlot head s) := by
  cases head
  · exact VoiceOnly.refl s
  · exact setSlot_only _ _ s

/-- The record that a fire sets up is the snapshot (R79, R129). -/
theorem newVoice_snapshot (f : Fire) (head : Option Nat) (s : State) (old : Voice) (points : Nat × Nat) :
    SnapshotTaken f head s old
      (newVoice s f (cueRecord s.shadow f.cue)
        (resolve points (cueRecord s.shadow f.cue) (clipOf s (cueRecord s.shadow f.cue).clip).length) old head) := by
  refine ⟨?_, rfl, rfl, rfl, rfl, rfl, rfl, ?_, rfl, rfl, rfl, rfl, rfl, rfl, rfl, rfl, ?_, rfl, rfl, rfl, rfl, rfl, rfl, rfl, rfl, rfl,
    rfl, rfl, rfl, rfl, rfl, rfl, rfl, rfl, rfl, rfl, rfl, ?_, ?_, rfl, rfl⟩
  · rfl
  · rfl
  · intro h
    have : loopKept (cueRecord s.shadow f.cue) (effectiveEnd (cueRecord s.shadow f.cue)
        (clipOf s (cueRecord s.shadow f.cue).clip).length) = true := h
    simp [newVoice, resolve, this]
    rfl
  · rintro k rfl
    rfl
  · rintro rfl
    rfl

/-- Head start is given from the slot that R130 names. -/
theorem headStart_getsHead (s : State) (c : CueRecord) (points : Nat × Nat) (k : Nat) :
    headStart s c (resolve points c (clipOf s c.clip).length) = some k ↔ GetsHead c s k := by
  have hl : (resolve points c (clipOf s c.clip).length).loop = loops c (clipOf s c.clip) := rfl
  have he : loops c (clipOf s c.clip) = true →
      (resolve points c (clipOf s c.clip).length).le = loopEndOf c (clipOf s c.clip) := fun h => if_pos h
  unfold headStart GetsHead
  rcases h : (clipOf s c.clip).headSlot with _ | j
  · simp [h]
  · have hor : ((resolve points c (clipOf s c.clip).length).loop = false ∨
          (slotOf s j).headLength < (resolve points c (clipOf s c.clip).length).le) ↔
        (loops c (clipOf s c.clip) = true → (slotOf s j).headLength < loopEndOf c (clipOf s c.clip)) := by
      rw [hl]
      by_cases hk : loops c (clipOf s c.clip) = true
      · simp [hk, he hk]
      · simp [hk]
    simp only [hor, h]
    constructor
    · intro e
      split at e
      · injection e with e
        subst e
        exact ⟨rfl, ‹_›⟩
      · cases e
    · rintro ⟨e, hs⟩
      injection e with e
      subst e
      exact if_pos hs

theorem setUp_only (f : Fire) (c : CueRecord) (r : Resolved) (v : Nat) (s : State) : VoiceOnly s (setUp f c r v s) := by
  have h : VoiceOnly s (joinSlot (headStart s c r)
      (raiseUse c.clip (staleBurst v (setVoice v (newVoice s f c r (voiceOf s v) (headStart s c r)) s)))) :=
    (((setVoice_only _ _ s).trans (staleBurst_only _ _)).trans (raiseUse_only _ _)).trans (joinSlot_only _ _)
  simp only [setUp]
  split
  · exact h.trans (raise_only _ _ _ _ _)
  · exact (h.trans (raise_only _ _ _ _ _)).trans (raise_only _ _ _ _ _)

/-- Fire processing changes the Voice Engine's parts alone (R124). -/
theorem processFire_only (f : Fire) (s : State) : VoiceOnly s (processFire f s).1 := by
  simp only [processFire]
  split
  · exact VoiceOnly.refl s
  · split
    · exact VoiceOnly.refl s
    · have h : VoiceOnly s
          (chokeStep f.cue (cueRecord s.shadow f.cue) (retriggerStep f.cue (cueRecord s.shadow f.cue) s)) := by
        refine VoiceOnly.trans (t := retriggerStep f.cue (cueRecord s.shadow f.cue) s) ?_ ?_
        · simp only [retriggerStep]
          split
          · exact eachVoice_only _ _ (fun v t => endVoice_only v _ t) s
          · exact VoiceOnly.refl s
        · simp only [chokeStep]
          split
          · exact VoiceOnly.refl _
          · exact eachVoice_only _ _ (fun v t => releaseVoice_only _ _ _ v t) _
      split
      · exact h
      · rename_i v steal _
        refine VoiceOnly.trans (h.trans (drawOne_only _)) ?_
        cases steal
        · exact setUp_only _ _ _ _ _
        · exact (endVoice_only _ _ _).trans (setUp_only _ _ _ _ _)

theorem fireReported_only (f : Fire) (s : State) : VoiceOnly s (fireReported f s) := by
  simp only [fireReported]
  split
  · exact processFire_only f s
  · exact (processFire_only f s).trans (raise_only _ _ _ _ _)

theorem panicRelease_only (fade : Nat) (s : State) : VoiceOnly s (panicRelease fade s) :=
  eachVoice_only _ _ (fun v t => releaseVoice_only _ _ _ v t) s

theorem releaseScope_only (scope number mode length : Nat) (s : State) : VoiceOnly s (releaseScope scope number mode length s) :=
  eachVoice_only _ _ (fun v t => releaseVoice_only _ _ _ v t) s

/-! ### Banks -/

/-- Reading a bank after one of its elements was set. -/
theorem bankGet_bankSet {α : Type} {n : Nat} (xs : Vector α n) (i j : Nat) (a d : α) :
    bankGet (bankSet xs i a) j d = if i = j ∧ j < n then a else bankGet xs j d := by
  unfold bankGet bankSet
  rw [Vector.getElem?_setIfInBounds]
  by_cases h : i = j
  · by_cases hj : j < n <;> simp [h, hj]
  · simp [h]

theorem voiceOf_setVoice (v w : Nat) (x : Voice) (s : State) :
    voiceOf (setVoice v x s) w = if v = w ∧ w < 24 then x else voiceOf s w := bankGet_bankSet ..

theorem clipOf_setClip (c d : Nat) (e : ClipEntry) (s : State) :
    clipOf (setClip c e s) d = if c = d ∧ d < 128 then e else clipOf s d := bankGet_bankSet ..

theorem slotOf_setSlot (k j : Nat) (h : HeadSlot) (s : State) :
    slotOf (setSlot k h s) j = if k = j ∧ j < 8 then h else slotOf s j := bankGet_bankSet ..

theorem lineOf_setLine (n j : Nat) (l : Line) (s : State) :
    lineOf (setLine n l s) j = if n = j ∧ j < 10 then l else lineOf s j := bankGet_bankSet ..

theorem timerOf_setTimer (t j : Nat) (x : CueTimer) (s : State) :
    timerOf (setTimer t x s) j = if t = j ∧ j < 4 then x else timerOf s j := bankGet_bankSet ..

theorem busOf_setBus (b j : Nat) (x : Bus) (s : State) :
    busOf (setBus b x s) j = if b = j ∧ j < 4 then x else busOf s j := bankGet_bankSet ..

/-! ### The grant -/

theorem refreshOffer_only (s : State) : refreshOffer s = { s with offer := (refreshOffer s).offer } := by
  unfold refreshOffer
  dsimp only
  split
  · split
    · rfl
    · split <;> rfl
  · split
    · rfl
    · split <;> rfl

/-! A grant puts its access on a free port and takes what `Kept` says of that access. -/

/-- A step that leaves all but the places of a grant's room keeps a part where it keeps those. -/
theorem kept_of_room {g : Option PortAccess} {p : Part} {s t : State} (hp : p ≠ .port) (hs : p ≠ .stale)
    (h : t = { s with
      port := t.port, offer := t.offer, boardCopy := t.boardCopy, marks := t.marks, mirrorAgain := t.mirrorAgain,
      writeBacks := t.writeBacks, voices := t.voices })
    (hw : Kept g .writeBacks s t) (hm : Kept g .marks s t) (ha : t.mirrorAgain = againLeft g s.mirrorAgain)
    (hc : Kept g .copy s t) (hv : Kept g .voices s t) : Kept g p s t := by
  cases p <;> first
    | contradiction
    | exact hw
    | exact hm
    | exact hc
    | exact hv
    | exact ⟨by rw [h], ha⟩
    | (rw [h]; simp [Kept])

/-- A voice record that a grant writes is the one the frame expects, and no other voice changes. -/
theorem voices_of_setVoice {g : Option PortAccess} {v : Nat} {y : Voice} {s : State} (hv : v < 24)
    (hg : servedVoice g v (voiceOf s v) = y) (ho : ∀ w, w ≠ v → ∀ x, servedVoice g w x = x) (w : Nat) :
    voiceOf (setVoice v y s) w = servedVoice g w (voiceOf s w) := by
  rw [voiceOf_setVoice]
  by_cases h : v = w
  · subst h
    simp [hv, hg]
  · simp [h, ho w (Ne.symm h)]

/-- A burst granted keeps every part as the frame has it. -/
theorem grantVoice_kept (v : Nat) (s : State) (hv : v < 24) (p : Part) (hp : p ≠ .port) (hs : p ≠ .stale) :
    Kept (grantVoice v s).port p s (grantVoice v s) :=
  kept_of_room hp hs rfl rfl rfl rfl rfl (voices_of_setVoice (y := { voiceOf s v with
    inFlight := burstLength (voiceOf s v)
    fetchPos := wrapPos (voiceOf s v) ((voiceOf s v).fetchPos + burstLength (voiceOf s v)) }) hv
    (by simp [grantVoice, servedVoice, wrapPos]) (fun w hw x => by simp [grantVoice, servedVoice, hw.symm]))

/-- A voice beyond the bank has the blank record. -/
theorem voiceOf_beyond {v : Nat} (s : State) (hv : ¬ v < 24) : voiceOf s v = Voice.blank := by
  simp [voiceOf, bankGet, hv]

/-- A report write granted keeps every part as the frame has it. -/
theorem grantReport_kept (k : ReportKind) (s : State) (p : Part) (hp : p ≠ .port) (hs : p ≠ .stale) :
    Kept (grantReport k s).port p s (grantReport k s) := by
  rcases k with _ | slot | off | i | c | ⟨v, _ | q⟩
  case board.zero =>
    refine kept_of_room hp hs rfl rfl rfl rfl ⟨_, rfl⟩ (fun w => ?_)
    change voiceOf (setVoice v { voiceOf s v with boardFlag := false } s) w = if v = w then _ else _
    rw [voiceOf_setVoice]
    by_cases h : v = w
    · subst h
      by_cases hv : v < 24
      · simp [hv]
      · simp [hv, voiceOf_beyond, Voice.blank]
    · simp [h]
  all_goals exact kept_of_room hp hs rfl rfl rfl rfl rfl (fun _ => rfl)

/-- The first of a list by a rank is in the list. -/
theorem foldl_firstBy_mem (less : Nat → Nat → Bool) (a : Nat) (xs : List Nat) : xs.foldl (firstBy less) a ∈ a :: xs := by
  induction xs generalizing a with
  | nil => simp
  | cons x xs ih =>
    have h := ih (firstBy less a x)
    rw [List.foldl_cons]
    unfold firstBy at h ⊢
    split at h <;> simp_all only [List.mem_cons] <;> tauto

/-- The voices that request a burst are among the 24. -/
theorem fetchRequest_voice {s : State} {v : Nat} (h : fetchRequest s = some (.voice v)) : v < 24 := by
  unfold fetchRequest at h
  split at h
  · rename_i w hb
    injection h with h
    injection h with h
    subst h
    unfold bestOf at hb
    split at hb
    · cases hb
    · rename_i a xs hx
      injection hb with hb
      have : w ∈ requesters s := by
        rw [hx, ← hb]
        exact foldl_firstBy_mem _ _ _
      simp [requesters, indices] at this
      exact this.1
  · simp at h

/-- What a request of the list is granted keeps every part as the frame has it. -/
theorem grant_kept (r : Requester) (s : State) (hr : ∀ v, r = .fetcher (.voice v) → v < 24) (hf : s.port = none) (p : Part)
    (hp : p ≠ .port) (hs : p ≠ .stale) : Kept (grant r s).port p s (grant r s) := by
  rcases r with i | f | k | _
  · simp only [grant, grantSweep]
    split
    · exact kept_of_room hp hs rfl rfl rfl rfl rfl (fun _ => rfl)
    · rw [hf]
      exact same_refl p s
  · rcases f with v | k
    · exact grantVoice_kept v s (hr v rfl) p hp hs
    · exact kept_of_room hp hs rfl rfl rfl rfl rfl (fun _ => rfl)
  · exact grantReport_kept k s p hp hs
  · exact kept_of_room hp hs rfl rfl rfl rfl rfl (fun _ => rfl)

/-- A request chosen is one of those present. -/
theorem chosen_mem {aside : Bool} {rs : List Requester} {r : Requester} (h : chosen aside rs = some r) : r ∈ rs := by
  unfold chosen at h
  split at h
  · rename_i x xs hx
    injection h with h
    subst h
    cases aside
    · simp at hx
    · have : x ∈ rs.filter (fun r => !isSweep r) := by
        simp only [if_true] at hx
        rw [hx]; simp
      exact (List.mem_filter.mp this).1
  · exact List.mem_of_mem_head? h

/-- A burst granted is not stale. -/
theorem grant_burst {r : Requester} {s : State} {b : Burst} (hf : s.port = none) (h : (grant r s).port = some (.burst b)) :
    b.stale = false := by
  rcases r with i | f | k | _
  · simp only [grant, grantSweep] at h
    split at h
    · cases h
    · simp [hf] at h
  · rcases f with v | k <;> simp [grant, grantVoice, grantFill] at h
    rw [← h]
  · simp [grant, grantReport] at h
  · simp [grant] at h

/-- The grant that follows a step: at a free port it keeps every part as the frame has it, and puts no stale burst there. -/
theorem arbitrateAside_kept (aside : Bool) (s : State) (hf : s.port = none) :
    (∀ p, p ≠ .port → p ≠ .stale → Kept (arbitrateAside aside s).port p s (arbitrateAside aside s)) ∧
      ∀ b, (arbitrateAside aside s).port = some (.burst b) → b.stale = false := by
  have hfree : (refreshOffer s).port = none := by rw [refreshOffer_only]; exact hf
  have h : ∀ p, Same p s (refreshOffer s) := by
    intro p
    rw [refreshOffer_only]
    exact same_refl p s
  have idle : (∀ p, p ≠ .port → p ≠ .stale → Kept (refreshOffer s).port p s (refreshOffer s)) ∧
      ∀ b, (refreshOffer s).port = some (.burst b) → b.stale = false := by
    rw [hfree]
    exact ⟨fun p _ _ => h p, fun b hb => by cases hb⟩
  simp only [arbitrateAside]
  split
  · exact idle
  · split
    · rename_i r hr
      refine ⟨fun p hp hs => kept_of_same hp hs (h p) (grant_kept r _ (fun v hv => ?_) hfree p hp hs), fun b hb => grant_burst hfree hb⟩
      subst hv
      have := chosen_mem hr
      simp only [requestsPresent, List.mem_append, Option.mem_toList] at this
      apply fetchRequest_voice (s := refreshOffer s)
      rcases this with ((((h | h) | h) | h) | h) | h
      · simp at h
      · split at h <;> simp_all
      · split at h <;> simp_all
      · split at h <;> simp_all
      · split at h <;> simp_all
      · split at h <;> simp_all
    · exact idle

/-- At a port that is taken it changes nothing a frame speaks of. -/
theorem arbitrateAside_taken (aside : Bool) (s : State) (hf : s.port ≠ none) :
    arbitrateAside aside s = { s with offer := (refreshOffer s).offer } := by
  have : (refreshOffer s).port.isSome = true := by
    rw [refreshOffer_only]
    exact Option.isSome_iff_ne_none.mpr hf
  simp only [arbitrateAside, this, Bool.true_or, if_true]
  exact refreshOffer_only s

/-- The frame of a step: its body leaves every part outside `ps` the same, and the port is free behind it where it was free or the
step ends the access there. -/
theorem unchangedBut_arbitrate {ps : List Part} {s u : State} (aside : Bool) (h : ∀ p, p ∉ ps → Same p s u)
    (hport : u.port = none ↔ s.port = none ∨ Part.port ∈ ps) : unchangedBut ps s (arbitrateAside aside u) := by
  intro p hp
  unfold granted
  by_cases hf : u.port = none
  · rw [if_pos (hport.mp hf)]
    have hk := arbitrateAside_kept aside u hf
    by_cases hpp : p = .port
    · subst hpp
      exact .inl ((hport.mp hf).resolve_right hp)
    · by_cases hps : p = .stale
      · subst hps
        intro b _ hb
        exact absurd (hk.2 _ hb) (by simp)
      · exact kept_of_same hpp hps (h p hp) (hk.1 p hpp hps)
  · rw [if_neg (mt hport.mpr hf), arbitrateAside_taken aside u hf]
    have hs := h p hp
    cases p <;> exact hs

/-- The same for the ordinary grant. -/
theorem unchangedBut_arbitrated {ps : List Part} {s u : State} (h : ∀ p, p ∉ ps → Same p s u)
    (hport : u.port = none ↔ s.port = none ∨ Part.port ∈ ps) : unchangedBut ps s (arbitrate u) :=
  unchangedBut_arbitrate false h hport

/-- A grant alone is a frame without parts. -/
theorem arbitrate_frame (s : State) : unchangedBut [] s (arbitrate s) :=
  unchangedBut_arbitrated (fun p _ => same_refl p s) (by simp)

/-- A grant leaves RST#. -/
theorem arbitrate_rst (s : State) : (arbitrate s).rst = s.rst := (arbitrate_frame s .settings (by simp)).1

end Sys2Proof.Machine
end

