-- ==== Sys2Proof/WellFormed.lean ====
section
/-!
DEFINITION. Well-formed commands: the checks on a command that stand before any state is looked at.
-/

namespace Sys2Proof

/-- Controller accesses are words on 4-byte boundaries (R5). -/
def aligned (addr : BitVec 28) : Bool := addr.toNat % 4 == 0

/-- The number of a task is one the part has. -/
def FrameTask.wf : FrameTask → Bool
  | .voice v => decide (v < 24)
  | .follow v => decide (v < 24)
  | .bus b => decide (b < 4)
  | .timer t => decide (t < 4)
  | .clock => true

/-- An order names tasks the part has, each once. -/
def FrameChoice.wf (c : FrameChoice) : Bool :=
  c.first.all FrameTask.wf && c.later.all FrameTask.wf && decide c.first.Nodup && decide c.later.Nodup

/-- A write that is judged enables a lane: one with none is NO_LANE_WRITE (R13). -/
def someLane (lanes : Lanes) : Bool := lanes != 0

/-- Well-formed commands. -/
def Instr.wf : Instr → Bool
  | .powerOn _ => true
  | .rstAssert => true
  | .rstRelease _ => true
  | .sweepWrite => true
  | .plainAccess write addr lanes _ => aligned addr && (!write || someLane lanes)
  | .controlRegionRead addr => aligned addr
  | .memoryAccessEnd => true
  | .noLaneWrite addr _ => aligned addr
  | .reportAreaWrite addr lanes _ => aligned addr && someLane lanes
  | .clipExtentWrite addr lanes _ => aligned addr && someLane lanes
  | .loadWindowWrite addr lanes _ => aligned addr && someLane lanes
  | .convertedWriteHalfEnd => true
  | .verifyRead addr => aligned addr
  | .verifyReadHalfEnd => true
  | .shadowedWriteArrival addr lanes _ => aligned addr && someLane lanes
  | .shadowWrite => true
  | .rdWrite => true
  | .lwbWrite => true
  | .lineModeWrite => true
  | .polarityWrite => true
  | .timerPreloadWrite => true
  | .clockPreferenceWrite => true
  | .boardIntervalWrite => true
  | .cueLevelEdit => true
  | .unknownCommand => true
  | .fire => true
  | .release => true
  | .lockArm => true
  | .lockRearm => true
  | .lockReset => true
  | .timerStart => true
  | .timerStop => true
  | .loadOpen => true
  | .loadClose => true
  | .loadAbort => true
  | .clipDiscard => true
  | .pin => true
  | .unpin => true
  | .meterClear => true
  | .resultWrite => true
  | .clampWriteBack => true
  | .eventRecordWrite => true
  | .statusBlockWrite => true
  | .directoryMirrorWrite => true
  | .voiceBoardQuarterWrite => true
  | .fetchBurstLand => true
  | .headFillBurstLand => true
  | .lineEdge _ _ _ => true
  | .filterTimerExpiry _ => true
  | .penaltyEnd _ => true
  | .timerExpiry _ => true
  | .boardIntervalExpiry => true
  | .frameTimerExpiry order => order.wf
  | .wclkEdge _ order => order.wf
  | .gapTimerExpiry => true

end Sys2Proof
end

