-- ==== Sys2Proof/Tests/Slice0.lean ====
section
/-!
SUPPORT. Tests. Expected values are the manual's: its worked examples (named by section in each comment), its tables, or hand
calculation from its rules. `witness_…` theorems show states and operands that meet the hypotheses of a statement, clause by
clause where it has several.
-/

section

set_option Elab.async false

namespace Sys2Proof.Tests

open Sys2Proof Sys2Proof.Machine

/-! ### Small states -/

/-- The state a step leaves. -/
def nextOf : Outcome → Option State
  | .next t => some t
  | _ => none

/-- An event record as numbers: kind code, subject A, subject B, value, repeats. -/
def shown (r : EventRecord) : List Nat := [r.kind.code, r.subjectA.toNat, r.subjectB.toNat, r.value.toNat, r.repeats]

/-- The part after its sweep, strapped with CRB 0. -/
def base : State := { State.reset with sweep := none, port := none, deckClear := false }

/-- The part after its sweep, strapped with another CRB. -/
def strapped (crb : Nat) : State := { base with crb := crb, shadow := defaultSetup crb }

/-- A READY clip. -/
def readyClip (channels addr length : Nat) : ClipEntry := ⟨.ready, channels, addr, 0, length, 0, 0, .notChecked, 0, none⟩

/-- Words of the shadow from an offset upward. -/
def withWords (off : Nat) : List Word → State → State
  | [], s => s
  | w :: ws, s => withWords (off + 4) ws { s with shadow := writeLanes s.shadow off 0xF w }

/-- A cue record: its eight words. -/
def withCue (cue : Nat) (ws : List Word) (s : State) : State := withWords (0x1000 + 0x40 * cue) ws s

/-- A shadowed write on the port. -/
def onPortWrite (off : Nat) (lanes : Lanes) (data : Word) (v : Verdict) (s : State) : State :=
  { s with held := some ⟨⟨regionAddr s off, true, lanes, data⟩, some (.shadowed off lanes v)⟩, port := some .controller }

/-- The merge of that write. -/
def mergeOf (off : Nat) (lanes : Lanes) (data : Word) (v : Verdict) (s : State) : PortMerge :=
  ⟨⟨regionAddr s off, true, lanes, data⟩, off, lanes, v⟩

/-- The trigger of a command byte with sequence number 1. -/
def triggerWord (byte : Nat) : Word := BitVec.ofNat 32 (1 + 0x10000 * byte)

/-- A taken trigger in slot 0 on the port, with its argument words in the shadow. -/
def taking (byte : Nat) (w1 w2 w3 : Word) (s : State) : State :=
  onPortWrite 0x5000 7#4 (triggerWord byte) .taken (withWords 0x5004 [w1, w2, w3] s)

/-- Its merge. -/
def taken (byte : Nat) : PortMerge := ⟨⟨0x5000, true, 7#4, triggerWord byte⟩, 0x5000, 7#4, .taken⟩

/-- A sounding voice with frames to give. -/
def steadyVoice (cue clip : Nat) : Voice :=
  { Voice.blank with
    state := .steady, cue := cue, clip := clip, channels := 2, effEnd := 1000, due := 10, lc := 4096, lt := 4096,
    lastEnv := 4096, sounded := true, mask := 1#4, fo := 3, fifo := [⟨⟨100, 200⟩, 10, 0⟩], fetchPos := 11 }

/-! ### Well-formed commands: each check refuses an ill-formed term -/

theorem test_wf_aligned : Instr.wf (.controlRegionRead 0x2000004) = true ∧ Instr.wf (.controlRegionRead 0x2000002) = false := by
  decide

theorem test_wf_lanes : Instr.wf (.reportAreaWrite 0x8000 1 0) = true ∧ Instr.wf (.reportAreaWrite 0x8000 0 0) = false ∧
    Instr.wf (.plainAccess false 0 0 0) = true ∧ Instr.wf (.plainAccess true 0 0 0) = false := by decide

theorem test_wf_tasks : Instr.wf (.frameTimerExpiry ⟨[.voice 23, .clock], [.follow 3, .bus 3, .timer 3]⟩) = true ∧
    Instr.wf (.frameTimerExpiry ⟨[.voice 24], []⟩) = false ∧ Instr.wf (.wclkEdge 0 ⟨[], [.follow 24]⟩) = false ∧
    Instr.wf (.wclkEdge 0 ⟨[], [.bus 4]⟩) = false ∧ Instr.wf (.wclkEdge 0 ⟨[], [.timer 4]⟩) = false ∧
    Instr.wf (.wclkEdge 0 ⟨[.voice 1, .voice 1], []⟩) = false ∧ Instr.wf (.wclkEdge 0 ⟨[], [.bus 1, .bus 1]⟩) = false := by decide

/-- The table gives no row any bits, so no word spells a command. -/
theorem test_no_bits : decodeTableWord 8 0 = none ∧ (State.reset.withFetchWord 8 0).pending = [] := by decide

/-! ### The Memory Path (section 1.5) -/

/-- A console strapped with CRB 2, clip 5 READY, clip 6 LOADING in an open P24L session. -/
def console : State :=
  { setClip 5 (readyClip 2 0x4000000 96000) (setClip 6 ⟨.loading, 1, 0x4060000, 48000, 0, 0, 0, .notChecked, 0, none⟩ (strapped 2))
    with session := some ⟨6, .p24l, 1, 0x4060000, 48000, none, 0, 0xFFFF, true, 0⟩ }

/-- The accesses of section 1.5, in its order, but for the dropped word without lanes. -/
theorem test_classes :
    arrivalOf ⟨0x2000004, true, 0xF, 0⟩ console = .shadowed 4 ∧ arrivalOf ⟨0x2008040, true, 0xF, 0⟩ console = .report ∧
    arrivalOf ⟨0x200C010, false, 0, 0⟩ console = .regionRead ∧ arrivalOf ⟨0x2007000, true, 0xF, 0⟩ console = .plain ∧
    arrivalOf ⟨0xE000010, true, 0xF, 0⟩ console = .loadWrite 0x10 ∧ arrivalOf ⟨0x405DBFC, true, 0xF, 0⟩ console = .extent 5 ∧
    arrivalOf ⟨0x405DC00, true, 0xF, 0⟩ console = .plain ∧ arrivalOf ⟨0x4060100, true, 3, 0⟩ console = .extent 6 ∧
    arrivalOf ⟨0x4000000, false, 0, 0⟩ console = .plain := by decide +kernel

/-- Access 5 of section 1.5: frame 4, one memory write to lanes 0–1 of 4060008h. -/
theorem test_load_window_write :
    ((nextOf (exec (.loadWindowWrite 0xE000010 0xF 0x12348000) console)).bind (fun t => t.held)).map (fun h => h.cls) =
      some (some (.converted false [⟨0x4060008, 3#4, 0x1235⟩])) := by decide +kernel

/-- Access 6 of section 1.5: P24L needs all four lanes. -/
theorem test_load_partial :
    (nextOf (exec (.loadWindowWrite 0xE000010 0xC 0) console)).map (fun t => (t.done, t.queue.map (fun r => r.kind), t.port.isSome)) =
      some (true, [.loadPartial], true) := by decide +kernel

/-- Access 2 of section 1.5: the record of a dropped write. -/
theorem test_report_area_write :
    (nextOf (exec (.reportAreaWrite 0x2008040 0xF 0) console)).map (fun t => (t.done, t.queue.map shown)) =
      some (true, [[0x40, 0xFFFF, 15, 0x2008040, 0]]) := by decide +kernel

/-- Access 7 of section 1.5. -/
theorem test_clip_extent_write :
    (nextOf (exec (.clipExtentWrite 0x405DBFC 0xF 0) console)).map (fun t => (t.done, t.queue.map shown)) =
      some (true, [[0x40, 5, 15, 0x405DBFC, 0]]) := by decide +kernel

/-! ### Loading (section 3.8) -/

/-- The session of section 3.8 as LOAD_OPEN leaves it. -/
def testLoad : Session := ⟨12, .p24l, 2, 0x2000000, 96000, none, 0, 0xFFFF, true, 0⟩

/-- Events 1 and 2 of section 3.8. -/
theorem test_load_totals :
    countWrite testLoad 0 0xF 0x123480A5 = { testLoad with highest := some 0, peak := 4661, crc := 0xD51C, nextOffset := 4 } ∧
    countWrite { testLoad with highest := some 0, peak := 4661, crc := 0xD51C, nextOffset := 4 } 4 0xF 0x80000017 =
      { testLoad with highest := some 0, peak := 32768, crc := 0xA8E7, nextOffset := 8 } := by decide +kernel

/-- Events 5 and 6 of section 3.8: the order breaks where an offset is skipped. -/
theorem test_load_order :
    countWrite { testLoad with highest := some 0, peak := 32768, crc := 0xA8E7, nextOffset := 8 } 8 0xF 0x7FFFFF00 =
      { testLoad with highest := some 1, peak := 32768, crc := 0x9599, nextOffset := 12 } ∧
    countWrite { testLoad with highest := some 1, peak := 32768, crc := 0x9599, nextOffset := 12 } 0x10 0xF 0 =
      { testLoad with highest := some 2, peak := 32768, crc := 0xF58E, orderGood := false, nextOffset := 20 } ∧
    outOfRange testLoad 0xBB800 0xF = true ∧ outOfRange testLoad 0xBB7FC 0xF = false := by decide +kernel

/-- The stored samples of section 3.2's other packings, and their returns: PU8 0 is −32768 and 255 is 32512, P12R 800h is
−32768. -/
theorem test_conversions :
    storedSample .pu8 0x0000FF00 0 = 0x8000 ∧ storedSample .pu8 0x0000FF00 1 = 0x7F00 ∧ storedSample .p12r 0xF7FF0800 0 = 0x8000 ∧
    storedSample .p12r 0xF7FF0800 2 = 0x7FF0 ∧ returnedSample .p12r 0x8000 = 0xF800 ∧ returnedSample .pu8 0x8000 = 0 ∧
    returnedSample .p24l 0x1235 = 0x12350000 ∧ storedSample .p24l 0x7FFFFF00 0 = 0x7FFF := by decide

/-- Event 8 of section 3.8: the entry and LOAD_DONE. -/
theorem test_load_close :
    (nextOf (exec .loadClose
      (taking 0x21 1 0 0 { setClip 12 ⟨.loading, 2, 0x2000000, 96000, 0, 0, 0, .notChecked, 0, none⟩ base with
        session := some { testLoad with highest := some 2, peak := 32768, crc := 0xF58E, orderGood := false } }))).map
      (fun t => (clipOf t 12, t.queue.map shown)) =
      some (⟨.faulty, 2, 0x2000000, 0, 3, 32768, 0xF58E, .order, 0, none⟩, [[0x30, 12, 3, 3, 0]]) := by
  decide +kernel

/-- Event 0 of section 3.8. -/
theorem test_load_open :
    (nextOf (exec .loadOpen (taking 0x20 0x0002010C 0x2000000 96000 base))).map (fun t => (t.session, (clipOf t 12).state)) =
      some (some testLoad, .loading) := by decide +kernel

/-! ### The Control Region (section 2.9, CRB 2) -/

/-- Event 1 of section 2.9: the interval is withheld, the write-back of 256 granted at the free port. -/
theorem test_clamp_withheld :
    (nextOf (exec (.shadowedWriteArrival 0x2000004 0xC 0x00640000) (strapped 2))).map
      (fun t => (t.done, t.port, boardInterval t.shadow)) =
      some (true, some (.report (.clamp 6) 0x2000006 [0, 1] false), 4800) := by decide +kernel

/-- Event 2 of section 2.9: the trim is held for the port, the depth write-back handed over. -/
theorem test_clamp_beside_legal :
    (nextOf (exec (.shadowedWriteArrival 0x2000050 0xF 0x13880C00) (strapped 2))).map (fun t => (t.held, t.writeBacks)) =
      some (some ⟨⟨0x2000050, true, 0xF, 0x13880C00⟩, some (.shadowed 0x50 3#4 .data)⟩, [⟨0x52, 2, 4096⟩]) := by decide +kernel

/-- Event 5 of section 2.9: LWB 1 is refused with PLAY. -/
theorem test_setup_refused :
    (nextOf (exec (.shadowedWriteArrival 0x2000000 3 0x00000101) (strapped 2))).map
      (fun t => (t.done, t.queue.map shown, play t.shadow)) = some (true, [[0x41, 1, 3, 0x101, 0]], false) := by decide +kernel

/-- Event 4 of section 2.9: the merge of the depth cancels its write-back. -/
theorem test_merge_cancels :
    (nextOf (exec .shadowWrite { onPortWrite 0x50 0xC 0x08000000 .data (strapped 2) with writeBacks := [⟨0x52, 2, 4096⟩] })).map
      (fun t => (duckDepth t.shadow 0, readLe t.mem 0x2000052 2, t.writeBacks.length)) = some (2048, 2048, 0) := by decide +kernel

/-- The default words of section 2.2, and LWB 6 at CRB 14 and 15 (R3). -/
theorem test_defaults :
    lwb (defaultSetup 13) = 7 ∧ lwb (defaultSetup 14) = 6 ∧ lwb (defaultSetup 15) = 6 ∧ glitch (defaultSetup 0) = 100 ∧
    boardInterval (defaultSetup 0) = 4800 ∧ rideStep (defaultSetup 0) = 64 ∧ earlyPenalty (defaultSetup 0) = 25000 ∧
    panicFade (defaultSetup 0) = 2400 ∧ trim (defaultSetup 0) 3 = 4096 ∧ duckDepth (defaultSetup 0) 3 = 1024 ∧
    duckDown (defaultSetup 0) 3 = 16 ∧ duckUp (defaultSetup 0) 3 = 4 ∧ talkDuck (defaultSetup 0) 1 = true ∧
    talkDuck (defaultSetup 0) 2 = false := by decide +kernel

/-! ### Cues and fires (section 5.6) -/

/-- Clips 20 and 30 of section 5.6. -/
def stings : State := setClip 20 (readyClip 2 0x2000000 36000) (setClip 30 (readyClip 1 0x3000000 1440000) base)

/-- Cue 41 of section 5.6, routed to PGM, and a FIRE of it. -/
def fireOf41 : State :=
  taking 0x01 41 0 0 (withCue 41 [0x10001401, 0, 0, 0, 30000, 40000, 0x00010001, 0] stings)

/-- Cue 41 of section 5.6: the loop end is clamped to 36000, and CUE_ADJUSTED 4 stands before CUE_START. -/
theorem test_fire :
    (nextOf (exec .fire fireOf41)).map (fun t => ((voiceOf t 0).le, (voiceOf t 0).state, t.queue.map shown)) =
      some (36000, .priming, [[0x13, 41, 0, 4, 0], [0x10, 41, 0, 0x140000, 0]]) := by decide +kernel

/-- Cues 40 and 43 of section 5.6. -/
theorem test_resolution :
    let c := (cueRecord [] 0)
    let c40 := { c with level := 9000, stop := 2000000, loopEnable := true, ls := 48000 }
    let c43 := { c with loopEnable := true, ls := 20000, le := 12000, tail := true, fo := 4800 }
    resolve (0, 0) c40 1440000 = ⟨1440000, true, 48000, 1440000, 8192, 3⟩ ∧
    (resolve (0, 0) c43 36000).loop = false ∧ (resolve (0, 0) c43 36000).adjusted = 8 ∧
    tailPosition { Voice.blank with effEnd := 36000, fo := 4800 } = 31200 := by decide +kernel

/-- Cues 42, 45 and 46 of section 5.6, each alone: CUE_RANGE, CUE_NOT_ARMED, NO_ROUTE; and the last as PREVIEW passes. -/
theorem test_fire_refusals :
    let c := { cueRecord [] 0 with armed := true, clip := 20, mask := 1#4 }
    fireChecks ⟨.ring, 0, 42, false⟩ { c with start := 10000, stop := 8000 } stings = some .cueRange ∧
    fireChecks ⟨.ring, 0, 45, false⟩ { c with armed := false, start := 50000 } stings = some .cueNotArmed ∧
    fireChecks ⟨.ring, 0, 46, false⟩ { c with mask := 0 } stings = some .noRoute ∧
    fireChecks ⟨.ring, 0, 46, true⟩ { c with mask := 0 } stings = none ∧
    fireChecks ⟨.ring, 0, 41, false⟩ { c with clip := 21 } stings = some .clipNotReady := by decide +kernel

/-- Section 5.7, events 1 to 5: 16 frames at step 64 take 1024 off; the level 10000 rides to 8192. -/
theorem test_level_edit :
    (nextOf (exec .cueLevelEdit (onPortWrite 0x1A00 0xC 0x27100000 .data
      (setVoice 3 (steadyVoice 40 30) (setVoice 5 (steadyVoice 41 30) base))))).map
      (fun t => ((voiceOf t 3).lt, (voiceOf t 3).lc, (voiceOf t 5).lt)) = some (8192, 4096, 4096) ∧
    rideLevel 64 4096 2048 = 4032 ∧ rideLevel 64 2100 2048 = 2048 ∧ rideLevel 0 4096 2048 = 2048 := by decide +kernel

/-! ### The Trigger Ring (section 6.6, CRB 1) -/

/-- Event 3 of section 6.6: the value of RING_SEQ. -/
theorem test_ring_seq :
    (nextOf (exec .shadowWrite
      { onPortWrite 0x5010 7#4 0x00300003 .misplaced (strapped 1) with expSlot := 1, expSeq := 2 })).map
      (fun t => (t.expSlot, t.expSeq, t.queue.map shown)) = some (1, 2, [[0x42, 1, 3, 0x30010002, 0]]) := by decide +kernel

/-- A trigger at slot E with sequence number S is taken, any other is not (section 6.6, events 2 and 3). -/
theorem test_trigger_verdicts :
    ringVerdict base 0x5000 ⟨0x5000, true, 7#4, 0x00010001⟩ = .taken ∧
    ringVerdict base 0x5010 ⟨0x5010, true, 7#4, 0x00010001⟩ = .misplaced ∧
    ringVerdict base 0x5000 ⟨0x5000, true, 7#4, 0x00010002⟩ = .misplaced ∧
    ringVerdict base 0x5000 ⟨0x5000, true, 3#4, 0x00010001⟩ = .data ∧
    ringVerdict base 0x5004 ⟨0x5004, true, 0xF, 0x00010001⟩ = .data := by decide +kernel

/-- Event 5 of section 6.6: METER_CLEAR of PGM, the Intake's values, the result and lane 3. -/
theorem test_meter_clear :
    (nextOf (exec .meterClear (taking 0x30 1 0 0 (setBus 0 { Bus.blank with clips := 9 } base)))).map
      (fun t => ([(busOf t 0).clips, t.expSlot, t.expSeq, t.lastSeq, byteAt t.shadow 0x5003], t.results)) =
      some ([0, 1, 2, 1, 0], [(0, .done)]) := by decide +kernel

/-- A command byte without a meaning (R97), and the sequence number that wraps from 65535 to 1 (R91). -/
theorem test_unknown_command :
    (nextOf (exec .unknownCommand { taking 0x7E 0 0 0 base with expSeq := 65535 })).map (fun t => (t.results, t.expSeq)) =
      some ([(0, .badCommand)], 1) := by decide +kernel

/-- Event 4 of section 6.6: the result byte is written. -/
theorem test_result_write :
    (nextOf (exec .resultWrite
      { base with results := [(0, .done)], port := some (.report (.result 0) 0x5003 [1] false) })).map
      (fun t => (t.results, byteAt t.shadow 0x5003, readByte t.mem 0x5003)) = some ([], 1, 1) := by decide +kernel

/-! ### Lines, lockout, timers (section 7.6) -/

/-- BZ1 in LOCKOUT mode, active low, with bound cue 21; its press is due; the lockout armed 31250 line units ago. -/
def round : State :=
  { setLine 1 ⟨false, .pressing, 0, none, none⟩ (withWords 0x14 [0x00150001] base) with
    lockout := { Lockout.blank with state := .armed, armClock := 31250 * 120 } }

/-- Event 5 of section 7.6: the reaction time and LOCK_WON; the cue, not armed here, is refused behind it. -/
theorem test_lock_won :
    (nextOf (exec (.filterTimerExpiry 1) round)).map (fun t => (t.lockout.winner, t.lockout.reaction, t.queue.map shown)) =
      some (some 1, 31250, [[0x20, 1, 21, 31250, 0], [0x12, 21, 0x101, 5, 0]]) := by decide +kernel

/-- Event 7 of section 7.6, with BZ1 for BZ0: a late press at place 1 with delay 1840, the whole line units since the win. -/
theorem test_lock_late :
    (nextOf (exec (.filterTimerExpiry 1)
      { round with lockout := { Lockout.blank with state := .locked, winner := some 2, late := [(3, 0)], winClock := 1840 * 120 + 119 } })).map
      (fun t => (t.lockout.late, t.queue.map shown)) = some ([(3, 0), (1, 1840)], [[0x21, 1, 1, 1840, 0]]) := by decide +kernel

/-- Event 1 of section 7.6: an early press, penalty 25000. -/
theorem test_lock_early :
    (nextOf (exec (.filterTimerExpiry 1) { round with lockout := Lockout.blank })).map
      (fun t => ((lineOf t 1).penalty, t.queue.map shown)) = some (some (25000 * 120), [[0x22, 1, 0, 25000, 0]]) := by decide +kernel

/-- Event 9 of section 7.6: the winner is barred, the counting WIN timer reloads 240000 and waits. -/
theorem test_lock_rearm :
    (nextOf (exec .lockRearm (taking 0x11 0 0 0 (setTimer 0 ⟨.counting, 19800⟩ (withWords 0x30 [0x00003C03, 240000]
      { base with lockout := { Lockout.blank with state := .locked, winner := some 1, late := [(3, 0)] } }))))).map
      (fun t => (t.lockout, timerOf t 0)) = some (⟨.armed, none, 2#8, [], 0, 0, 0⟩, ⟨.waiting, 240000⟩) := by decide +kernel

/-- A glitch filter of 100 line units: a leading edge starts it with 12000 reference periods, from the edge on, and the press comes
at its expiry, for which no other timer's expiry may be passed over (R102). -/
theorem test_line_edge :
    (nextOf (exec (.lineEdge 8 false 60) base)).map
      (fun t => ((lineOf t 8).filter, (lineOf t 8).timer, t.clock.frameTimer)) = some (.pressing, 12000, 190) ∧
    (nextOf (exec (.filterTimerExpiry 8) (setFilter 8 .pressing 100 base))).map
      (fun t => ((lineOf t 8).filter, t.clock.frameTimer, t.queue.map shown)) = some (.down, 150, [[0x60, 0, 0, 2400, 0]]) ∧
    nextOf (exec (.lineEdge 8 true 101) (setFilter 8 .pressing 100 base)) = some (setFilter 8 .pressing 100 base) := by
  decide +kernel

/-- TIMER_START of a ONE_SHOT timer loads the preload (R117). -/
theorem test_timer_start :
    (nextOf (exec .timerStart (taking 0x18 2 0 0 (withWords 0x44 [500] base)))).map (fun t => timerOf t 2) =
      some ⟨.counting, 500⟩ := by decide +kernel

/-- The frame event that brings a timer to 0 fires it: a REPEAT timer reloads its preload, a HOLD timer is HELD, and the cue, not
armed here, is refused in that same event (R116, R118, R119, R121). -/
theorem test_timer_fires :
    (nextOf (exec (.frameTimerExpiry .plain) (setTimer 2 ⟨.counting, 1⟩ (withWords 0x40 [1, 500] base)))).map
      (fun t => (timerOf t 2, t.queue.map shown)) = some (⟨.counting, 500⟩, [[0x12, 0, 0x202, 5, 0]]) ∧
    (nextOf (exec (.frameTimerExpiry .plain) (setTimer 2 ⟨.counting, 1⟩ (withWords 0x40 [2, 500] base)))).map
      (fun t => timerOf t 2) = some ⟨.held, 0⟩ ∧
    (nextOf (exec (.frameTimerExpiry .plain) (setTimer 2 ⟨.counting, 2⟩ base))).map (fun t => timerOf t 2) =
      some ⟨.counting, 1⟩ := by decide +kernel

/-! ### Voices (sections 8.7, 8.8) -/

/-- A busy voice of section 8.7. -/
def busyVoice (state : VoiceState) (priority lastEnv : Nat) (stamp : BitVec 32) : Voice :=
  { Voice.blank with state := state, priority := priority, lastEnv := lastEnv, stamp := stamp }

/-- The voices of section 8.7. -/
def allBusy : State :=
  setVoice 2 (busyVoice .falling 3 1200 1000) (setVoice 4 (busyVoice .steady 1 4096 5000)
    (setVoice 7 (busyVoice .falling 6 300 2000) (setVoice 9 (busyVoice .steady 1 4096 4000)
      (setVoice 11 (busyVoice .falling 2 300 3000) (setVoice 15 (busyVoice .priming 0 0 19990)
        { base with voices := Vector.replicate 24 (busyVoice .steady 7 4096 0), frameCounter := 20000 })))))

/-- Fires A and D of section 8.7, and fire C with the voices of A and B not falling, fire E with voice 15 gone as well. -/
theorem test_allocation :
    let high := busyVoice .steady 7 4096 0
    let afterB := setVoice 11 high (setVoice 2 high allBusy)
    allocate allBusy 5 = some (11, true) ∧ allocate (setVoice 11 high allBusy) 5 = some (2, true) ∧
    allocate afterB 5 = some (15, true) ∧ allocate (setVoice 15 high afterB) 1 = none ∧
    allocate (setVoice 15 high afterB) 2 = some (9, true) := by decide +kernel

/-- The envelopes of section 8.8. -/
theorem test_envelope :
    let rise := { Voice.blank with state := .rising, fi := 4 }
    let fall := { Voice.blank with state := .falling, er := 4096, fallLength := 3 }
    envelope { rise with n := 3 } = 3072 ∧ envelope { rise with n := 4 } = 4096 ∧ envelope { fall with m := 1 } = 2730 ∧
    envelope { fall with m := 2 } = 1365 ∧ envelope { fall with m := 3 } = 0 ∧
    envelope { fall with er := 2048, m := 1 } = 1365 ∧ envelope { fall with er := 2048, m := 2 } = 682 := by decide

/-- RELEASE FADE of a STEADY voice: FALLING with m 1, Er 4096, fall length 3 (section 8.8); an Fo of 0 ends it RELEASED (R136). -/
theorem test_release :
    (nextOf (exec .release (taking 0x02 0x00000900 0 0 (setVoice 4 (steadyVoice 9 20) base)))).map
      (fun t => ((voiceOf t 4).state, (voiceOf t 4).m, (voiceOf t 4).er, (voiceOf t 4).fallLength)) = some (.falling, 1, 4096, 3) ∧
    (nextOf (exec .release (taking 0x02 0x00000900 0 0 (setVoice 4 { steadyVoice 9 20 with fo := 0 } base)))).map
      (fun t => ((voiceOf t 4).state, t.queue.map shown)) = some (.idle, [[0x11, 9, 4, 0x140A, 0]]) := by decide +kernel

/-! ### Sample Fetch (sections 9.8, 9.10) -/

/-- A voice of section 9.10 with a fill. -/
def filled (state : VoiceState) (n : Nat) : Voice :=
  { Voice.blank with state := state, effEnd := 5000, fifo := List.replicate n ⟨⟨0, 0⟩, 0, 0⟩ }

/-- The voices of section 9.10. -/
def fetching : State :=
  setVoice 2 (filled .priming 0) (setVoice 5 (filled .steady 3) (setVoice 8 (filled .steady 12)
    (setVoice 9 (filled .steady 12) { base with offer := some 1 })))

/-- Grants 1, 2, 3 and 5 of section 9.10, and the head fill last. -/
theorem test_fetch_order :
    fetchRequest fetching = some (.voice 2) ∧
    fetchRequest (setVoice 2 (filled .steady 8) fetching) = some (.voice 5) ∧
    fetchRequest (setVoice 5 (filled .steady 11) (setVoice 2 (filled .steady 8) fetching)) = some (.voice 2) ∧
    fetchRequest (setVoice 5 (filled .steady 19) (setVoice 2 (filled .steady 16) fetching)) = some (.voice 8) ∧
    fetchRequest { base with offer := some 1 } = some (.fill 1) := by decide +kernel

/-- A short burst ends at the loop end and the fetch position wraps to Ls: start 108, Ls 100, Le 110 as in section 9.8. -/
theorem test_burst_wraps :
    let t := grantVoice 6 (setVoice 6 { filled .priming 0 with loop := true, ls := 100, le := 110, fetchPos := 108, epoch := 4 } base)
    (voiceOf t 6).inFlight = 2 ∧ (voiceOf t 6).fetchPos = 100 := by decide +kernel

/-! ### The Mixer (sections 10.5, 10.6) -/

/-- Section 10.5: shares, the ducked sum, the two trims, and the side that clamps. -/
theorem test_mix :
    shareOf 12000 4096 4096 = 12000 ∧ envelope { Voice.blank with state := .rising, n := 127, fi := 254 } = 2048 ∧
    shareOf (-20000) 6144 2048 = -15000 ∧ shareOf (-30000) 8192 4096 = -60000 ∧ trimmed 12000 (-15000) 2048 4096 = -9000 ∧
    trimmed 12000 (-15000) 2048 3072 = -6750 ∧ trimmed 12000 (-75000) 2048 4096 = -69000 ∧ clampSample (-69000) = -32768 := by decide

/-- Section 10.5, the forming of PGM with voice 2: D 2048, out −32768 and −1000, one clamp, BUS_CLIP value −69000. -/
theorem test_form_bus :
    let sums := bankSet (Vector.replicate 4 BusSum.zero) 0 ⟨12000, 12000, -75000, -7000, true⟩
    let t := formBus sums 0 (setBus 0 { Bus.blank with duck := 2064 } base)
    busOf t 0 = ⟨2048, 1, -32768, 6000 - 7000, 0, 0⟩ ∧ t.queue.map shown = [[0x70, 0, 1, 4294898296, 0]] := by decide +kernel

/-- Section 10.6: the first step down, the step that reaches the depth, the first step up and the last. -/
theorem test_duck_steps :
    stepDuck 16 4 1024 4096 = 4080 ∧ stepDuck 16 4 1024 1030 = 1024 ∧ stepDuck 16 4 4096 1024 = 1028 ∧
    stepDuck 16 4 4096 4094 = 4096 := by decide

/-! ### The Frame Clock (sections 10.7, 10.8) -/

/-- The third expiry without an edge in HOUSE: FREERUN with CLOCK_LOST, and the frame is counted (R170). -/
theorem test_clock_lost :
    (nextOf (exec (.frameTimerExpiry .plain) { base with clock := ⟨.house, 250, 4800, 0, 2⟩ })).map
      (fun t => (t.clock.state, t.frameCounter, t.queue.map shown)) = some (.freerun, 1, [[0x50, 0, 0, 3, 0]]) := by decide +kernel

/-- The first edge in FREERUN starts the gap timer at 750 and makes no frame (R167); the 4800th clean period locks (R168). -/
theorem test_relock :
    (nextOf (exec (.wclkEdge 7 .plain) base)).map (fun t => (t.clock, t.frameCounter)) =
      some (⟨.relocking, 243, 0, 750, 0⟩, 0) ∧
    (nextOf (exec (.wclkEdge 250 .plain) { base with clock := ⟨.relocking, 250, 4799, 750, 0⟩ })).map
      (fun t => (t.clock.state, t.frameCounter, t.queue.map (fun r => r.kind.code))) = some (.house, 1, [0x51]) := by decide +kernel

/-! ### Reporting -/

/-- An event record goes to C000h + 10h × W little-endian and raises ATTN (R175, R176). -/
theorem test_event_record :
    (nextOf (exec .eventRecordWrite
      { base with queue := [⟨1, .panicOff, 0, 5, 0, 0, 0⟩], nextSeq := 2,
                  port := some (.report .event 0xC000 (eventBytes ⟨1, .panicOff, 0, 5, 0, 0, 0⟩) false) })).map
      (fun t => (t.w, t.attn, t.queue.length, readBytes t.mem 0xC000 5)) = some (1, true, 0, [1, 0, 0x61, 0, 5]) := by decide +kernel

/-- The first record after a line reset: LINE_RESET with CRB, the clips kept (R36). -/
theorem test_sweep_end :
    (nextOf (exec .sweepWrite { setClip 20 (readyClip 2 0x2000000 36000) (strapped 2) with
      sweep := some 576, port := some (.sweep 0x200A140 (mirrorBytes (readyClip 2 0x2000000 36000)) false) })).map
      (fun t => (t.sweep, t.queue.map shown)) = some (none, [[0x02, 2, 1, 0, 0]]) := by decide +kernel

/-! ### Witnesses: steps, resets, sweep -/

/-- An invariant of the part after its sweep, and a step from it. -/
theorem witness_StepKeepsMemoryForm :
    MemoryForm base ∧ ∃ t, step { base with pending := [.noLaneWrite 0 0] } = .next t := by
  refine ⟨?_, _, rfl⟩
  unfold MemoryForm
  decide +kernel

theorem witness_StepKeepsIntakeForm :
    IntakeForm { base with expSlot := 63, expSeq := 65535, lastSeq := 65534 } ∧ ∃ t, step { base with pending := [.noLaneWrite 0 0] } = .next t := by
  refine ⟨?_, _, rfl⟩
  unfold IntakeForm
  decide +kernel

/-- Sixteen records, the sequence numbers wrapping from 65535 to 0. -/
def fullQueue : State :=
  { base with
    queue := (List.range 16).map (fun i => ⟨BitVec.ofNat 16 (65526 + i), .cueStart, 0, 0, 0, 0, 0⟩)
    nextSeq := 6 }

theorem witness_StepKeepsQueueForm :
    QueueForm fullQueue ∧ ∃ t, step { fullQueue with pending := [.noLaneWrite 0 0] } = .next t := by
  refine ⟨⟨by decide, ?_, by decide, ?_⟩, _, rfl⟩
  · simp only [fullQueue, List.range, List.range.loop, List.map, numbered]
    decide
  · intro h
    rcases h with h | h <;> exact absurd h (by decide)

/-- What a step leaves of the held access, the port and the done of it. -/
def metOf (s : State) : Option (Option Held × Option PortAccess × Bool) :=
  (nextOf (exec .rstAssert s)).map (fun t => (t.held, t.port, t.done))

/-- What a reset meets on the port: nothing, a burst, a fill, a report write, a write of the sweep. A RETIRING entry owes a
CLIP_EMPTY. -/
theorem witness_ResetAssertionClearsBlocks :
    State.reset.rst = false ∧ portMerge State.reset = none ∧ metOf base = some (none, none, false) ∧
    metOf { base with port := some (.burst ⟨0, 0, 0, 8, 0, 1, false⟩) } = some (none, some (.burst ⟨0, 0, 0, 8, 0, 1, true⟩), false) ∧
    metOf { base with port := some (.fill ⟨0, 8, 0, 1, false⟩) } = some (none, some (.fill ⟨0, 8, 0, 1, true⟩), false) ∧
    metOf { base with port := some (.report .event 0 [] false) } = some (none, some (.report .event 0 [] true), false) ∧
    metOf { base with port := some (.sweep 0 [] false) } = some (none, some (.sweep 0 [] true), false) ∧
    (nextOf (exec .rstAssert (setClip 127 { readyClip 1 0x3000000 9 with state := .retiring } base))).map (fun t => t.owed) =
      some [⟨127, 1, 0x3000000⟩] := by
  and_intros <;> decide +kernel

/-- A load access, a memory write of it, and a verify read of two words. -/
def loadAccess : Access := ⟨0xE000000, true, 0xF, 0⟩
def half : HalfWrite := ⟨0x4060000, 3#4, 5⟩
def verify : VerifyJob := verifyJob ⟨6, .pu8, 2, 0x4060000, 48000, none, 0, 0xFFFF, true, 0⟩ 0

/-- That access as a reset meets it. -/
def heldBy (c : AccessClass) (port : Option PortAccess) : State := { console with held := some ⟨loadAccess, some c⟩, port := port }

/-- Held accesses of each class, on the port and not on it, first half done or not. -/
theorem witness_ResetAssertionMeetsHeldAccess :
    metOf (heldBy (.converted false [half, half]) (some .controller)) =
      some (some ⟨loadAccess, some (.converted false [half])⟩, some .controller, false) ∧
    metOf (heldBy (.verify verify) (some .controller)) =
      some (some ⟨loadAccess, some (.verify { verify with todo := verify.todo.take 1 })⟩, some .controller, false) ∧
    metOf (heldBy .direct (some .controller)) = some (some ⟨loadAccess, some .direct⟩, some .controller, false) ∧
    metOf (heldBy (.converted true [half]) none) = some (none, none, true) ∧
    metOf (heldBy (.converted false [half]) none) = some (some ⟨loadAccess, none⟩, none, false) ∧
    metOf (heldBy (.verify { verify with todo := [0], got := [(0, 0)] }) none) = some (none, none, true) ∧
    metOf (heldBy (.verify verify) none) = some (some ⟨loadAccess, none⟩, none, false) := by
  and_intros <;> decide +kernel

/-- An entry under the region and one just beyond it, a slot of each, and a held access outside the region and inside it. -/
theorem witness_ResetReleaseTakesResetContents :
    let h : HeadSlot := ⟨.ready, 5, 1, 1, 0, []⟩
    let s := setSlot 0 h (setSlot 7 { h with clip := 6 } (setClip 5 (readyClip 1 0x200FC00 1) (setClip 6 (readyClip 1 0x2010000 1)
      { base with rst := true })))
    let out : Access := ⟨0x3000000, false, 0, 0⟩
    let inside : Access := ⟨0x200FFFC, false, 0, 0⟩
    s.rst = true ∧ underReset 2 (clipOf s 5) = true ∧ underReset 2 (clipOf s 6) = false ∧ s.session = none ∧
    (nextOf (exec (.rstRelease 2) s)).map (fun t => (slotOf t 0, slotOf t 7, t.owed)) =
      some (HeadSlot.blank, { h with clip := 6 }, [⟨5, 2, 0x200FC00⟩]) ∧
    (nextOf (exec (.rstRelease 2) { s with held := some ⟨out, none⟩ })).map (fun t => t.held) = some (some ⟨out, some .direct⟩) ∧
    (nextOf (exec (.rstRelease 2) { s with held := some ⟨inside, none⟩ })).map (fun t => t.held) = some (some ⟨inside, none⟩) := by
  decide +kernel

/-- The first write of the sweep, alone; its second is there. -/
theorem witness_SweepWriteEnds :
    cellsWf State.reset.mem = true ∧ cellsWf State.reset.shadow = true ∧ State.reset.sweep = some 0 ∧
    State.reset.port = some (.sweep (regionAddr State.reset 0) (readBytes (defaultSetup 0) 0 16) false) ∧
    sweepBlock State.reset 1 = some (0x10, List.replicate 16 0) ∧
    sweepBlock State.reset 1599 = some (0xCFF0, List.replicate 16 0) ∧ sweepBlock State.reset 1600 = none := by decide +kernel

/-- The last write of a power-on sweep without clips; with entries that owe their CLIP_EMPTY, out of order, and a held access. -/
theorem witness_SweepEndRaisesFirstEvent :
    let s := { State.reset with sweep := some 1599, port := some (.sweep 0xCFF0 (List.replicate 16 0) false) }
    let owing := { s with owed := [⟨9, 2, 0x400⟩, ⟨3, 1, 0⟩], held := some ⟨⟨0x4, true, 1, 9⟩, none⟩ }
    MemoryForm s ∧ QueueForm s ∧ s.rst = false ∧ s.sweep = some 1599 ∧ s.port = some (.sweep (regionAddr s 0xCFF0) (List.replicate 16 0) false) ∧
    sweepBlock s 1600 = none ∧ s.owed = [] ∧ s.held = none ∧ s.session = none ∧
    (nextOf (exec .sweepWrite owing)).map (fun t => (t.queue.map shown, t.done)) =
      some ([[0x01, 0, 0, 0, 0], [0x33, 3, 1, 0, 0], [0x33, 9, 2, 0x400, 0]], true) := by
  refine ⟨?_, ⟨by decide, trivial, by decide, fun _ => ⟨rfl, fun k a bs h => ?_⟩⟩, by decide +kernel⟩
  · unfold MemoryForm
    decide +kernel
  · cases h

/-! ### Witnesses: the Memory Path and loading -/

/-- Offsets at the ends of the ranges, with the class each takes. -/
theorem witness_AccessTakesClassOfFirstRow :
    (∀ p ∈ [(0x0, 0), (0xFF, 0), (0x100, 3), (0xFFF, 3), (0x1000, 0), (0x53FF, 0), (0x5400, 3), (0x7FFF, 3), (0x8000, 1), (0x85FF, 1),
        (0x8600, 3), (0x87FF, 3), (0x8800, 1), (0x88FF, 1), (0x8900, 3), (0xA000, 1), (0xA7FF, 1), (0xA800, 3), (0xC000, 1),
        (0xCFFF, 1), (0xD000, 3), (0xFFFF, 3)],
      arrivalOf ⟨0x2000000 + p.1, true, 0xF, 0⟩ console = if p.2 = 0 then .shadowed p.1 else if p.2 = 1 then .report else .plain) ∧
    arrivalOf ⟨0xE000000, false, 0, 0⟩ console = .verify 0 ∧ arrivalOf ⟨0xFFFFFFC, true, 0xF, 0⟩ console = .loadWrite 0x1FFFFFC ∧
    arrivalOf ⟨0xDFFFFFC, true, 0xF, 0⟩ console = .plain ∧ arrivalOf ⟨0x4000000, true, 1#4, 0⟩ console = .extent 5 := by
  decide +kernel

theorem witness_PlainAccessAndRegionReadAreHeld :
    base.held = none ∧ noLane (accessOf true 0x10000 1 0) = false ∧ arrivalOf (accessOf true 0x10000 1 0) base = .plain ∧
    inRegion base (accessOf false 0xFFFC 0 0).addr = true ∧ unclassified { base with rst := true } 0x10000 = true := by decide +kernel

theorem witness_GuardedWritesAreDropped :
    Arrives (accessOf true 0x2008000 1 0) console ∧ arrivalOf (accessOf true 0x2008000 1 0) console = .report ∧
    Arrives (accessOf true 0x4000000 1 0) console ∧ arrivalOf (accessOf true 0x4000000 1 0) console = .extent 5 := by
  unfold Arrives
  decide +kernel

theorem witness_NoLaneWriteOnlyCompletes : State.reset.held = none := by decide

/-- A write and a read on the port. -/
theorem witness_MemoryAccessEndsAtMemory :
    MemoryForm base ∧
    onPort { base with held := some ⟨⟨0x10000, true, 1, 7⟩, some .direct⟩, port := some .controller } = some (⟨0x10000, true, 1, 7⟩, .direct) ∧
    onPort { base with held := some ⟨⟨0x10000, false, 0, 0⟩, some .direct⟩, port := some .controller } = some (⟨0x10000, false, 0, 0⟩, .direct) := by
  unfold MemoryForm
  decide +kernel

/-- A whole, a partial and an out-of-range write, the last at the first frame beyond the capacity; a verify read below and at the
capacity. -/
theorem witness_LoadWindowAccessesAreJudged :
    Arrives (accessOf true 0xE000000 0xF 0) console ∧ arrivalOf (accessOf true 0xE000000 0xF 0) console = .loadWrite 0 ∧
    isPartial .p24l 0xF = false ∧ isPartial .p24l 0xE = true ∧
    outOfRange ⟨6, .p24l, 1, 0x4060000, 48000, none, 0, 0xFFFF, true, 0⟩ 191996 0xF = false ∧
    outOfRange ⟨6, .p24l, 1, 0x4060000, 48000, none, 0, 0xFFFF, true, 0⟩ 192000 0xF = true ∧
    coveredPositions (verifyJob ⟨6, .p24l, 1, 0x4060000, 48000, none, 0, 0xFFFF, true, 0⟩ 191996) = [0] ∧
    coveredPositions (verifyJob ⟨6, .p24l, 1, 0x4060000, 48000, none, 0, 0xFFFF, true, 0⟩ 192000) = [] ∧
    arrivalOf (accessOf false 0xE000000 0 0) console = .verify 0 := by
  unfold Arrives
  decide +kernel

theorem witness_AcceptedWriteUpdatesTotals : (0xF : Lanes) ≠ 0 ∧ isPartial testLoad.packing 0xF = false := by decide

theorem witness_ConvertedWritesStoreSamples :
    cellsWf [] = true ∧ testLoad.channels = 2 ∧ testLoad.base % 4 = 0 ∧ 4 % 4 = 0 ∧ isPartial testLoad.packing 0xF = false ∧
    0 ∈ enabledPositions testLoad.packing 0xF := by decide

/-- The first and the last memory write, the first and the last memory read. -/
theorem witness_HalvesOfLoadAccessesEnd :
    let a : Access := ⟨0xE000000, true, 0xF, 0⟩
    let h : HalfWrite := ⟨0x4060000, 3#4, 5⟩
    let j := verifyJob ⟨6, .p24l, 1, 0x4060000, 48000, none, 0, 0xFFFF, true, 0⟩ 0
    let k := verifyJob ⟨6, .pu8, 2, 0x4060000, 48000, none, 0, 0xFFFF, true, 0⟩ 0
    MemoryForm console ∧
    onPort { console with held := some ⟨a, some (.converted false [h])⟩, port := some .controller } = some (a, .converted false [h]) ∧
    onPort { console with held := some ⟨a, some (.converted false [h, h])⟩, port := some .controller } =
      some (a, .converted false [h, h]) ∧
    onPort { console with held := some ⟨a, some (.verify j)⟩, port := some .controller } = some (a, .verify j) ∧
    j.todo = [0x4060000] ∧ k.todo = [0x4060000, 0x4060004] := by
  unfold MemoryForm
  decide +kernel

theorem witness_VerifyReadReturnsStoredSamples :
    testLoad.channels = 2 ∧ testLoad.base % 4 = 0 ∧ 8 % 4 = 0 ∧ 0 ∈ positions testLoad.packing ∧
    frameOf testLoad.packing testLoad.channels (8 + 0) < testLoad.capacity := by decide

/-! ### Witnesses: the Control Shadow -/

/-- A deck write, a taken and a misplaced trigger, a refused and an accepted setup write. -/
theorem witness_ShadowedArrivalsAreJudged :
    let s := strapped 2
    Arrives (accessOf true 0x2001000 0xF 0) s ∧ arrivalOf (accessOf true 0x2001000 0xF 0) s = .shadowed 0x1000 ∧
    regionPart 0x1000 = .deck ∧ regionPart 0x4FFF = .deck ∧ regionPart 0x5000 = .ring ∧ regionPart 0x53FF = .ring ∧
    regionPart 0xFF = .setup ∧ ((0x00010001 : Word).toNat % 65536 = s.expSeq ∧ 0x5000 = 0x5000 + 16 * s.expSlot) ∧
    refusedField s (writeLanes s.shadow 0 2 0x0100) = some 1 ∧ refusedField s (writeLanes s.shadow 0 1 1) = none ∧
    clamped s 0 1 (writeLanes s.shadow 0 1 1) = [] := by
  unfold Arrives
  decide +kernel

/-- Each of the four conditions, at its lowest and highest line or timer. -/
theorem witness_SetupRefusalsFollowTheirConditions :
    let locked := { base with lockout := { Lockout.blank with state := .armed } }
    let running := setTimer 0 ⟨.waiting, 1⟩ (setTimer 3 ⟨.waiting, 1⟩ base)
    refusedField base (writeLanes base.shadow 0 2 0) = some 0x01 ∧ refusedField locked (writeLanes base.shadow 0x10 1 1) = some 0x10 ∧
    refusedField locked (writeLanes base.shadow 0x2C 1 4) = some 0x2C ∧
    refusedField running (writeLanes base.shadow 0x30 1 1) = some 0x30 ∧
    refusedField running (writeLanes base.shadow 0x48 5 0x00070003) = some 0x48 ∧
    refusedField running (writeLanes base.shadow 0x48 4 0x00070003) = some 0x4A ∧
    refusedField running (writeLanes base.shadow 0x38 5 0x00070003) = none := by decide +kernel

/-- The values at the ends of R29's ranges; a write of one field, one of two fields of which the upper alone is clamped, and one of
a single byte that makes its field illegal with the byte beside it. -/
theorem witness_ClampedFieldsAreWrittenBack :
    MemoryForm base ∧ ⟨0x52, 2, 0, 4096, true⟩ ∈ clampFields ∧
    Arrives (accessOf true 0x0050 0xC 0x10010000) base ∧ arrivalOf (accessOf true 0x0050 0xC 0x10010000) base = .shadowed 0x50 ∧
    regionPart 0x50 = .setup ∧ refusedField base (writeLanes base.shadow 0x50 0xF 0x13880C00) = none ∧
    clampTo base ⟨0x06, 2, 256, 65535, true⟩ 0 = none ∧ clampTo base ⟨0x06, 2, 256, 65535, true⟩ 255 = some 256 ∧
    clampTo base ⟨0x06, 2, 256, 65535, true⟩ 256 = none ∧ clampTo base ⟨0x52, 2, 0, 4096, true⟩ 4097 = some 4096 ∧
    clampTo base ⟨0x54, 2, 1, 4096, false⟩ 0 = some 1 ∧
    (nextOf (exec (.shadowedWriteArrival 0x50 0xF 0x13880C00) base)).map (fun t => (t.held.map (fun h => h.cls), t.writeBacks)) =
      some (some (some (.shadowed 0x50 3#4 .data)), [⟨0x52, 2, 4096⟩]) ∧
    (nextOf (exec (.shadowedWriteArrival 0x50 8 0xFF000000) base)).map (fun t => (t.done, t.port)) =
      some (true, some (.report (.clamp 0x52) 0x52 [0, 0x10] false)) := by
  unfold MemoryForm Arrives
  decide +kernel

/-- Rd at W, and one beyond it. -/
theorem witness_RdIsJudgedAgainstWrittenRecords :
    let s := { base with w := 3 }
    MemoryForm s ∧ Arrives (accessOf true 0x0004 1 3) s ∧ arrivalOf (accessOf true 0x0004 1 3) s = .shadowed 4 ∧
    inSpan s 3 = true ∧ inSpan s 4 = false := by
  unfold MemoryForm Arrives
  decide +kernel

/-- One merge for each row; the write-backs of other fields that one leaves, the next of them granted at once (R30); and a line mode write that a reset met and that ends in the sweep: memory takes it, the line stays OFF
(R35, R103). -/
theorem witness_AcceptedWritesMerge :
    let met := onPortWrite 0x10 1#4 2 .data { base with sweep := some 0 }
    MemoryForm base ∧
    Merges (onPortWrite 0x1000 0xC 0x00010000 .data base) (mergeOf 0x1000 0xC 0x00010000 .data base) ∧
    isLevelEdit (mergeOf 0x1000 0xC 0x00010000 .data base) base = true ∧ hasOwnRow (mergeOf 0x1000 3#4 1 .data base) base = false ∧
    isRdWrite (mergeOf 0x04 1#4 0 .data base) base = true ∧ isLwbWrite (mergeOf 0x00 2#4 0x700 .data base) base = true ∧
    isLineModeWrite (mergeOf 0x10 1#4 1 .data base) base = true ∧ isPolarityWrite (mergeOf 0x10 2#4 0x100 .data base) base = true ∧
    isPreloadWrite (mergeOf 0x34 1#4 1 .data base) base = true ∧ isPreferenceWrite (mergeOf 0x00 4#4 0x10000 .data base) base = true ∧
    isIntervalWrite (mergeOf 0x04 12#4 0 .data base) base = true ∧
    OutlastsReset met (mergeOf 0x10 1#4 2 .data base) ∧ isLineModeWrite (mergeOf 0x10 1#4 2 .data base) met = true ∧
    (nextOf (exec .lineModeWrite met)).map (fun t => (lineMode t.shadow 0, readByte t.mem 0x10, t.done)) = some (.off, 2, true) ∧
    (nextOf (exec .shadowWrite { onPortWrite 0x50 3#4 1 .data base with
      writeBacks := [⟨0x50, 2, 4096⟩, ⟨0x52, 2, 4096⟩, ⟨0x54, 2, 1⟩] })).map (fun t => (t.writeBacks, t.port)) =
      some ([⟨0x54, 2, 1⟩], some (.report (.clamp 0x52) 0x52 [0, 16] false)) := by
  unfold MemoryForm Merges OutlastsReset OnPortToMerge
  decide +kernel

theorem witness_ShadowWriteOnlyMerges :
    MemoryForm (onPortWrite 0x80 0xF 5 .data base) ∧ Merges (onPortWrite 0x80 0xF 5 .data base) (mergeOf 0x80 0xF 5 .data base) ∧
    hasOwnRow (mergeOf 0x80 0xF 5 .data base) base = false := by
  unfold MemoryForm Merges OnPortToMerge
  decide +kernel

theorem witness_MisplacedTriggerRaisesRingSeq :
    let s := onPortWrite 0x53F0 7#4 0x00010000 .misplaced base
    let m := mergeOf 0x53F0 7#4 0x00010000 .misplaced base
    MemoryForm s ∧ Merges s m ∧ m.verdict = .misplaced ∧ regionPart m.off = .ring := by
  unfold MemoryForm Merges OnPortToMerge
  decide +kernel

/-- The four fields, each with its lanes. -/
theorem witness_FieldsWithOwnersTakeEffectAtMerge :
    MemoryForm base ∧ Merges (onPortWrite 0x04 1#4 0 .data base) (mergeOf 0x04 1#4 0 .data base) ∧
    Merges (onPortWrite 0x04 12#4 0 .data base) (mergeOf 0x04 12#4 0 .data base) ∧
    (nextOf (exec .boardIntervalWrite (onPortWrite 0x04 8#4 0x01000000 .data { base with boardCount := 9 }))).map
      (fun t => (boardInterval t.shadow, t.boardCount)) = some (0x01C0, 0) ∧
    Merges (onPortWrite 0x00 2#4 0x700 .data base) (mergeOf 0x00 2#4 0x700 .data base) ∧
    Merges (onPortWrite 0x4C 7#4 9 .data base) (mergeOf 0x4C 7#4 9 .data base) ∧
    (mergeOf 0x4C 7#4 9 .data base).writes 0x4C 3 = true ∧ (mergeOf 0x4C 8#4 9 .data base).writes 0x4C 3 = false := by
  unfold MemoryForm Merges OnPortToMerge
  decide +kernel

/-- A line that leaves LOCKOUT, and one that leaves MOMENTARY. -/
theorem witness_LineModeChangeTakesEffect :
    let s := withWords 0x10 [1, 3] base
    let out := onPortWrite 0x10 1#4 0 .data s
    let mom := onPortWrite 0x14 1#4 0 .data s
    MemoryForm out ∧ Merges out (mergeOf 0x10 1#4 0 .data s) ∧ isLineModeWrite (mergeOf 0x10 1#4 0 .data s) out = true ∧
    isPolarityWrite (mergeOf 0x10 1#4 0 .data s) out = false ∧ lineMode out.shadow 0 = .lockout ∧ lineMode out.shadow 1 = .momentary ∧
    Merges mom (mergeOf 0x14 1#4 0 .data s) ∧ isLineModeWrite (mergeOf 0x14 1#4 0 .data s) mom = true := by
  unfold MemoryForm Merges OnPortToMerge
  decide +kernel

/-- A polarity change, with a glitch filter of 100; and with one of 0 a change of line 0 alone that makes a press, and one that makes
a release. -/
theorem witness_PolarityChangeIsAnEdge :
    let s := onPortWrite 0x10 2#4 0x100 .data base
    let z := withWords 0x04 [0] base
    let up := onPortWrite 0x10 2#4 0x100 .data (setPin 0 true z)
    let m := mergeOf 0x10 2#4 0x100 .data base
    let back := withWords 0x10 [0x100] (setPin 0 true z)
    let down := onPortWrite 0x10 2#4 0 .data (setFilter 0 .down 0 back)
    MemoryForm s ∧ Merges s m ∧ isPolarityWrite m s = true ∧ s.rst = false ∧
    Merges up m ∧ isPolarityWrite m up = true ∧ isLineModeWrite m up = false ∧ isIntervalWrite m up = false ∧ glitch up.shadow = 0 ∧
    readsActive up.shadow 0 (lineOf up 0) = false ∧ (lineOf up 0).filter = .up ∧
    (nextOf (exec .polarityWrite up)).map (fun t => (lineOf t 0).filter) = some .down ∧
    Merges down (mergeOf 0x10 2#4 0 .data base) ∧ readsActive down.shadow 0 (lineOf down 0) = true ∧
    (nextOf (exec .polarityWrite down)).map (fun t => (lineOf t 0).filter) = some .up := by
  unfold MemoryForm Merges OnPortToMerge
  decide +kernel

/-- The preference becomes INTERNAL in each clock state. -/
theorem witness_ClockPreferenceChangeActs :
    let s := onPortWrite 0x00 4#4 0x10000 .data base
    let m := mergeOf 0x00 4#4 0x10000 .data base
    MemoryForm s ∧ Merges s m ∧ isPreferenceWrite m s = true ∧ s.clock.state = .freerun ∧
    Merges { s with clock := ⟨.house, 250, 4800, 0, 1⟩ } m ∧ Merges { s with clock := ⟨.relocking, 250, 1, 750, 0⟩ } m := by
  unfold MemoryForm Merges OnPortToMerge
  decide +kernel

theorem witness_LevelEditReachesVoicesOfCue :
    let s := onPortWrite 0x1A00 0xC 0x27100000 .data (setVoice 3 (steadyVoice 40 30) base)
    MemoryForm s ∧ Merges s (mergeOf 0x1A00 0xC 0x27100000 .data base) ∧
    isLevelEdit (mergeOf 0x1A00 0xC 0x27100000 .data base) s = true ∧ (mergeOf 0x1A00 0xC 0x27100000 .data base).cue = 40 := by
  unfold MemoryForm Merges OnPortToMerge
  decide +kernel

/-! ### Witnesses: the Trigger Ring -/

/-- A taken trigger for the first and the last byte of the table, and for a byte without a meaning. -/
theorem witness_TakenTriggerAdvancesIntake :
    MemoryForm (taking 0x01 0 0 0 base) ∧ Takes (taking 0x01 0 0 0 base) (taken 0x01) 0x01 ∧
    Takes (taking 0x30 0 0 0 base) (taken 0x30) 0x30 ∧ Takes (taking 0xFF 0 0 0 base) (taken 0xFF) 0xFF ∧
    (commandRows.map Prod.snd).contains 0xFF = false := by
  unfold MemoryForm Takes
  decide +kernel

/-- A RELEASE, and a LOAD_OPEN, with these argument words is refused. -/
def badRelease (w1 : Word) : Bool := releaseBad (argsOf (taking 0x02 w1 0 0 base) (taken 0x02))
def badOpen (w1 w2 w3 : Word) : Bool := loadOpenBad (argsOf (taking 0x20 w1 w2 w3 base) (taken 0x20))

/-- Arguments just out of range: scope 4, GROUP 0 and 16, VOICE 24, mode 3; timer 4, a HOLD timer whose line is not in HOLD mode;
clip 128, packing 4, 0 and 3 channels, capacity 0 and 4194305, a base off its grid, an extent one KiB beyond memory. -/
theorem witness_RefusedCommandsChangeNothing :
    MemoryForm (taking 0x02 4 0 0 base) ∧ Takes (taking 0x02 4 0 0 base) (taken 0x02) 0x02 ∧
    badRelease 4 = true ∧ badRelease 0x0001 = true ∧ badRelease 0x1001 = true ∧ badRelease 0x1802 = true ∧
    badRelease 0x30000 = true ∧ timerStartBad base 4 = true ∧ timerStartBad (withWords 0x30 [2] base) 0 = true ∧
    badOpen 0x00010080 0 1 = true ∧ badOpen 0x00010400 0 1 = true ∧ badOpen 0 0 1 = true ∧ badOpen 0x00030000 0 1 = true ∧
    badOpen 0x00010000 0 0 = true ∧ badOpen 0x00010000 0 4194305 = true ∧ badOpen 0x00010000 0x200 1 = true ∧
    badOpen 0x00010000 0x0FFFFC00 513 = true ∧ badOpen 0x00010000 0x0FFFFC00 512 = false := by
  unfold MemoryForm Takes
  decide +kernel

/-- A FIRE of cue 12 with its record in state `s`. -/
def fireOf12 (w0 w6 : Word) (s : State) : State := taking 0x01 12 0 0 (withCue 12 [w0, 0, 0, 0, 0, 0, w6, 0] s)

/-- Each check fails in its turn, at its boundary where it has one: PANIC, armed, READY, start at the end, the mask, IGNORE. -/
theorem witness_FireIsRefusedByFirstFailingCheck :
    MemoryForm (fireOf12 0x1400 0 stings) ∧ Takes (fireOf12 0x1400 0 stings) (taken 0x01) 0x01 ∧
    (nextOf (exec .fire (fireOf12 0x1400 0 (setFilter 8 .down 0 stings)))).map (fun t => t.results) = some [(0, .panicHeld)] ∧
    (nextOf (exec .fire (fireOf12 0x1400 0 stings))).map (fun t => t.results) = some [(0, .cueNotArmed)] ∧
    (nextOf (exec .fire (fireOf12 0x1501 0 stings))).map (fun t => t.results) = some [(0, .clipNotReady)] ∧
    (nextOf (exec .fire (taking 0x01 12 0 0 (withCue 12 [0x1401, 0, 36000, 0] stings)))).map (fun t => t.results) =
      some [(0, .cueRange)] ∧
    (nextOf (exec .fire (fireOf12 0x1401 0 stings))).map (fun t => t.results) = some [(0, .noRoute)] ∧
    (nextOf (exec .fire (taking 0x01 12 0 0
      (withCue 12 [0x1401, 0, 35999, 0, 0, 0, 0x00010000, 0x100] (setVoice 23 (steadyVoice 12 20) stings))))).map (fun t => t.results) =
      some [(0, .alreadyPlaying)] := by
  unfold MemoryForm Takes
  decide +kernel

/-- Cue 41 of section 5.6 with voice 23 alone IDLE; a LAYER cue without a choke group. -/
theorem witness_FireAllocatesLowestIdleVoice :
    let s := taking 0x01 41 0 0 (withCue 41 [0x10001401, 0, 0, 0, 30000, 40000, 0x00010001, 0x00000200]
      { stings with voices := bankSet (Vector.replicate 24 (steadyVoice 7 30)) 23 Voice.blank })
    MemoryForm s ∧ Takes s (taken 0x01) 0x01 ∧ FirePasses s (taken 0x01) ∧
    (cueRecord s.shadow 41).retrigger = .layer ∧ (cueRecord s.shadow 41).choke = 0 ∧ (voiceOf s 23).state = .idle ∧
    (∀ w, w < 23 → (voiceOf s w).state ≠ .idle) ∧ CanAppend 2 s := by
  unfold MemoryForm Takes FirePasses CanAppend
  decide +kernel

/-- Every voice busy: voice 2 of the fired cue 41 on head slot 1, voice 5 PRIMING in choke group 3 on clip 30, which is RETIRING in its
last use. -/
def crowded : State :=
  setSlot 1 ⟨.ready, 20, 9, 9, 1, []⟩ (setClip 20 { readyClip 2 0x2000000 36000 with uses := 4, headSlot := some 1 }
    (setClip 30 { readyClip 1 0x3000000 1440000 with state := .retiring, uses := 1 }
      (setVoice 2 { steadyVoice 41 20 with headFlag := true, headSlot := 1 }
        (setVoice 5 { busyVoice .priming 7 0 0 with cue := 5, clip := 30, choke := 3 }
          { base with voices := Vector.replicate 24 (busyVoice .steady 7 4096 0) }))))

/-- RESTART and choke group 3 of cue 41 among these voices: the fire frees voice 2 itself, chokes voice 5 to its end, and takes voice 2
with head start, its first burst, 8 frames from the head length 9, granted at once; CUE_END, CUE_END, CLIP_EMPTY, CUE_ADJUSTED and
CUE_START in the order of R124. -/
theorem witness_FireRestartsAndChokesThenAllocates :
    let s := taking 0x01 41 0 0 (withCue 41 [0x10001401, 0, 0, 0, 30000, 40000, 0x00010001, 0x00000003] crowded)
    MemoryForm s ∧ Takes s (taken 0x01) 0x01 ∧ FirePasses s (taken 0x01) ∧ (∀ v, v < 24 → (voiceOf s v).state ≠ .idle) ∧
    (voiceOf (voicesReached 41 s) 2).state = .idle ∧ (∀ w, w < 2 → (voiceOf (voicesReached 41 s) w).state ≠ .idle) ∧
    DrainsOwn 20 s ∧ (endsByFire 41 s).map (fun e => (e.1, e.2.2)) = [(2, .restarted), (5, .choked)] ∧ CanAppend 6 s ∧
    (nextOf (exec .fire s)).map (fun t => ((voiceOf t 2).fetchPos, (voiceOf t 2).inFlight, t.queue.map shown)) =
      some (17, 8, [[0x11, 41, 2, 0x140E, 0], [0x11, 5, 5, 0x1E04, 0], [0x33, 30, 0, 0x3000000, 0], [0x13, 41, 2, 4, 0],
        [0x10, 41, 2, 0x140008, 0]]) := by
  unfold MemoryForm Takes FirePasses CanAppend DrainsOwn
  and_intros <;> decide +kernel

/-- The four tiers have their states: an IDLE voice, section 8.7's voices, and none; a FIRE of cue 12 with priority 5 among
section 8.7's voices steals voice 11, with all voices at priority 7 it finds none, and with choke group 1 it sets a voice falling that
its priority may not take. -/
theorem witness_AllocationGoesThroughTiers :
    let cue := withCue 12 [0x10001401, 0, 0, 0, 0, 0, 0x05010000, 0x201]
    let busy := setVoice 3 { busyVoice .steady 7 4096 0 with choke := 1, fo := 9, cue := 1 }
      { allBusy with voices := Vector.replicate 24 (busyVoice .steady 7 4096 0) }
    let clip := setClip 20 (readyClip 2 0x2000000 36000)
    let steals := taking 0x01 12 0 0 (cue (clip allBusy))
    let finds := taking 0x01 12 0 0 (cue (clip busy))
    allocate base 0 = some (0, false) ∧ allocate (setVoice 0 (steadyVoice 1 1) base) 0 = some (1, false) ∧
    allocate allBusy 5 = some (11, true) ∧ allocate busy 7 = none ∧
    MemoryForm steals ∧ Takes steals (taken 0x01) 0x01 ∧ FirePasses steals (taken 0x01) ∧ (cueRecord steals.shadow 12).priority = 5 ∧
    allocate (voicesReached 12 steals) 5 = some (11, true) ∧ CanAppend 4 steals ∧
    (nextOf (exec .fire steals)).map (fun t => ((voiceOf t 11).cue, t.queue.map shown)) =
      some (12, [[0x11, 0, 11, 5, 0], [0x10, 12, 11, 0x140000, 0]]) ∧
    MemoryForm finds ∧ Takes finds (taken 0x01) 0x01 ∧ FirePasses finds (taken 0x01) ∧
    allocate (voicesReached 12 finds) 5 = none ∧
    (nextOf (exec .fire finds)).map (fun t => (t.results, (voiceOf t 3).state)) = some ([(0, .noVoice)], .falling) := by
  unfold MemoryForm Takes FirePasses CanAppend
  and_intros <;> decide +kernel

/-- Each scope, and a CUT of voice 23 on a RETIRING clip in its last use and a DRAINING slot with its last reader. A RELEASE is
taken from the port, so no burst is in flight. -/
theorem witness_ReleaseReachesVoicesInScope :
    let e := { readyClip 2 0x2000000 36000 with state := .retiring, uses := 1 }
    let x := { steadyVoice 9 20 with headFlag := true, headSlot := 7, choke := 15 }
    let w := setVoice 23 x (setSlot 7 ⟨.draining, 20, 256, 256, 1, []⟩ (setClip 20 e base))
    let s := taking 0x02 0x00011702 0 0 w
    MemoryForm s ∧ Takes s (taken 0x02) 0x02 ∧ (argsOf s (taken 0x02)).b0 = 2 ∧ (argsOf s (taken 0x02)).b1 = 23 ∧
    (argsOf s (taken 0x02)).b2 = 1 ∧ (voiceOf s 23).state ≠ .idle ∧ (clipOf s 20).state = .retiring ∧ CanAppend 2 s ∧
    (nextOf (exec .release s)).map (fun t => ((slotOf t 7).state, t.queue.map shown)) =
      some (.free, [[0x11, 9, 23, 0x140B, 0], [0x33, 20, 0, 0x2000000, 0]]) ∧
    Takes (taking 0x02 0x00020F01 480 0 w) (taken 0x02) 0x02 ∧ Takes (taking 0x02 3 0 0 w) (taken 0x02) 0x02 ∧
    Takes (taking 0x02 0x0900 0 0 w) (taken 0x02) 0x02 ∧
    (nextOf (exec .release (taking 0x02 0x00020F01 480 0 w))).map (fun t => (voiceOf t 23).fallLength) = some 480 ∧
    (nextOf (exec .release (taking 0x02 0x00020003 0 0 w))).map (fun t => (voiceOf t 23).lastEnd) = some .released := by
  unfold MemoryForm Takes CanAppend
  decide +kernel

/-- The three commands, each in each state of the lockout. -/
theorem witness_LockCommandsMoveTheLockout :
    let armed := { base with lockout := { Lockout.blank with state := .armed } }
    let locked := { base with lockout := { Lockout.blank with state := .locked, winner := some 7 } }
    MemoryForm (taking 0x10 0 0 0 base) ∧ Takes (taking 0x10 0 0 0 base) (taken 0x10) 0x10 ∧
    Takes (taking 0x10 0 0 0 armed) (taken 0x10) 0x10 ∧ Takes (taking 0x11 0 0 0 armed) (taken 0x11) 0x11 ∧
    Takes (taking 0x11 0 0 0 locked) (taken 0x11) 0x11 ∧ Takes (taking 0x12 0 0 0 base) (taken 0x12) 0x12 ∧
    Takes (taking 0x12 0 0 0 armed) (taken 0x12) 0x12 ∧ Takes (taking 0x12 0 0 0 locked) (taken 0x12) 0x12 := by
  unfold MemoryForm Takes
  decide +kernel

/-- A stopped timer, a running one, and a HOLD timer bound to a line in HOLD mode. -/
theorem witness_TimerCommandsStartAndStop :
    let s := withWords 0x10 [4] (withWords 0x30 [2, 500] base)
    MemoryForm (taking 0x18 0 0 0 s) ∧ Takes (taking 0x18 0 0 0 s) (taken 0x18) 0x18 ∧ timerMode s.shadow 0 = .hold ∧
    lineMode s.shadow (timerLine s.shadow 0) = .hold ∧ (argsOf (taking 0x18 3 0 0 s) (taken 0x18)).b0 = 3 ∧
    Takes (taking 0x19 0 0 0 (setTimer 0 ⟨.counting, 5⟩ s)) (taken 0x19) 0x19 := by
  unfold MemoryForm Takes
  decide +kernel

/-- Opened, busy, in use, and overlapping by one byte range: clip 20's extent ends at 2023280h. -/
theorem witness_LoadOpenJudgesThenOpens :
    let s := taking 0x20 0x0001007F 0x2023400 4194304 stings
    let near := taking 0x20 0x0001007F 0x2023000 1 stings
    MemoryForm s ∧ Takes s (taken 0x20) 0x20 ∧ s.session = none ∧ loadOpenBad (argsOf s (taken 0x20)) = false ∧
    extentOf (clipOf s 20) = some (0x2000000, 0x2023280) ∧
    (nextOf (exec .loadOpen s)).map (fun t => t.results) = some [(0, .done)] ∧
    (nextOf (exec .loadOpen near)).map (fun t => t.results) = some [(0, .loadOverlap)] ∧
    (nextOf (exec .loadOpen { s with session := some testLoad })).map (fun t => t.results) = some [(0, .loadBusy)] ∧
    (nextOf (exec .loadOpen (setClip 127 { readyClip 1 0 1 with uses := 1 } s))).map (fun t => t.results) = some [(0, .clipBusy)] := by
  unfold MemoryForm Takes
  decide +kernel

/-- No session, an empty one, and one with a sample. -/
theorem witness_LoadCloseAndAbortEndTheSession :
    MemoryForm (taking 0x21 1 0 0 base) ∧ Takes (taking 0x21 1 0 0 base) (taken 0x21) 0x21 ∧
    Takes (taking 0x21 0 0 0 { base with session := some testLoad }) (taken 0x21) 0x21 ∧ testLoad.highest = none ∧ testLoad.clip < 128 ∧
    Takes (taking 0x21 1 0xD51C 0 { base with session := some { testLoad with highest := some 0, crc := 0xD51C } }) (taken 0x21) 0x21 ∧
    Takes (taking 0x22 0 0 0 { base with session := some testLoad }) (taken 0x22) 0x22 := by
  unfold MemoryForm Takes
  decide +kernel

/-- A clip pinned in its own slot, in use and not; a clip to be pinned in the last FREE slot. -/
theorem witness_DiscardPinAndUnpinFollowTheEntry :
    let h : HeadSlot := ⟨.ready, 20, 256, 256, 1, []⟩
    let s := setSlot 7 h (setClip 20 { readyClip 2 0x2000000 36000 with uses := 1, headSlot := some 7 } base)
    let full := { stings with slots := bankSet (Vector.replicate 8 h) 7 HeadSlot.blank }
    MemoryForm (taking 0x23 20 0 0 s) ∧ Takes (taking 0x23 20 0 0 s) (taken 0x23) 0x23 ∧ OwnSlot 20 s ∧ OwnSlot 127 base ∧
    freedAtOnce h = false ∧ freedAtOnce { h with readers := 0 } = true ∧
    Takes (taking 0x28 20 0 0 full) (taken 0x28) 0x28 ∧ (clipOf full 20).headSlot = none ∧ (slotOf full 7).state = .free ∧
    (∀ j, j < 7 → (slotOf full j).state ≠ .free) ∧ Takes (taking 0x29 20 0 0 s) (taken 0x29) 0x29 := by
  unfold MemoryForm Takes OwnSlot
  refine ⟨by decide +kernel, by decide +kernel, ?_, ?_, by decide +kernel, by decide +kernel, by decide +kernel, by decide +kernel,
    by decide +kernel, by decide +kernel, by decide +kernel⟩
  · intro k hk
    have h7 : k = 7 := Option.some.inj (hk.symm.trans (by decide +kernel : _ = some 7))
    subst h7
    decide +kernel
  · intro k hk
    rw [show (clipOf base 127).headSlot = none by decide +kernel] at hk
    cases hk

theorem witness_MeterClearClearsMaskedCounters :
    MemoryForm (taking 0x30 9 0 0 base) ∧ Takes (taking 0x30 9 0 0 base) (taken 0x30) 0x30 ∧
    ((argsOf (taking 0x30 9 0 0 base) (taken 0x30)).b0 / 2 ^ 3) % 2 = 1 := by
  unfold MemoryForm Takes
  decide +kernel

/-! ### Witnesses: the part's own accesses -/

/-- A report write of each kind, at the last shadowed byte and beyond it; a mirror write that nothing has changed since its grant
clears its flag, and one whose entry has changed keeps it. -/
theorem witness_ReportWritesReachMemoryAndShadow :
    let at' := fun k off bytes orphan => { base with port := some (.report k (regionAddr base off) bytes orphan) }
    let mirror := { at' (.mirror 127) 0xA7F0 [] false with mirrorFlags := bankSet base.mirrorFlags 127 true }
    let flag := fun s => (nextOf (exec .directoryMirrorWrite s)).map (fun t => bankGet t.mirrorFlags 127 false)
    MemoryForm base ∧ (at' (.result 63) 0x53F3 [1] false).port = some (.report (.result 63) (regionAddr base 0x53F3) [1] false) ∧
    (at' (.clamp 4) 4 [0] false).port = some (.report (.clamp 4) (regionAddr base 4) [0] false) ∧
    (nextOf (exec .clampWriteBack { at' (.clamp 6) 6 [0, 1] false with boardCount := 9 })).map (fun t => (t.boardCount, boardInterval t.shadow)) =
      some (0, 256) ∧
    (nextOf (exec .voiceBoardQuarterWrite { at' (.board 0 2) 0x8020 [] false with boardCopy := some ⟨0, 2, []⟩ })).map
      (fun t => t.boardCopy.map (fun c => c.next)) = some (some 3) ∧
    (at' (.status 4) 0x8840 [] true).port = some (.report (.status 4) (regionAddr base 0x8840) [] true) ∧
    flag mirror = some false ∧ flag (setClip 127 ClipEntry.blank mirror) = some true := by
  unfold MemoryForm
  decide +kernel

theorem witness_EventRecordLeavesTheQueue :
    let s := { base with lost := 2, port := some (.report .event 0xC000 (List.replicate 16 0) false) }
    MemoryForm s ∧ s.port = some (.report .event 0xC000 (List.replicate 16 0) false) ∧ s.lost ≠ 0 := by
  unfold MemoryForm
  decide +kernel

/-- A queue of 16 with a mergeable record at its head, its write granted or not: merged, lost; and a queue of 15: appended. -/
theorem witness_RaisedEventIsMergedAppendedOrLost :
    let r : EventRecord := ⟨1, .guardWrite, 255, 0, 5, 1, 0⟩
    let full := { base with queue := r :: List.replicate 15 ⟨2, .cueStart, 0, 0, 0, 0, 0⟩, lost := 65535 }
    (raiseEvent .guardWrite 5 1 0 full).queue = full.queue ∧
    (raiseEvent .guardWrite 5 1 0 { full with port := some (.report .event 0 [] false) }).lost = 65535 ∧
    (raiseEvent .guardWrite 6 1 0 { full with lost := 0 }).lost = 1 ∧
    (raiseEvent .guardWrite 6 1 0 { full with queue := full.queue.drop 1 }).queue.length = 16 ∧
    { base with rst := true }.rst = true ∧ State.reset.sweep ≠ none := by decide +kernel

/-- Accepted and discarded bursts: 7 and 8 frames in a PRIMING voice, an old epoch; a fill that completes the head and one short. -/
theorem witness_BurstsLandOrAreDiscarded :
    let s := setVoice 6 { filled .priming 0 with epoch := 4, loop := true } base
    { s with port := some (.burst ⟨6, 4, 90, 8, 0, 1, false⟩) }.port = some (.burst ⟨6, 4, 90, 8, 0, 1, false⟩) ∧
    (voiceOf s 6).state ≠ .idle ∧ (voiceOf s 6).epoch = 4 ∧
    (nextOf (exec .fetchBurstLand { s with port := some (.burst ⟨6, 4, 90, 8, 0, 1, false⟩) })).map (fun t => (voiceOf t 6).state) =
      some .steady ∧
    (nextOf (exec .fetchBurstLand { s with port := some (.burst ⟨6, 4, 90, 7, 0, 1, false⟩) })).map (fun t => (voiceOf t 6).state) =
      some .priming ∧
    (nextOf (exec .fetchBurstLand { s with port := some (.burst ⟨6, 3, 90, 8, 0, 1, false⟩) })).map (fun t => fill (voiceOf t 6)) =
      some 0 ∧
    (nextOf (exec .headFillBurstLand (setSlot 7 ⟨.filling, 20, 16, 8, 0, []⟩
      { base with port := some (.fill ⟨7, 8, 0, 1, false⟩) }))).map (fun t => (slotOf t 7).state) = some .ready ∧
    (nextOf (exec .headFillBurstLand (setSlot 7 ⟨.filling, 20, 17, 8, 0, []⟩
      { base with port := some (.fill ⟨7, 8, 0, 1, false⟩) }))).map (fun t => (slotOf t 7).state) = some .filling := by
  decide +kernel

/-- Voice 23 may request: a fill of 24 and nothing in flight. -/
theorem witness_BurstIsFixedAtItsGrant :
    requests (voiceOf (setVoice 23 (filled .steady 24) base) 23) = true ∧
    requests (voiceOf (setVoice 23 (filled .steady 25) base) 23) = false ∧ (filled .steady 24).loop = false ∧
    (filled .steady 24).fetchPos < (filled .steady 24).effEnd := by decide +kernel

/-- Each place has its state: a fill of 4 is urgent and one of 5 is not, 12 records press and 11 do not, nor do 12 while the ring is
full; an offer stands before a lower FILLING slot; and each write of the Report Writer in its turn. -/
theorem witness_PortIsGrantedByPlace :
    let s := { base with held := some ⟨⟨0, false, 0, 0⟩, some .direct⟩ }
    let record : EventRecord := ⟨2, .cueStart, 0, 0, 0, 0, 0⟩
    let records := fun n => List.replicate n record
    let filling : HeadSlot := ⟨.filling, 0, 8, 0, 0, []⟩
    let kind := fun s => match (arbitrate s).port with
      | some (.report k _ _ _) => some k
      | _ => none
    let full := { base with w := 255 }
    base.port = none ∧ base.rst = false ∧ sweepBlock { base with sweep := some 0, deckClear := true } 0 ≠ none ∧
    (∃ b, (arbitrate (setVoice 3 (filled .steady 4) { s with queue := records 12 })).port = some (.burst b)) ∧
    (arbitrate (setVoice 3 (filled .steady 5) { s with queue := records 12 })).port =
      some (.report .event 0xC000 (eventBytes record) false) ∧
    (arbitrate (setVoice 3 (filled .steady 5) { s with queue := records 11 })).port = some .controller ∧
    (arbitrate (setSlot 7 filling { base with queue := records 11 })).port = some (.fill ⟨7, 8, 0, 0, false⟩) ∧
    (arbitrate (setSlot 0 filling (setSlot 7 filling { base with offer := some 7 }))).port = some (.fill ⟨7, 8, 0, 0, false⟩) ∧
    OnlyReports { base with results := [(63, .done)] } ∧ NoneUrgent full ∧
    kind { base with results := [(63, .done)], writeBacks := [⟨0x52, 2, 0⟩] } = some (.result 63) ∧
    kind { base with writeBacks := [⟨0x52, 2, 0⟩, ⟨0x50, 2, 0⟩], queue := records 1 } = some (.clamp 0x50) ∧
    kind { full with queue := records 12, marks := bankSet base.marks 4 true } = some (.status 4) ∧
    kind { full with queue := records 12, mirrorFlags := bankSet base.mirrorFlags 127 true } = some (.mirror 127) ∧
    kind (setVoice 23 { steadyVoice 1 1 with fifo := List.replicate 25 ⟨⟨0, 0⟩, 0, 0⟩, boardFlag := true } base) = some (.board 23 0) ∧
    kind { base with boardCopy := some ⟨23, 3, []⟩ } = some (.board 23 3) := by
  refine ⟨by decide +kernel, by decide +kernel, by decide +kernel, ⟨⟨3, 0, 0, 8, 0, 0, false⟩, by decide +kernel⟩, by decide +kernel,
    by decide +kernel, by decide +kernel, by decide +kernel, ?_, ?_, by decide +kernel, by decide +kernel, by decide +kernel,
    by decide +kernel, by decide +kernel, by decide +kernel⟩
  · unfold OnlyReports
    decide +kernel
  · unfold NoneUrgent
    decide +kernel

/-! ### Witnesses: lines, timers and the clock -/

/-- Both levels of RST#, a time that may pass and one that may not; a press and a release taken at once with a glitch filter of 0. -/
theorem witness_LineEdgesMoveFilters :
    let z := withWords 0x04 [0] base
    let d := setFilter 0 .down 0 (setPin 0 false z)
    base.rst = false ∧ { base with rst := true }.rst = true ∧ Soonest 250 base ∧ ¬ Soonest 251 base ∧ Soonest 0 z ∧ Soonest 0 d ∧
    glitch base.shadow = 100 ∧ glitch z.shadow = 0 ∧ readsActive z.shadow 0 (lineOf z 0) = false ∧ (lineOf z 0).filter = .up ∧
    (nextOf (exec (.lineEdge 0 false 0) z)).map (fun t => (lineOf t 0).filter) = some .down ∧
    readsActive d.shadow 0 (lineOf d 0) = true ∧ (nextOf (exec (.lineEdge 0 true 0) d)).map (fun t => (lineOf t 0).filter) = some .up := by
  simp only [← mayPass_iff]
  decide +kernel

/-- A press and a release to come on a line of each mode, and on TALK. -/
theorem witness_FilterExpiryTakesPressOrRelease :
    let s := withWords 0x10 [2, 3, 4] base
    PressComing 0 (setFilter 0 .pressing 5 s) ∧ lineMode s.shadow 0 = .key ∧ PressComing 1 (setFilter 1 .pressing 5 s) ∧
    lineMode s.shadow 1 = .momentary ∧ PressComing 2 (setFilter 2 .pressing 5 s) ∧ lineMode s.shadow 2 = .hold ∧
    PressComing 9 (setFilter 9 .pressing 5 s) ∧ lineMode s.shadow 7 = .off ∧ ReleaseComing 9 (setFilter 9 .releasing 5 s) ∧
    ReleaseComing 1 (setHeldCue 1 (some 9) (setFilter 1 .releasing 5 s)) ∧ ReleaseComing 2 (setFilter 2 .releasing 5 s) ∧
    fireChecks ⟨.line, 0, 0, false⟩ (cueRecord s.shadow 0) (atPress 0 (setFilter 0 .pressing 5 s)) = some .cueNotArmed := by
  simp only [PressComing, ReleaseComing, ← mayPass_iff]
  decide +kernel

/-- A KEY line whose cue passes its checks, with an IDLE voice. -/
theorem witness_FireComes :
    let s := setFilter 0 .pressing 5 (withCue 41 [0x10001401, 0, 0, 0, 0, 0, 0x00010000, 0x200] (withWords 0x10 [0x00290002] stings))
    let p := atPress 0 s
    PressComing 0 s ∧ lineCue s.shadow 0 = 41 ∧ fireChecks ⟨.line, 0, 41, false⟩ (cueRecord p.shadow 41) p = none ∧
    ignoreBlocks p 41 (cueRecord p.shadow 41) = false ∧ (cueRecord p.shadow 41).retrigger = .layer ∧ (voiceOf p 0).state = .idle := by
  simp only [PressComing, ← mayPass_iff]
  decide +kernel

/-- Each judgement of a press: early, winning, barred, late, the winner's own, the eighth; and a win whose bound cue passes its
checks, fired behind LOCK_WON. -/
theorem witness_LockoutPressIsJudged :
    let late := (List.replicate 6 (7, 0) : List (Nat × Nat))
    let fires := setClip 20 (readyClip 2 0x2000000 36000) (withCue 21 [0x10001401, 0, 0, 0, 0, 0, 0x00010000, 0x200] round)
    PressComing 1 round ∧ lineMode round.shadow 1 = .lockout ∧ round.lockout.state = .armed ∧ CanAppend 1 round ∧
    round.lockout.barred.getLsbD 1 = false ∧ (lineOf (atPress 1 round) 1).penalty = none ∧
    PressComing 1 { round with lockout := Lockout.blank } ∧ PressComing 1 fires ∧
    fireChecks ⟨.line, 1, 21, false⟩ (cueRecord fires.shadow 21) (atPress 1 fires) = none ∧
    (nextOf (exec (.filterTimerExpiry 1) fires)).map (fun t => ((voiceOf t 0).cue, t.queue.map (fun r => r.kind))) =
      some (21, [.lockWon, .cueStart]) ∧
    (nextOf (exec (.filterTimerExpiry 1) { round with lockout := { Lockout.blank with state := .armed, barred := 2#8 } })).map
      (fun t => t.lockout.state) = some .armed ∧
    (nextOf (exec (.filterTimerExpiry 1) { round with lockout := { Lockout.blank with state := .locked, late := late } })).map
      (fun t => t.lockout.late.length) = some 7 ∧
    (nextOf (exec (.filterTimerExpiry 1) { round with lockout := { Lockout.blank with state := .locked, late := (7, 0) :: late } })).map
      (fun t => t.lockout.late.length) = some 7 := by
  simp only [PressComing, CanAppend, ← mayPass_iff]
  decide +kernel

/-- A press and a release of PANIC, the fades 2400 and 0; with 0 the burst in flight of the voice that ends turns stale. -/
theorem witness_PanicStopsTimersAndReleasesVoices :
    let s := setFilter 8 .pressing 5 base
    let cut := { setVoice 3 (steadyVoice 9 20) (withWords 0x0C [0] s) with port := some (.burst ⟨3, 0, 0, 8, 0, 2, false⟩) }
    PressComing 8 s ∧ CanAppend 1 s ∧ ReleaseComing 8 (setFilter 8 .releasing 5 base) ∧ panicFade s.shadow = 2400 ∧
    PressComing 8 cut ∧ panicFade cut.shadow = 0 ∧
    CanAppend 3 (atPress 8 cut) ∧
    (nextOf (exec (.filterTimerExpiry 8) cut)).map (fun t => (t.port, (voiceOf t 3).lastEnd, t.queue.map (fun r => r.kind))) =
      some (some (.burst ⟨3, 0, 0, 8, 0, 2, true⟩), .panic, [.panicOn, .cueEnd]) := by
  simp only [PressComing, ReleaseComing, CanAppend, ← mayPass_iff]
  decide +kernel

/-- A penalty of 1 line unit, a timer at its last frame in each mode, and the frame event that brings the count to the interval. -/
theorem witness_ExpiriesTakeTheirEffect :
    let s := setTimer 3 ⟨.counting, 1⟩ base
    let b := setVoice 23 { steadyVoice 9 20 with fifo := List.replicate 25 ⟨⟨0, 0⟩, 0, 0⟩ } { base with boardCount := 4799 }
    (lineOf (setPenalty 7 1 base) 7).penalty = some 120 ∧ Soonest 120 (setPenalty 7 1 base) ∧
    (nextOf (exec (.penaltyEnd 7) (setPenalty 7 1 base))).map (fun t => (lineOf t 7).penalty) = some none ∧
    s.rst = false ∧ (timerOf s 3).phase = .counting ∧ (timerOf s 3).counter ≤ 1 ∧ Soonest s.clock.frameTimer s ∧
    (∀ v, v < 24 → sounding (voiceOf s v) = false) ∧ (∀ j, j < 4 → j ≠ 3 → (timerOf s j).phase ≠ .counting) ∧ s.clock.state ≠ .house ∧
    timerMode base.shadow 3 = .oneShot ∧ timerMode (withWords 0x48 [1] base).shadow 3 = .repeating ∧
    timerMode (withWords 0x48 [2] base).shadow 3 = .hold ∧ timerMode (withWords 0x48 [3] base).shadow 3 = .win ∧
    boardInterval b.shadow ≠ 0 ∧ boardInterval b.shadow ≤ b.boardCount + 1 ∧ Soonest b.clock.frameTimer b ∧
    sounding (voiceOf b 23) = true ∧
    (nextOf (exec (.frameTimerExpiry .plain) b)).map (fun t => (t.boardCount, (voiceOf t 23).boardFlag)) = some (0, true) := by
  simp only [← mayPass_iff]
  decide +kernel

/-- The boundary counts: the third late edge, the 4800th period, a bridge of 0 and of 1; times that may pass; and a silent part. -/
theorem witness_FrameClockFollowsItsTables :
    let clocked := fun c => { base with clock := c }
    Silent base ∧ Soonest base.clock.frameTimer base ∧ Soonest 5 (clocked ⟨.relocking, 250, 9, 5, 0⟩) ∧
    (nextOf (exec (.frameTimerExpiry .plain) (clocked ⟨.house, 250, 4800, 0, 1⟩))).map (fun t => (t.clock.state, t.clock.bridge)) =
      some (.house, 2) ∧
    (nextOf (exec (.wclkEdge 0 .plain) (clocked ⟨.relocking, 250, 4798, 750, 0⟩))).map (fun t => t.clock.relock) = some 4799 ∧
    (nextOf (exec (.wclkEdge 0 .plain) (clocked ⟨.house, 250, 4800, 0, 1⟩))).map (fun t => (t.clock.bridge, t.frameCounter)) =
      some (0, 0) ∧
    (nextOf (exec (.wclkEdge 0 .plain) (clocked ⟨.house, 250, 4800, 0, 0⟩))).map (fun t => (t.clock.bridge, t.frameCounter)) =
      some (0, 1) ∧
    (nextOf (exec .gapTimerExpiry (clocked ⟨.relocking, 250, 9, 5, 0⟩))).map (fun t => t.clock) = some ⟨.freerun, 245, 0, 0, 0⟩ := by
  simp only [Silent, ← mayPass_iff]
  decide +kernel

/-- Clip 20 RETIRING in its last use, its slot 7 DRAINING with its last reader. -/
def retiring : State :=
  setSlot 7 ⟨.draining, 20, 256, 256, 1, []⟩
    (setClip 20 { readyClip 2 0x2000000 36000 with state := .retiring, uses := 1, headSlot := some 7 } base)

/-- A voice with frames, one in an underrun, one at its tail position, one on its last frame; the burst of the two that leave it
stale; and a last frame in an underrun, on a RETIRING clip in its last use, and one on a DRAINING slot with its last reader. -/
theorem witness_VoiceFrameFollowsItsStages :
    let burst := fun old => some (PortAccess.burst ⟨23, 0, 0, 8, 0, 2, old⟩)
    let frame := fun x => (voiceFrame 23 ⟨{ setVoice 23 x base with port := burst false }, Vector.replicate 4 BusSum.zero, []⟩).state
    let run := fun x => voiceOf (frame x) 23
    let x := steadyVoice 9 20
    sounding x = true ∧ (run x).due = 11 ∧ (frame x).port = burst false ∧
    (run { x with fifo := [] }).underruns = 1 ∧ (frame { x with fifo := [] }).port = burst true ∧
    (run { x with tail := true, due := 997 }).state = .falling ∧ (run { x with tail := true, due := 996 }).state = .steady ∧
    (run { x with due := 999 }).lastEnd = .complete ∧ (frame { x with due := 999 }).port = burst true ∧
    CanAppend 3 base ∧
    (voiceFrame 23 ⟨setVoice 23 { x with due := 999, fifo := [] } retiring, Vector.replicate 4 BusSum.zero, []⟩).state.queue.map shown =
      [[0x14, 9, 23, 0x140003E7, 0], [0x11, 9, 23, 0x11409, 0], [0x33, 20, 0, 0x2000000, 0]] ∧
    slotOf (voiceFrame 23 ⟨setVoice 23 { x with due := 255, headFlag := true, headSlot := 7 } retiring,
      Vector.replicate 4 BusSum.zero, []⟩).state 7 = HeadSlot.blank := by
  unfold CanAppend
  and_intros <;> decide +kernel

/-- A lone voice in FREERUN, and its frame on PGM: 100 and 200 at level and envelope 4096, PLAY 0. -/
theorem witness_BusesAreFormedFromTheirSums :
    let s := setVoice 23 (steadyVoice 9 20) base
    s.rst = false ∧ s.clock.state = .freerun ∧ Soonest s.clock.frameTimer s ∧ s.boardCount + 1 < boardInterval s.shadow ∧
    (∀ k, k < 4 → (timerOf s k).phase ≠ .counting) ∧
    sounding (voiceOf s 23) = true ∧ (∀ w, w < 24 → w ≠ 23 → sounding (voiceOf s w) = false) ∧
    (nextOf (exec (.frameTimerExpiry .plain) s)).map (fun t => busOf t 0) = some ⟨4096, 0, 100, 200, 0, 0⟩ := by
  simp only [← mayPass_iff]
  decide +kernel

/-- A lone voice on its last frame, with follow cue `cue`; cue 41 may be fired. -/
def following (cue : Nat) : State :=
  setVoice 23 { steadyVoice 9 20 with due := 999, followOn := true, followCue := cue }
    (withCue 41 [0x10001401, 0, 0, 0, 0, 0, 0x00010000, 0x200] stings)

/-- Its frame event: follow cue 41 takes the lowest IDLE voice behind CUE_END, also where a bus is formed first; follow cue 45, not
armed, is refused with source FOLLOW. -/
theorem witness_FollowFires :
    let s := following 41
    let r := voiceFrame 23 ⟨{ elapse s.clock.frameTimer s with frameCounter := 1 }, Vector.replicate 4 BusSum.zero, []⟩
    Soonest s.clock.frameTimer s ∧ (∀ w, w < 24 → w ≠ 23 → sounding (voiceOf s w) = false) ∧ r.follows = [(23, 41)] ∧
    (∀ b, b < 4 → (busOf (formBus r.sums b r.state) b).clips = 0 ∧ (busOf r.state b).clips = 0) ∧ CanAppend 2 r.state ∧
    fireChecks ⟨.follow, 0, 41, false⟩ (cueRecord r.state.shadow 41) r.state = none ∧ (voiceOf r.state 0).state = .idle ∧
    (nextOf (exec (.frameTimerExpiry ⟨[], [.bus 2, .follow 23]⟩) s)).map (fun t => ((voiceOf t 0).cue, t.queue.map shown)) =
      some (41, [[0x11, 9, 23, 0x1409, 0], [0x10, 41, 0, 0x140003, 0]]) ∧
    (nextOf (exec (.frameTimerExpiry .plain) (following 45))).map (fun t => t.queue.map shown) =
      some [[0x11, 9, 23, 0x1409, 0], [0x12, 45, 3, 5, 0]] := by
  simp only [← mayPass_iff, CanAppend]
  and_intros <;> decide +kernel

end Sys2Proof.Tests

end
end

section
/-!
SUPPORT. What the grant behind a step leaves of the parts that presses, releases and fires speak of, and the frames of steps that
stay within the Lines block or go through the Voice Engine.
-/

namespace Sys2Proof.Machine

/-- Writing back the element that a bank holds changes nothing. -/
theorem bankSet_bankGet {α : Type} {n : Nat} (xs : Vector α n) (i : Nat) (d : α) : bankSet xs i (bankGet xs i d) = xs := by
  ext j hj
  simp only [bankSet, bankGet, Vector.getElem_setIfInBounds]
  split
  · rename_i hij
    subst hij
    simp [hj]
  · rfl

/-! ### What a step of the Voice Engine leaves -/

section
variable {s t : State} (h : VoiceOnly s t)
include h

theorem VoiceOnly.rst_eq : t.rst = s.rst := by rw [h.1]
theorem VoiceOnly.sweep_eq : t.sweep = s.sweep := by rw [h.1]
theorem VoiceOnly.shadow_eq : t.shadow = s.shadow := by rw [h.1]
theorem VoiceOnly.lines_eq : t.lines = s.lines := by rw [h.1]
theorem VoiceOnly.lockout_eq : t.lockout = s.lockout := by rw [h.1]
theorem VoiceOnly.timers_eq : t.timers = s.timers := by rw [h.1]
theorem VoiceOnly.frameCounter_eq : t.frameCounter = s.frameCounter := by rw [h.1]

end

/-! ### Raising an event -/

section
variable (k : EventKind) (a b : Nat) (value : Word) (s : State)

@[simp] theorem raiseEvent_rst : (raiseEvent k a b value s).rst = s.rst := by rw [raiseEvent_only]
@[simp] theorem raiseEvent_sweep : (raiseEvent k a b value s).sweep = s.sweep := by rw [raiseEvent_only]
@[simp] theorem raiseEvent_port : (raiseEvent k a b value s).port = s.port := by rw [raiseEvent_only]
@[simp] theorem raiseEvent_shadow : (raiseEvent k a b value s).shadow = s.shadow := by rw [raiseEvent_only]
@[simp] theorem raiseEvent_clips : (raiseEvent k a b value s).clips = s.clips := by rw [raiseEvent_only]
@[simp] theorem raiseEvent_slots : (raiseEvent k a b value s).slots = s.slots := by rw [raiseEvent_only]
@[simp] theorem raiseEvent_lines : (raiseEvent k a b value s).lines = s.lines := by rw [raiseEvent_only]
@[simp] theorem raiseEvent_lockout : (raiseEvent k a b value s).lockout = s.lockout := by rw [raiseEvent_only]
@[simp] theorem raiseEvent_timers : (raiseEvent k a b value s).timers = s.timers := by rw [raiseEvent_only]
@[simp] theorem raiseEvent_voices : (raiseEvent k a b value s).voices = s.voices := by rw [raiseEvent_only]
@[simp] theorem raiseEvent_frameCounter : (raiseEvent k a b value s).frameCounter = s.frameCounter := by rw [raiseEvent_only]
@[simp] theorem raiseEvent_draws : (raiseEvent k a b value s).draws = s.draws := by rw [raiseEvent_only]

end

/-! ### The grant -/

section
variable (s : State)

@[simp] theorem arbitrate_lines : (arbitrate s).lines = s.lines := arbitrate_frame s .lines (by simp)
@[simp] theorem arbitrate_lockout : (arbitrate s).lockout = s.lockout := arbitrate_frame s .lockout (by simp)
@[simp] theorem arbitrate_timers : (arbitrate s).timers = s.timers := arbitrate_frame s .timers (by simp)
@[simp] theorem arbitrate_clips : (arbitrate s).clips = s.clips := (arbitrate_frame s .clips (by simp)).1
@[simp] theorem arbitrate_slots : (arbitrate s).slots = s.slots := arbitrate_frame s .slots (by simp)
@[simp] theorem arbitrate_queue : (arbitrate s).queue = s.queue := (arbitrate_frame s .queue (by simp)).1
@[simp] theorem arbitrate_lost : (arbitrate s).lost = s.lost := (arbitrate_frame s .queue (by simp)).2.1
@[simp] theorem arbitrate_nextSeq : (arbitrate s).nextSeq = s.nextSeq := (arbitrate_frame s .queue (by simp)).2.2

end

@[simp] theorem lineOf_arbitrate (s : State) (n : Nat) : lineOf (arbitrate s) n = lineOf s n := by simp [lineOf]
@[simp] theorem timerOf_arbitrate (s : State) (k : Nat) : timerOf (arbitrate s) k = timerOf s k := by simp [timerOf]
@[simp] theorem clipOf_arbitrate (s : State) (c : Nat) : clipOf (arbitrate s) c = clipOf s c := by simp [clipOf]

/-- What raising an event depends on is the same in `p` and `s`: the pending queue and its counts, the stamp, RST#, the sweep and the
port. -/
def QueueAlike (p s : State) : Prop :=
  s.rst = p.rst ∧ s.sweep = p.sweep ∧ s.port = p.port ∧ s.frameCounter = p.frameCounter ∧ s.queue = p.queue ∧ s.lost = p.lost ∧
    s.nextSeq = p.nextSeq

/-- An event raised last, behind changes that raising does not depend on, is raised as at the start of the step. -/
theorem raises_arbitrate {k : EventKind} {a b : Nat} {value : Word} {p s u : State} (h : QueueAlike p s)
    (hu : u.queue = (raiseEvent k a b value s).queue ∧ u.lost = (raiseEvent k a b value s).lost ∧
      u.nextSeq = (raiseEvent k a b value s).nextSeq) : Raises k a b value p (arbitrate u) := by
  obtain ⟨hrst, hsweep, hport, hstamp, hqueue, hlost, hnext⟩ := h
  obtain ⟨huq, hul, hun⟩ := hu
  have hgranted : headGranted s = headGranted p := by simp only [headGranted, hport]
  rw [Raises, arbitrate_queue, arbitrate_lost, arbitrate_nextSeq, huq, hul, hun]
  simp only [raiseEvent, splitQueue, loseEvent, appendEvent, hrst, hsweep, hstamp, hqueue, hlost, hnext, hgranted]
  split_ifs <;> simp [hqueue, hlost, hnext]

/-- An access on the port stands through a grant. -/
theorem arbitrate_port_of_taken {s : State} {a : PortAccess} (h : s.port = some a) : (arbitrate s).port = some a := by
  unfold arbitrate
  rw [arbitrateAside_taken false s (by simp [h])]
  exact h

/-- A voice record that stands before the grant is held behind it. -/
theorem voiceHolds_arbitrate {s u : State} (hport : u.port = none ↔ s.port = none) (v : Nat) :
    VoiceHolds s (arbitrate u) v (voiceOf u v) := by
  have hg : granted [] s (arbitrate u) = granted [] u (arbitrate u) := by simp [granted, hport]
  unfold VoiceHolds
  rw [hg]
  exact arbitrate_frame u .voices (by simp) v

/-! ### Frames -/

/-- The frame of what time and the Lines block do by themselves: the lines, the lockout, the timers, the clock, an event, marks. -/
theorem same_of_linesBlock {ps : List Part} {s t : State}
    (h : t = { s with
      lines := t.lines, lockout := t.lockout, timers := t.timers, clock := t.clock, queue := t.queue, lost := t.lost,
      nextSeq := t.nextSeq, marks := t.marks })
    (hl : .lines ∈ ps ∨ t.lines = s.lines) (ho : .lockout ∈ ps ∨ t.lockout = s.lockout)
    (ht : .timers ∈ ps ∨ t.timers = s.timers) (hc : .clock ∈ ps ∨ t.clock = s.clock) (hm : .marks ∈ ps ∨ t.marks = s.marks)
    (hq : .queue ∈ ps ∨ t.queue = s.queue ∧ t.lost = s.lost ∧ t.nextSeq = s.nextSeq) : ∀ p, p ∉ ps → Same p s t := by
  intro p hp
  cases p
  case lines => exact hl.resolve_left hp
  case lockout => exact ho.resolve_left hp
  case timers => exact ht.resolve_left hp
  case clock => exact hc.resolve_left hp
  case marks => exact hm.resolve_left hp
  case queue => exact hq.resolve_left hp
  case stale =>
    rw [h]
    exact same_refl .stale s
  all_goals
    rw [h]
    simp [Same, Kept, servedVoice, writeBacksLeft, againLeft, CopyLeft, voiceOf]

/-- `t` is `s` but for the lines, the lockout, the timers, marks, and what a step of the Voice Engine changes. -/
def PressOnly (s t : State) : Prop :=
  t = { s with
    lines := t.lines, lockout := t.lockout, timers := t.timers, marks := t.marks, voices := t.voices, clips := t.clips,
    mirrorFlags := t.mirrorFlags, mirrorAgain := t.mirrorAgain, slots := t.slots, queue := t.queue, lost := t.lost,
    nextSeq := t.nextSeq, port := t.port, draws := t.draws } ∧ PortStands s t

theorem PressOnly.trans {s t u : State} (h1 : PressOnly s t) (h2 : PressOnly t u) : PressOnly s u := by
  refine ⟨?_, h1.2.trans h2.2⟩
  rw [h2.1, h1.1]

theorem VoiceOnly.pressOnly {s t : State} (h : VoiceOnly s t) : PressOnly s t := by
  refine ⟨?_, h.2⟩
  rw [h.1]

theorem pressOnly_lines (s : State) (ls : Vector Line 10) : PressOnly s { s with lines := ls } := ⟨rfl, .inl rfl⟩
theorem pressOnly_timers (s : State) (ts : Vector CueTimer 4) : PressOnly s { s with timers := ts } := ⟨rfl, .inl rfl⟩

theorem pressOnly_setLockout (lo : Lockout) (s : State) : PressOnly s (setLockout lo s) := by
  refine ⟨?_, .inl ?_⟩ <;> rw [setLockout_only]

/-- The frame of a press or release that goes through the Voice Engine too: `ps` holds the engine's parts. -/
theorem PressOnly.same {ps : List Part} {s t : State} (h : PressOnly s t) (hv : ∀ p ∈ voiceParts, p ∈ ps)
    (hl : .lines ∈ ps ∨ t.lines = s.lines) (ho : .lockout ∈ ps ∨ t.lockout = s.lockout)
    (ht : .timers ∈ ps ∨ t.timers = s.timers) (hm : .marks ∈ ps ∨ t.marks = s.marks)
    (hd : .waiting ∈ ps ∨ t.draws = s.draws) : ∀ p, p ∉ ps → Same p s t := by
  intro p hp
  have hn : p ∉ voiceParts := fun hq => hp (hv p hq)
  cases p
  case lines => exact hl.resolve_left hp
  case lockout => exact ho.resolve_left hp
  case timers => exact ht.resolve_left hp
  case marks => exact hm.resolve_left hp
  case port => exact .inr h.2
  case waiting => exact ⟨by rw [h.1], hd.resolve_left hp⟩
  case voices | stale | clips | mirror | slots | queue => exact absurd hn (by simp [voiceParts])
  all_goals
    rw [h.1]
    simp [Same, Kept, writeBacksLeft, CopyLeft]

end Sys2Proof.Machine
end

section
/-!
SUPPORT. The ends of voices (R140): what one end does to the voices, the clips, the head slots, the burst in flight and the pending
queue, and what ends that come one after the other do together. A pass over the voices that ends some of them is then read off the
record that it gives each voice.
-/

namespace Sys2Proof.Machine

/-! ### Events raised one after the other -/

/-- These events are appended, where the pending queue has room for all of them. -/
def AppendsIfRoom (es : List RaisedEvent) (s t : State) : Prop := CanAppend es.length s → Appended es s t

theorem canAppend_mono {m n : Nat} {s : State} (hmn : m ≤ n) (h : CanAppend n s) : CanAppend m s :=
  ⟨h.1, h.2.1, (Nat.add_le_add_left hmn _).trans h.2.2⟩

theorem appendsIfRoom_nil {s t : State} (h : t.queue = s.queue) : AppendsIfRoom [] s t := fun _ => by simp [Appended, h]

/-- An event of a kind that does not merge is appended. -/
theorem appendsIfRoom_raise {k : EventKind} (hk : k.merges = false) (a b : Nat) (value : Word) (s : State) :
    AppendsIfRoom [(k, a, b, value)] s (raiseEvent k a b value s) := by
  rintro ⟨hr, hw, hq⟩
  have hlen : s.queue.length < Config.queueCapacity := hq
  simp [Appended, raiseEvent, hr, hw, hk, hlen, appendEvent, eventOf]

theorem appendsIfRoom_trans {es fs : List RaisedEvent} {s t u : State} (hr : t.rst = s.rst) (hw : t.sweep = s.sweep)
    (hf : t.frameCounter = s.frameCounter) (h1 : AppendsIfRoom es s t) (h2 : AppendsIfRoom fs t u) :
    AppendsIfRoom (es ++ fs) s u := by
  rintro ⟨hrst, hsweep, hlen⟩
  simp only [List.length_append] at hlen
  have ht : Appended es s t := h1 ⟨hrst, hsweep, by omega⟩
  have hq : t.queue.length = s.queue.length + es.length := by simpa using congrArg List.length ht
  have hu : Appended fs t u := h2 ⟨hr.trans hrst, hw.trans hsweep, by omega⟩
  unfold Appended at *
  simp [hu, ht, hf]

/-- An event of a kind that does not merge leaves the records pending where they are. -/
theorem raiseEvent_queue_prefix {k : EventKind} (hk : k.merges = false) (a b : Nat) (value : Word) (s : State) :
    s.queue <+: (raiseEvent k a b value s).queue := by
  simp only [raiseEvent, hk, Bool.false_and, Bool.false_eq_true, if_false]
  split_ifs <;> simp [loseEvent, appendEvent]

/-! ### The burst in flight -/

/-- The access on the port once these ends have come: a burst of a voice that ended is stale (R154). -/
def staledBy (ends : List VoiceEnd) : Option PortAccess → Option PortAccess
  | some (.burst b) => some (.burst { b with stale := b.stale || ends.any (fun e => e.1 == b.voice) })
  | a => a

theorem staledBy_nil (a : Option PortAccess) : staledBy [] a = a := by
  unfold staledBy
  split <;> simp

theorem staledBy_append (e1 e2 : List VoiceEnd) (a : Option PortAccess) :
    staledBy (e1 ++ e2) a = staledBy e2 (staledBy e1 a) := by
  unfold staledBy
  split <;> simp [Bool.or_assoc]

theorem staledBy_other (ends : List VoiceEnd) {a : Option PortAccess} (h : ∀ b, a ≠ some (.burst b)) : staledBy ends a = a := by
  unfold staledBy
  split
  · exact absurd rfl (h _)
  · rfl

/-- The Fetcher marks the burst of a voice stale as the end of that voice does. -/
theorem staleBurst_eq (v : Nat) (x : Voice) (r : EndReason) (s : State) :
    staleBurst v s = { s with port := staledBy [(v, x, r)] s.port } := by
  unfold staleBurst
  split
  · rename_i b hb
    rw [hb]
    by_cases h : b.voice = v
    · simp [h, staledBy]
    · have hv : (v == b.voice) = false := by simp [Ne.symm h]
      simp only [h, if_false, staledBy, List.any_cons, List.any_nil, hv, Bool.or_false]
      rw [← hb]
  · rename_i hb
    rw [staledBy_other _ hb]

section
variable (v : Nat) (s : State)

@[simp] theorem staleBurst_clips : (staleBurst v s).clips = s.clips := by rw [staleBurst_eq v Voice.blank .none]
@[simp] theorem staleBurst_slots : (staleBurst v s).slots = s.slots := by rw [staleBurst_eq v Voice.blank .none]
@[simp] theorem staleBurst_voices : (staleBurst v s).voices = s.voices := by rw [staleBurst_eq v Voice.blank .none]
@[simp] theorem staleBurst_queue : (staleBurst v s).queue = s.queue := by rw [staleBurst_eq v Voice.blank .none]
@[simp] theorem staleBurst_draws : (staleBurst v s).draws = s.draws := by rw [staleBurst_eq v Voice.blank .none]

end

/-! ### Ends that come one after the other -/

theorem usesEnded_append (c : Nat) (e1 e2 : List VoiceEnd) : usesEnded c (e1 ++ e2) = usesEnded c e1 + usesEnded c e2 := by
  simp [usesEnded]

theorem readersEnded_append (k : Nat) (e1 e2 : List VoiceEnd) :
    readersEnded k (e1 ++ e2) = readersEnded k e1 + readersEnded k e2 := by
  simp [readersEnded]

theorem usesCounted_append {e1 e2 : List VoiceEnd} {c : Nat} {s t u : State} (h1 : UsesCounted e1 0 c s t)
    (h2 : UsesCounted e2 0 c t u) : UsesCounted (e1 ++ e2) 0 c s u := by
  obtain ⟨huses1, hstate1⟩ := h1
  obtain ⟨huses2, hstate2⟩ := h2
  simp only [UsesCounted, usesEnded_append]
  refine ⟨by omega, ?_⟩
  rw [hstate2, huses1, hstate1]
  by_cases hr : (clipOf s c).state = .retiring
  · by_cases hempty : 0 < usesEnded c e1 ∧ (clipOf s c).uses ≤ usesEnded c e1
    · have hboth : 0 < usesEnded c e1 + usesEnded c e2 ∧ (clipOf s c).uses ≤ usesEnded c e1 + usesEnded c e2 := by omega
      simp [hr, hempty, hboth]
    · have hboth : (0 < usesEnded c e2 ∧ (clipOf s c).uses - usesEnded c e1 + 0 ≤ usesEnded c e2) ↔
          (0 < usesEnded c e1 + usesEnded c e2 ∧ (clipOf s c).uses ≤ usesEnded c e1 + usesEnded c e2) := by omega
      simp only [hr, hempty, hboth, true_and, and_false, if_false]
  · simp [hr]

theorem readersCounted_add {l1 l2 k : Nat} {s t u : State} (h1 : ReadersCounted l1 0 k s t) (h2 : ReadersCounted l2 0 k t u) :
    ReadersCounted (l1 + l2) 0 k s u := by
  simp only [ReadersCounted] at *
  rw [h2, h1]
  generalize slotOf s k = h
  by_cases hfree : h.state = .draining ∧ 0 < l1 ∧ h.readers ≤ l1
  · have hboth : h.state = .draining ∧ 0 < l1 + l2 ∧ h.readers ≤ l1 + l2 := ⟨hfree.1, by omega, by omega⟩
    simp [hfree, hboth, HeadSlot.blank]
  · have hboth : (h.state = .draining ∧ 0 < l2 ∧ h.readers - l1 ≤ l2) ↔
        (h.state = .draining ∧ 0 < l1 + l2 ∧ h.readers ≤ l1 + l2) := by
      by_cases hd : h.state = .draining <;> simp only [hd, true_and, false_and] at hfree ⊢
      omega
    simp only [if_neg hfree, Nat.add_zero, hboth, Nat.sub_sub]

/-- What ends do, all but to the voices' records: the use counts and states of the clips, the readers of the head slots, the burst in
flight, and their events in order (R64, R66, R70, R140, R141, R154). The base of a clip is kept until it is EMPTY, so that a later
CLIP_EMPTY shows it. -/
structure EndsTaken (ends : List VoiceEnd) (s t : State) : Prop where
  only : VoiceOnly s t
  draws : t.draws = s.draws
  port : t.port = staledBy ends s.port
  uses : ∀ c, UsesCounted ends 0 c s t
  base : ∀ c, (clipOf t c).state ≠ .empty → (clipOf t c).base = (clipOf s c).base
  readers : ∀ k, ReadersCounted (readersEnded k ends) 0 k s t
  events : AppendsIfRoom (endEvents s [] ends) s t

/-- Whether the next end is the last use of a RETIRING clip, told from the state behind earlier ends (R66). -/
theorem lastUse_behind {e1 : List VoiceEnd} {c : Nat} {s t : State} (h : UsesCounted e1 0 c s t) (n : Nat) :
    ((clipOf t c).state = .retiring ∧ (n = 0 ∨ n < (clipOf t c).uses) ∧ (clipOf t c).uses ≤ n + 1) ↔
      ((clipOf s c).state = .retiring ∧ (usesEnded c e1 + n = 0 ∨ usesEnded c e1 + n < (clipOf s c).uses) ∧
        (clipOf s c).uses ≤ usesEnded c e1 + n + 1) := by
  obtain ⟨huses, hstate⟩ := h
  rw [hstate, huses]
  by_cases hr : (clipOf s c).state = .retiring
  · by_cases hempty : 0 < usesEnded c e1 ∧ (clipOf s c).uses ≤ usesEnded c e1
    · simp only [hr, hempty, and_self, if_true, reduceCtorEq, false_and, true_and, false_iff]
      omega
    · simp only [hr, hempty, and_false, if_false, true_and]
      omega
  · simp [hr]

/-- The events of ends, told from the state behind those that came before. -/
theorem endEvents_behind {e1 : List VoiceEnd} {s t : State} (hu : ∀ c, UsesCounted e1 0 c s t)
    (hb : ∀ c, (clipOf t c).state ≠ .empty → (clipOf t c).base = (clipOf s c).base) (before ends : List VoiceEnd) :
    endEvents t before ends = endEvents s (e1 ++ before) ends := by
  induction ends generalizing before with
  | nil => rfl
  | cons e rest ih =>
    obtain ⟨v, x, reason⟩ := e
    have hlast := lastUse_behind (hu x.clip) (usesEnded x.clip before)
    simp only [endEvents, ih, List.append_assoc, usesEnded_append]
    congr 2
    split_ifs with ht hs hs
    · rw [hb x.clip (by simp [ht.1])]
    · exact absurd (hlast.mp ht) hs
    · exact absurd (hlast.mpr hs) ht
    · rfl

theorem endEvents_append (s : State) (before e1 e2 : List VoiceEnd) :
    endEvents s before (e1 ++ e2) = endEvents s before e1 ++ endEvents s (before ++ e1) e2 := by
  induction e1 generalizing before with
  | nil => simp [endEvents]
  | cons e rest ih =>
    obtain ⟨v, x, reason⟩ := e
    simp [endEvents, ih]

/-- Each end raises one event or two. -/
theorem length_endEvents_le (s : State) (before ends : List VoiceEnd) : (endEvents s before ends).length ≤ 2 * ends.length := by
  induction ends generalizing before with
  | nil => simp [endEvents]
  | cons e rest ih =>
    obtain ⟨v, x, reason⟩ := e
    have := ih (before ++ [(v, x, reason)])
    simp only [endEvents, List.length_cons, List.length_append]
    split_ifs <;> simp <;> omega

/-- A step that ends no voice, and changes none but voice records. -/
theorem endsTaken_of_voices {s t : State} (h : t = { s with voices := t.voices }) : EndsTaken [] s t := by
  refine ⟨⟨?_, .inl ?_⟩, ?_, ?_, fun c => ?_, fun c _ => ?_, fun k => ?_, appendsIfRoom_nil ?_⟩ <;> rw [h]
  · rw [staledBy_nil]
  · constructor <;> simp [usesEnded, clipOf]
  · rfl
  · simp [ReadersCounted, readersEnded, slotOf]

theorem EndsTaken.refl (s : State) : EndsTaken [] s s := endsTaken_of_voices rfl

/-- Ends that come behind others add up. -/
theorem EndsTaken.trans {e1 e2 : List VoiceEnd} {s t u : State} (h1 : EndsTaken e1 s t) (h2 : EndsTaken e2 t u) :
    EndsTaken (e1 ++ e2) s u where
  only := h1.only.trans h2.only
  draws := h2.draws.trans h1.draws
  port := by rw [staledBy_append, ← h1.port, h2.port]
  uses c := usesCounted_append (h1.uses c) (h2.uses c)
  base c hc := by
    have ht : (clipOf t c).state ≠ .empty := by
      intro he
      exact hc (by simpa [he] using (h2.uses c).2)
    rw [h2.base c hc, h1.base c ht]
  readers k := by
    rw [readersEnded_append]
    exact readersCounted_add (h1.readers k) (h2.readers k)
  events := by
    have h := h2.events
    rw [endEvents_behind h1.uses h1.base, List.append_nil] at h
    rw [endEvents_append, List.nil_append]
    exact appendsIfRoom_trans h1.only.rst_eq h1.only.sweep_eq h1.only.frameCounter_eq h1.events h

end Sys2Proof.Machine
end

section
/-!
SUPPORT. One end of a voice (R140), step by step: off its head slot, its FIFO emptied, CUE_END raised, its clip's use count lowered.
-/

namespace Sys2Proof.Machine

/-! ### One end -/

theorem slotOf_beyond {k : Nat} (s : State) (hk : ¬ k < 8) : slotOf s k = HeadSlot.blank := by simp [slotOf, bankGet, hk]

@[simp] theorem slotOf_setClip (c k : Nat) (e : ClipEntry) (s : State) : slotOf (setClip c e s) k = slotOf s k := rfl
@[simp] theorem clipOf_setVoice (v c : Nat) (x : Voice) (s : State) : clipOf (setVoice v x s) c = clipOf s c := rfl
@[simp] theorem slotOf_setVoice (v k : Nat) (x : Voice) (s : State) : slotOf (setVoice v x s) k = slotOf s k := rfl
@[simp] theorem clipOf_staleBurst (v c : Nat) (s : State) : clipOf (staleBurst v s) c = clipOf s c := by simp [clipOf]
@[simp] theorem voiceOf_staleBurst (v w : Nat) (s : State) : voiceOf (staleBurst v s) w = voiceOf s w := by simp [voiceOf]
@[simp] theorem clipOf_raiseEvent (k : EventKind) (a b : Nat) (value : Word) (s : State) (c : Nat) :
    clipOf (raiseEvent k a b value s) c = clipOf s c := by simp [clipOf]
@[simp] theorem voiceOf_raiseEvent (k : EventKind) (a b : Nat) (value : Word) (s : State) (v : Nat) :
    voiceOf (raiseEvent k a b value s) v = voiceOf s v := by simp [voiceOf]

/-- A reader that leaves a slot changes clips and slots alone. -/
theorem dropReader_eq (j : Nat) (s : State) :
    dropReader j s = { s with
      clips := (dropReader j s).clips, mirrorFlags := (dropReader j s).mirrorFlags,
      mirrorAgain := (dropReader j s).mirrorAgain, slots := (dropReader j s).slots } := by
  simp only [dropReader]
  split <;> rfl

theorem slotOf_dropReader (j k : Nat) (s : State) :
    slotOf (dropReader j s) k =
      if j = k ∧ k < 8 then
        (if (slotOf s k).state = .draining ∧ (slotOf s k).readers - 1 = 0 then HeadSlot.blank
        else { slotOf s k with readers := (slotOf s k).readers - 1 })
      else slotOf s k := by
  simp only [dropReader, freeSlot]
  by_cases hj : j = k ∧ k < 8
  · obtain ⟨rfl, hk⟩ := hj
    split <;> simp_all [slotOf_setSlot]
  · split <;> simp [slotOf_setSlot, hj]

/-- A reader less in one slot, which may free it (R70). -/
theorem dropReader_readers (j k : Nat) (s : State) :
    ReadersCounted (if j = k then 1 else 0) 0 k s (dropReader j s) := by
  simp only [ReadersCounted, slotOf_dropReader]
  by_cases hj : j = k
  · by_cases hk : k < 8
    · have : (slotOf s k).readers - 1 = 0 ↔ (slotOf s k).readers ≤ 1 := by omega
      simp [hj, hk, this]
    · simp [hk, slotOf_beyond, HeadSlot.blank]
  · simp [hj]

/-- It keeps of a clip all but its head slot. -/
theorem clipOf_dropReader (j c : Nat) (s : State) :
    clipOf (dropReader j s) c = { clipOf s c with headSlot := (clipOf (dropReader j s) c).headSlot } := by
  simp only [dropReader, freeSlot]
  split
  · simp only [clipOf_setClip]
    split
    · rename_i h
      obtain ⟨rfl, -⟩ := h
      rfl
    · rfl
  · rfl

/-- A voice that leaves its head slot changes voices, clips and slots alone. -/
theorem leaveSlot_eq (v : Nat) (s : State) :
    leaveSlot v s = { s with
      voices := (leaveSlot v s).voices, clips := (leaveSlot v s).clips, mirrorFlags := (leaveSlot v s).mirrorFlags,
      mirrorAgain := (leaveSlot v s).mirrorAgain, slots := (leaveSlot v s).slots } := by
  simp only [leaveSlot]
  split
  · rw [dropReader_eq]
    rfl
  · rfl

section
variable (v : Nat) (s : State)

@[simp] theorem leaveSlot_queue : (leaveSlot v s).queue = s.queue := by rw [leaveSlot_eq]
@[simp] theorem leaveSlot_draws : (leaveSlot v s).draws = s.draws := by rw [leaveSlot_eq]
@[simp] theorem leaveSlot_port : (leaveSlot v s).port = s.port := by rw [leaveSlot_eq]

end

theorem voiceOf_leaveSlot {v : Nat} (hv : v < 24) (w : Nat) (s : State) :
    voiceOf (leaveSlot v s) w =
      if v = w then
        { voiceOf s w with headFlag := false, headSlot := if (voiceOf s w).headFlag then 0 else (voiceOf s w).headSlot }
      else voiceOf s w := by
  have hdrop : ∀ j t, voiceOf (dropReader j t) w = voiceOf t w := fun j t => by rw [dropReader_eq]; rfl
  simp only [leaveSlot]
  by_cases hw : v = w
  · subst hw
    split
    · simp_all [voiceOf_setVoice]
    · generalize voiceOf s v = x at *
      cases x
      simp_all
  · split <;> simp [hdrop, voiceOf_setVoice, hw]

/-- The voice's head slot has a reader less. -/
theorem leaveSlot_readers (v k : Nat) (s : State) :
    ReadersCounted (if (voiceOf s v).headFlag && (voiceOf s v).headSlot == k then 1 else 0) 0 k s (leaveSlot v s) := by
  simp only [leaveSlot]
  by_cases hf : (voiceOf s v).headFlag
  · have h := dropReader_readers (voiceOf s v).headSlot k
      (setVoice v { voiceOf s v with headFlag := false, headSlot := 0 } s)
    simp only [ReadersCounted, slotOf_setVoice] at h ⊢
    simpa [hf] using h
  · simp [hf, ReadersCounted]

theorem clipOf_leaveSlot (v c : Nat) (s : State) :
    clipOf (leaveSlot v s) c = { clipOf s c with headSlot := (clipOf (leaveSlot v s) c).headSlot } := by
  simp only [leaveSlot]
  split
  · exact clipOf_dropReader _ c _
  · rfl

theorem clipOf_lowerUse (c d : Nat) (s : State) :
    clipOf (lowerUse c s) d =
      if c = d ∧ d < 128 then
        (if (clipOf s d).state = .retiring ∧ (clipOf s d).uses - 1 = 0 then ClipEntry.blank
        else { clipOf s d with uses := (clipOf s d).uses - 1 })
      else clipOf s d := by
  simp only [lowerUse]
  by_cases hc : c = d ∧ d < 128
  · obtain ⟨rfl, hd⟩ := hc
    split <;> simp_all [clipOf_setClip]
  · split <;> simp [clipOf_setClip, hc]

theorem clipOf_beyond {c : Nat} (s : State) (hc : ¬ c < 128) : clipOf s c = ClipEntry.blank := by simp [clipOf, bankGet, hc]

/-- The use count of the voice's clip has fallen by one (R64, R66). -/
theorem lowerUse_uses (v c : Nat) (x : Voice) (r : EndReason) (s : State) :
    UsesCounted [(v, x, r)] 0 c s (lowerUse x.clip s) := by
  simp only [UsesCounted, clipOf_lowerUse, usesEnded, List.filter_cons, List.filter_nil]
  by_cases hx : x.clip = c
  · by_cases hc : c < 128
    · have h0 : (clipOf s c).uses - 1 = 0 ↔ (clipOf s c).uses ≤ 1 := by omega
      by_cases he : (clipOf s c).state = .retiring ∧ (clipOf s c).uses ≤ 1
      · simp [hx, hc, he, ClipEntry.blank]
      · simp [hx, hc, h0, he]
    · simp [hc, clipOf_beyond, ClipEntry.blank]
  · simp [hx]

/-- The events of a use count that falls: CLIP_EMPTY where it was the last of a RETIRING clip (R66). -/
theorem lowerUse_events (c : Nat) (s : State) :
    AppendsIfRoom (if (clipOf s c).state = .retiring ∧ (clipOf s c).uses ≤ 1 then
      [(.clipEmpty, c, 0, BitVec.ofNat 32 (clipOf s c).base)] else []) s (lowerUse c s) := by
  have h0 : (clipOf s c).uses - 1 = 0 ↔ (clipOf s c).uses ≤ 1 := by omega
  simp only [lowerUse, h0]
  split
  · exact appendsIfRoom_raise rfl c 0 _ (setClip c ClipEntry.blank s)
  · exact appendsIfRoom_nil rfl

@[simp] theorem lowerUse_port (c : Nat) (s : State) : (lowerUse c s).port = s.port := by
  simp only [lowerUse]
  split <;> simp

@[simp] theorem lowerUse_draws (c : Nat) (s : State) : (lowerUse c s).draws = s.draws := by
  simp only [lowerUse]
  split <;> simp

@[simp] theorem lowerUse_slots (c : Nat) (s : State) : (lowerUse c s).slots = s.slots := by
  simp only [lowerUse]
  split <;> simp

@[simp] theorem lowerUse_voices (c : Nat) (s : State) : (lowerUse c s).voices = s.voices := by
  simp only [lowerUse]
  split <;> simp

theorem lowerUse_queue_prefix (c : Nat) (s : State) : s.queue <+: (lowerUse c s).queue := by
  simp only [lowerUse]
  split
  · exact raiseEvent_queue_prefix rfl c 0 _ (setClip c ClipEntry.blank s)
  · exact List.prefix_rfl

/-- The part as the end of voice `v` has it before CUE_END is raised: IDLE, off its head slot, its FIFO empty (R140). -/
def quietened (v : Nat) (reason : EndReason) (s : State) : State :=
  emptyFifo v (leaveSlot v (setVoice v { voiceOf s v with state := .idle, lastEnd := reason, boardFlag := true } s))

theorem endVoice_eq (v : Nat) (reason : EndReason) (s : State) :
    endVoice v reason s =
      lowerUse (voiceOf s v).clip
        (raiseEvent .cueEnd (voiceOf s v).cue v (cueEndValue (voiceOf s v) reason) (quietened v reason s)) := rfl

theorem quietened_only (v : Nat) (reason : EndReason) (s : State) : VoiceOnly s (quietened v reason s) :=
  ((setVoice_only _ _ s).trans (leaveSlot_only _ _)).trans (emptyFifo_only _ _)

@[simp] theorem quietened_queue (v : Nat) (reason : EndReason) (s : State) : (quietened v reason s).queue = s.queue := by
  simp [quietened, emptyFifo]

theorem clipOf_quietened (v c : Nat) (reason : EndReason) (s : State) :
    clipOf (quietened v reason s) c = { clipOf s c with headSlot := (clipOf (quietened v reason s) c).headSlot } := by
  simp only [quietened, emptyFifo, clipOf_staleBurst, clipOf_setVoice]
  exact clipOf_leaveSlot v c (setVoice v _ s)

theorem voiceOf_endVoice {v : Nat} (hv : v < 24) (w : Nat) (reason : EndReason) (s : State) :
    voiceOf (endVoice v reason s) w = if v = w then endedVoice reason (voiceOf s w) else voiceOf s w := by
  have hlow : ∀ c t, voiceOf (lowerUse c t) w = voiceOf t w := fun c t => by simp [voiceOf]
  simp only [endVoice_eq, quietened, emptyFifo, hlow, voiceOf_raiseEvent, voiceOf_staleBurst]
  by_cases hw : v = w
  · subst hw
    simp [voiceOf_setVoice, voiceOf_leaveSlot, hv, endedVoice]
  · simp [voiceOf_setVoice, voiceOf_leaveSlot, hv, hw]

/-- One end (R140). -/
theorem endsTaken_endVoice {v : Nat} (hv : v < 24) (reason : EndReason) (s : State) :
    EndsTaken [(v, voiceOf s v, reason)] s (endVoice v reason s) := by
  have hclip := fun c => clipOf_quietened v c reason s
  refine ⟨endVoice_only v reason s, ?_, ?_, fun c => ?_, fun c hc => ?_, fun k => ?_, ?_⟩
  · simp [endVoice_eq, quietened, emptyFifo]
  · simp [endVoice_eq, quietened, emptyFifo, staleBurst_eq v (voiceOf s v) reason]
  · have h := lowerUse_uses v c (voiceOf s v) reason
      (raiseEvent .cueEnd (voiceOf s v).cue v (cueEndValue (voiceOf s v) reason) (quietened v reason s))
    simp only [UsesCounted, clipOf_raiseEvent] at h
    rw [hclip] at h
    exact h
  · have hb : (clipOf (quietened v reason s) c).base = (clipOf s c).base := by rw [hclip]
    rw [endVoice_eq, clipOf_lowerUse] at hc ⊢
    simp only [clipOf_raiseEvent] at hc ⊢
    split_ifs at hc ⊢
    · exact absurd rfl hc
    · exact hb
    · exact hb
  · have h := leaveSlot_readers v k (setVoice v { voiceOf s v with state := .idle, lastEnd := reason, boardFlag := true } s)
    have hl : readersEnded k [(v, voiceOf s v, reason)] =
        if (voiceOf s v).headFlag && (voiceOf s v).headSlot == k then 1 else 0 := by
      simp only [readersEnded, List.filter_cons, List.filter_nil]
      split <;> rfl
    rw [hl]
    simpa [ReadersCounted, endVoice_eq, quietened, emptyFifo, slotOf, voiceOf_setVoice, hv] using h
  · have hq : AppendsIfRoom [] s (quietened v reason s) := appendsIfRoom_nil (quietened_queue v reason s)
    have hraise := appendsIfRoom_raise (k := .cueEnd) rfl (voiceOf s v).cue v (cueEndValue (voiceOf s v) reason)
      (quietened v reason s)
    have hlow := lowerUse_events (voiceOf s v).clip
      (raiseEvent .cueEnd (voiceOf s v).cue v (cueEndValue (voiceOf s v) reason) (quietened v reason s))
    have honly := quietened_only v reason s
    have h := appendsIfRoom_trans honly.rst_eq honly.sweep_eq honly.frameCounter_eq hq
      (appendsIfRoom_trans (by simp) (by simp) (by simp) hraise hlow)
    have hcode : ∀ r, r.code = endCode r := fun r => by cases r <;> rfl
    rw [clipOf_raiseEvent, hclip] at h
    simpa [endVoice_eq, endEvents, usesEnded, cueEndValue, bit, hcode] using h

theorem endVoice_queue_prefix (v : Nat) (reason : EndReason) (s : State) : s.queue <+: (endVoice v reason s).queue := by
  have h := raiseEvent_queue_prefix (k := .cueEnd) rfl (voiceOf s v).cue v (cueEndValue (voiceOf s v) reason)
    (quietened v reason s)
  rw [quietened_queue] at h
  exact h.trans (lowerUse_queue_prefix _ _)

end Sys2Proof.Machine
end

section
/-!
SUPPORT. What reaches a voice: a release, a choke, PANIC. A pass over the voices, its records and its ends; and that nothing the Voice
Engine does moves the records already pending.
-/

namespace Sys2Proof.Machine

/-! ### What reaches a voice -/

/-- From `s` to `t` voice `v` is given the record `y` and no other voice changes; where that makes it IDLE it has ended, with this
reason. -/
structure VoiceReached (r : EndReason) (v : Nat) (y : Voice) (s t : State) : Prop where
  record : voiceOf t v = y
  others : ∀ w, w ≠ v → voiceOf t w = voiceOf s w
  ends : EndsTaken (if (voiceOf s v).state != .idle && y.state == .idle then [(v, voiceOf s v, r)] else []) s t

theorem voiceReached_refl (r : EndReason) (v : Nat) (s : State) : VoiceReached r v (voiceOf s v) s s := by
  refine ⟨rfl, fun _ _ => rfl, ?_⟩
  rw [if_neg (by simp)]
  exact EndsTaken.refl s

theorem voiceReached_end {v : Nat} (hv : v < 24) (r : EndReason) {s : State} (h : (voiceOf s v).state ≠ .idle) :
    VoiceReached r v (endedVoice r (voiceOf s v)) s (endVoice v r s) := by
  refine ⟨by simp [voiceOf_endVoice hv], fun w hw => by simp [voiceOf_endVoice hv, hw.symm], ?_⟩
  rw [if_pos (by simp [h, endedVoice])]
  exact endsTaken_endVoice hv r s

theorem voiceReached_set {v : Nat} (hv : v < 24) (r : EndReason) {y : Voice} (hy : y.state ≠ .idle) (s : State) :
    VoiceReached r v y s (setVoice v y s) := by
  refine ⟨by simp [voiceOf_setVoice, hv], fun w hw => by simp [voiceOf_setVoice, hw.symm], ?_⟩
  rw [if_neg (by simp [hy])]
  exact endsTaken_of_voices rfl

/-- The reason a voice ends with when a release of this fall length ends it (R138, R139). -/
def releaseReason (len : Option Nat) (fallReason cutReason : EndReason) : EndReason :=
  match len with
  | none => cutReason
  | some _ => fallReason

/-- A release reaches a voice as the tables of R136, R138 and R139 have it. -/
theorem voiceReached_release {v : Nat} (hv : v < 24) (len : Voice → Option Nat) (fallReason cutReason : EndReason) (s : State) :
    VoiceReached (releaseReason (len (voiceOf s v)) fallReason cutReason) v
      (releasedVoice (len (voiceOf s v)) fallReason cutReason (voiceOf s v)) s (releaseVoice len fallReason cutReason v s) := by
  have hfall : ∀ l r, VoiceReached r v (fallenVoice l r (voiceOf s v)) s
      (setVoice v (fallen (voiceOf s v) l r (fallStart (voiceOf s v))) s) := fun l r =>
    voiceReached_set hv r (y := fallenVoice l r (voiceOf s v)) (by simp [fallenVoice]) s
  unfold releaseVoice releasedVoice releaseReason
  rcases hl : len (voiceOf s v) with _ | l
  · by_cases hi : (voiceOf s v).state = .idle
    · simpa [hl, hi] using voiceReached_refl cutReason v s
    · cases hs : (voiceOf s v).state <;> simp_all
      all_goals exact voiceReached_end hv cutReason (by simp [hs])
  · rcases hs : (voiceOf s v).state
    case idle => simpa [hl, hs] using voiceReached_refl fallReason v s
    case priming => simpa [hl, hs] using voiceReached_end hv fallReason (s := s) (by simp [hs])
    case falling => simpa [hl, hs] using voiceReached_refl fallReason v s
    case rising =>
      simp only [hl, hs, beginFall, true_and]
      split
      · exact voiceReached_end hv fallReason (by simp [hs])
      · exact hfall l fallReason
    case steady =>
      simp only [hl, hs, beginFall, reduceCtorEq, false_and, or_false]
      split
      · exact voiceReached_end hv fallReason (by simp [hs])
      · exact hfall l fallReason

/-- A pass over voices, each visited once: the records it gives, and its ends in order. -/
theorem foldl_voicesReached {r : EndReason} {y : Nat → Voice → Voice} {g : State → Nat → State}
    (hg : ∀ v s, v < 24 → VoiceReached r v (y v (voiceOf s v)) s (g s v)) (vs : List Nat) (hn : vs.Nodup)
    (hvs : ∀ v ∈ vs, v < 24) (s : State) :
    (∀ v, voiceOf (vs.foldl g s) v = if v ∈ vs then y v (voiceOf s v) else voiceOf s v) ∧
      EndsTaken ((vs.filter (fun v => (voiceOf s v).state != .idle && (y v (voiceOf s v)).state == .idle)).map
        (fun v => (v, voiceOf s v, r))) s (vs.foldl g s) := by
  induction vs generalizing s with
  | nil => exact ⟨fun v => by simp, EndsTaken.refl s⟩
  | cons v vs ih =>
    obtain ⟨hv, hn⟩ := List.nodup_cons.mp hn
    have h1 := hg v s (hvs v (by simp))
    obtain ⟨hrec, hends⟩ := ih hn (fun w hw => hvs w (by simp [hw])) (g s v)
    have hkept : ∀ w ∈ vs, voiceOf (g s v) w = voiceOf s w := fun w hw => h1.others w (fun h => hv (h ▸ hw))
    constructor
    · intro w
      rw [List.foldl_cons, hrec]
      by_cases hw : w ∈ vs
      · simp [hw, hkept w hw]
      · by_cases hwv : w = v
        · subst hwv
          simp [hw, h1.record]
        · simp [hw, hwv, h1.others w hwv]
    · have hfilter : vs.filter (fun w => (voiceOf (g s v) w).state != .idle && (y w (voiceOf (g s v) w)).state == .idle) =
          vs.filter (fun w => (voiceOf s w).state != .idle && (y w (voiceOf s w)).state == .idle) :=
        List.filter_congr (fun w hw => by rw [hkept w hw])
      have hmap : ∀ ws ⊆ vs, ws.map (fun w => (w, voiceOf (g s v) w, r)) = ws.map (fun w => (w, voiceOf s w, r)) :=
        fun ws hws => List.map_congr_left (fun w hw => by rw [hkept w (hws hw)])
      rw [hfilter, hmap _ (List.filter_subset_self _)] at hends
      have h := h1.ends.trans hends
      rw [List.foldl_cons, List.filter_cons]
      split_ifs at h ⊢ <;> exact h

/-- A pass over every voice that a predicate picks out: the records it gives, and its ends, lowest voice first. -/
theorem eachVoice_reached {r : EndReason} {p : Nat → Voice → Bool} {y : Nat → Voice → Voice} {f : Nat → State → State}
    (hf : ∀ v s, v < 24 → p v (voiceOf s v) = true → VoiceReached r v (y v (voiceOf s v)) s (f v s))
    {s : State} {reached : Nat → Voice}
    (hreached : ∀ v, reached v = if p v (voiceOf s v) = true then y v (voiceOf s v) else voiceOf s v) :
    (∀ v, v < 24 → voiceOf (eachVoice p f s) v = reached v) ∧
      EndsTaken (endsAmong s reached r) s (eachVoice p f s) := by
  have hg : ∀ v t, v < 24 → VoiceReached r v (if p v (voiceOf t v) = true then y v (voiceOf t v) else voiceOf t v) t
      (if p v (voiceOf t v) = true then f v t else t) := by
    intro v t hv
    split
    · exact hf v t hv ‹_›
    · exact voiceReached_refl r v t
  obtain ⟨hrec, hends⟩ := foldl_voicesReached (y := fun v x => if p v x = true then y v x else x) hg (List.range 24)
    List.nodup_range (fun v hv => List.mem_range.mp hv) s
  refine ⟨fun v hv => ?_, ?_⟩
  · rw [hreached, eachVoice, hrec, if_pos (List.mem_range.mpr hv)]
  · simpa [eachVoice, endsAmong, hreached] using hends

/-- The burst in flight is stale where its voice is among the ends (R154). -/
theorem staleWhereEnded_of_ends {reached : Nat → Voice} {r : EndReason} {p u : State}
    (h : u.port = staledBy (endsAmong p reached r) p.port) : StaleWhereEnded reached p (arbitrate u) := by
  intro b hb hv
  have hany : (endsAmong p reached r).any (fun e => e.1 == b.voice) =
      ((voiceOf p b.voice).state != .idle && (reached b.voice).state == .idle) := by
    rw [Bool.eq_iff_iff]
    simp only [endsAmong, List.any_map, List.any_filter, List.any_eq_true, List.mem_range, Function.comp_apply,
      Bool.and_eq_true, beq_iff_eq]
    constructor
    · rintro ⟨v, -, hv, rfl⟩
      exact hv
    · exact fun h => ⟨b.voice, hv, h, rfl⟩
  rw [hb, staledBy, hany] at h
  exact arbitrate_port_of_taken h

theorem endEvents_congr {s t : State} (h : ∀ c, clipOf s c = clipOf t c) (before ends : List VoiceEnd) :
    endEvents s before ends = endEvents t before ends := by
  induction ends generalizing before with
  | nil => rfl
  | cons e rest ih =>
    obtain ⟨v, x, reason⟩ := e
    simp only [endEvents, ih, h]

/-- What a pass leaves, behind the grant, of voices, clips, slots and the burst in flight. The pass starts at `q`, which has these as
`p` has them, and what follows it until `u` leaves them. -/
theorem ends_arbitrate {reached : Nat → Voice} {r : EndReason} {p q t u : State}
    (hends : EndsTaken (endsAmong p reached r) q t) (hrec : ∀ v, v < 24 → voiceOf t v = reached v)
    (hq : q.clips = p.clips ∧ q.slots = p.slots ∧ q.port = p.port)
    (hu : u.voices = t.voices ∧ u.clips = t.clips ∧ u.slots = t.slots ∧ u.port = t.port) :
    (∀ v, v < 24 → VoiceHolds p (arbitrate u) v (reached v)) ∧ StaleWhereEnded reached p (arbitrate u) ∧
      EndsCounted (endsAmong p reached r) p (arbitrate u) := by
  obtain ⟨hqc, hqs, hqp⟩ := hq
  obtain ⟨huv, huc, hus, hup⟩ := hu
  have hfree : u.port = none ↔ p.port = none := by rw [hup, hends.only.2.free_iff, hqp]
  refine ⟨fun v hv => ?_, ?_, fun c _ => ?_, fun k _ => ?_⟩
  · have hvoice : voiceOf u v = reached v := by rw [← hrec v hv, voiceOf, voiceOf, huv]
    exact hvoice ▸ voiceHolds_arbitrate hfree v
  · exact staleWhereEnded_of_ends (by rw [hup, hends.port, hqp])
  · have hp : clipOf q c = clipOf p c := by rw [clipOf, clipOf, hqc]
    have ht : clipOf (arbitrate u) c = clipOf t c := by rw [clipOf, clipOf, arbitrate_clips, huc]
    have h := hends.uses c
    unfold UsesCounted at h ⊢
    rwa [ht, ← hp]
  · have hp : slotOf q k = slotOf p k := by rw [slotOf, slotOf, hqs]
    have ht : slotOf (arbitrate u) k = slotOf t k := by rw [slotOf, slotOf, arbitrate_slots, hus]
    have h := hends.readers k
    unfold ReadersCounted at h ⊢
    rwa [ht, ← hp]

/-! ### The pending queue behind releases and fires -/

theorem beginFall_queue_prefix (v len : Nat) (reason : EndReason) (s : State) :
    s.queue <+: (beginFall v len reason s).queue := by
  simp only [beginFall]
  split
  · exact endVoice_queue_prefix v reason s
  · exact List.prefix_rfl

theorem releaseVoice_queue_prefix (len : Voice → Option Nat) (f c : EndReason) (v : Nat) (s : State) :
    s.queue <+: (releaseVoice len f c v s).queue := by
  simp only [releaseVoice]
  split
  · split
    · exact List.prefix_rfl
    · exact endVoice_queue_prefix v c s
  · split
    · exact List.prefix_rfl
    · exact endVoice_queue_prefix v f s
    · exact beginFall_queue_prefix v _ f s
    · exact beginFall_queue_prefix v _ f s
    · exact List.prefix_rfl

theorem eachVoice_queue_prefix {p : Nat → Voice → Bool} {f : Nat → State → State}
    (hf : ∀ v s, s.queue <+: (f v s).queue) (s : State) : s.queue <+: (eachVoice p f s).queue := by
  unfold eachVoice
  induction List.range 24 generalizing s with
  | nil => exact List.prefix_rfl
  | cons v vs ih =>
    refine List.IsPrefix.trans ?_ (ih _)
    dsimp only
    split
    · exact hf v s
    · exact List.prefix_rfl

@[simp] theorem joinSlot_queue (head : Option Nat) (s : State) : (joinSlot head s).queue = s.queue := by
  cases head <;> rfl

theorem setUp_queue_prefix (f : Fire) (c : CueRecord) (r : Resolved) (v : Nat) (s : State) :
    s.queue <+: (setUp f c r v s).queue := by
  simp only [setUp]
  refine List.IsPrefix.trans ?_ (raiseEvent_queue_prefix rfl _ _ _ _)
  split
  · simp [raiseUse]
  · refine List.IsPrefix.trans ?_ (raiseEvent_queue_prefix rfl _ _ _ _)
    simp [raiseUse]

/-- Whatever a fire comes to, the records already pending stay where they are. -/
theorem processFire_queue_prefix (f : Fire) (s : State) : s.queue <+: (processFire f s).1.queue := by
  have hretrigger : ∀ cue c t, t.queue <+: (retriggerStep cue c t).queue := by
    intro cue c t
    simp only [retriggerStep]
    split
    · exact eachVoice_queue_prefix (fun v u => endVoice_queue_prefix v _ u) t
    · exact List.prefix_rfl
  have hchoke : ∀ cue c t, t.queue <+: (chokeStep cue c t).queue := by
    intro cue c t
    simp only [chokeStep]
    split
    · exact List.prefix_rfl
    · exact eachVoice_queue_prefix (fun v u => releaseVoice_queue_prefix _ _ _ v u) t
  simp only [processFire]
  split
  · exact List.prefix_rfl
  · split
    · exact List.prefix_rfl
    · refine List.IsPrefix.trans ((hretrigger f.cue (cueRecord s.shadow f.cue) s).trans
        (hchoke f.cue (cueRecord s.shadow f.cue) _)) ?_
      split
      · exact List.prefix_rfl
      · rename_i v steal _
        refine List.IsPrefix.trans ?_ (setUp_queue_prefix f _ _ v _)
        split
        · exact endVoice_queue_prefix v _ (drawOne _)
        · exact List.prefix_rfl

theorem fireReported_queue_prefix (f : Fire) (s : State) : s.queue <+: (fireReported f s).queue := by
  simp only [fireReported]
  split
  · exact processFire_queue_prefix f s
  · exact (processFire_queue_prefix f s).trans (raiseEvent_queue_prefix rfl _ _ _ _)

end Sys2Proof.Machine
end

section
/-!
SUPPORT. Fires: the one that is refused, and the one that starts on an IDLE voice; either as a line hands it over.
-/

namespace Sys2Proof.Machine

/-! ### A fire that comes to the Voice Engine -/

@[simp] theorem joinSlot_clips (head : Option Nat) (s : State) : (joinSlot head s).clips = s.clips := by cases head <;> rfl
@[simp] theorem joinSlot_voices (head : Option Nat) (s : State) : (joinSlot head s).voices = s.voices := by cases head <;> rfl

/-- The part as a fire's set-up of voice `v` has it before it raises anything (R129, R130). -/
def voiceSetUp (f : Fire) (c : CueRecord) (r : Resolved) (v : Nat) (s : State) : State :=
  joinSlot (headStart s c r)
    (raiseUse c.clip (staleBurst v (setVoice v (newVoice s f c r (voiceOf s v) (headStart s c r)) s)))

theorem setUp_eq (f : Fire) (c : CueRecord) (r : Resolved) (v : Nat) (s : State) :
    setUp f c r v s =
      raiseEvent .cueStart f.cue v (cueStartValue f c.clip (headStart s c r).isSome)
        (if r.adjusted = 0 then voiceSetUp f c r v s
        else raiseEvent .cueAdjusted f.cue v (BitVec.ofNat 32 r.adjusted) (voiceSetUp f c r v s)) := rfl

theorem voiceSetUp_only (f : Fire) (c : CueRecord) (r : Resolved) (v : Nat) (s : State) : VoiceOnly s (voiceSetUp f c r v s) :=
  (((setVoice_only _ _ s).trans (staleBurst_only _ _)).trans (raiseUse_only _ _)).trans (joinSlot_only _ _)

@[simp] theorem voiceSetUp_queue (f : Fire) (c : CueRecord) (r : Resolved) (v : Nat) (s : State) :
    (voiceSetUp f c r v s).queue = s.queue := by simp [voiceSetUp, raiseUse]

theorem voiceOf_setUp {v : Nat} (hv : v < 24) (f : Fire) (c : CueRecord) (r : Resolved) (w : Nat) (s : State) :
    voiceOf (setUp f c r v s) w = if v = w then newVoice s f c r (voiceOf s v) (headStart s c r) else voiceOf s w := by
  have hset : voiceOf (setUp f c r v s) w =
      voiceOf (setVoice v (newVoice s f c r (voiceOf s v) (headStart s c r)) s) w := by
    rw [setUp_eq]
    split <;> simp [voiceSetUp, raiseUse, voiceOf]
  rw [hset, voiceOf_setVoice]
  by_cases hw : v = w
  · subst hw
    simp [hv]
  · simp [hw]

theorem clipOf_setUp (f : Fire) (c : CueRecord) (r : Resolved) (v d : Nat) (s : State) :
    clipOf (setUp f c r v s) d =
      if c.clip = d ∧ d < 128 then { clipOf s d with uses := (clipOf s d).uses + 1 } else clipOf s d := by
  have hraise : clipOf (setUp f c r v s) d = clipOf (raiseUse c.clip s) d := by
    rw [setUp_eq]
    split <;> simp [voiceSetUp, raiseUse, clipOf]
  rw [hraise, raiseUse, clipOf_setClip]
  by_cases hc : c.clip = d ∧ d < 128
  · rw [if_pos hc, if_pos hc, hc.1]
  · rw [if_neg hc, if_neg hc]

/-- The set-up raises CUE_ADJUSTED where a field was adjusted, then CUE_START (R88, R131). -/
theorem setUp_events (f : Fire) (points : Nat × Nat) (v : Nat) (s : State) :
    let c := cueRecord s.shadow f.cue
    let r := resolve points c (clipOf s c.clip).length
    AppendsIfRoom (startEvents f (headStart s c r) v s) s (setUp f c r v s) := by
  intro c r
  have honly := voiceSetUp_only f c r v s
  have hq : AppendsIfRoom [] s (voiceSetUp f c r v s) := appendsIfRoom_nil (voiceSetUp_queue f c r v s)
  have hadj : r.adjusted = adjustedOf c (clipOf s c.clip) := rfl
  have hvalue : cueStartValue f c.clip (headStart s c r).isSome = BitVec.ofNat 32 (f.source.code +
      (if f.preview = true then 4 else 0) + (if (headStart s c r).isSome = true then 8 else 0) + 0x100 * f.number +
        0x10000 * c.clip) := by
    simp [cueStartValue, bit]
  have hstart := appendsIfRoom_raise (k := .cueStart) rfl f.cue v (cueStartValue f c.clip (headStart s c r).isSome)
  have hevents : startEvents f (headStart s c r) v s =
      (if r.adjusted = 0 then [] else [(.cueAdjusted, f.cue, v, BitVec.ofNat 32 r.adjusted)]) ++
        [(.cueStart, f.cue, v, cueStartValue f c.clip (headStart s c r).isSome)] := by
    rw [hvalue, hadj]
    rfl
  rw [setUp_eq, hevents]
  split
  · exact appendsIfRoom_trans honly.rst_eq honly.sweep_eq honly.frameCounter_eq hq (hstart _)
  · exact appendsIfRoom_trans (by simp [honly.rst_eq]) (by simp [honly.sweep_eq]) (by simp [honly.frameCounter_eq])
      (appendsIfRoom_trans honly.rst_eq honly.sweep_eq honly.frameCounter_eq hq
        (appendsIfRoom_raise (k := .cueAdjusted) rfl f.cue v _ _)) (hstart _)

/-- The lowest IDLE voice is the one allocated (R127). -/
theorem allocate_idle {s : State} {v : Nat} (p : Nat) (hv : v < 24) (hi : (voiceOf s v).state = .idle)
    (hlow : ∀ w, w < v → (voiceOf s w).state ≠ .idle) : allocate s p = some (v, false) := by
  have hhead : (tier1 s).head? = some v := by
    rw [tier1, indices, List.head?_filter, List.find?_range_eq_some]
    exact ⟨by simp [hi], List.mem_range.mpr hv, fun w hw => by simp [hlow w hw]⟩
  obtain ⟨vs, hvs⟩ := List.head?_eq_some_iff.mp hhead
  simp [allocate, hvs]

/-- A fire that a check or an IGNORE cue's own voice refuses raises CUE_REFUSED and does no more (R82, R83, R125). -/
theorem fireReported_refused {f : Fire} {s : State} {code : ResultCode}
    (h : fireChecks f (cueRecord s.shadow f.cue) s = some code ∨
      fireChecks f (cueRecord s.shadow f.cue) s = none ∧ ignoreBlocks s f.cue (cueRecord s.shadow f.cue) = true ∧
        code = .alreadyPlaying) :
    fireReported f s =
      raiseEvent .cueRefused f.cue (f.source.code + 0x100 * f.number) (BitVec.ofNat 32 code.code) s := by
  rcases h with h | ⟨h, hi, rfl⟩
  · have hcode : code ≠ .done := by
      rintro rfl
      simp only [fireChecks] at h
      split_ifs at h <;> cases h
    simp [fireReported, processFire, h, hcode]
  · simp [fireReported, processFire, h, hi]

/-- The cue's clip is one of the 128. -/
theorem cueRecord_clip_lt (sh : Cells) (c : Nat) : (cueRecord sh c).clip < 128 := Nat.mod_lt _ (by norm_num)

/-- What a fire leaves that passes, neither chokes nor restarts, and takes voice `v`, which was IDLE: the snapshot in `v`, every other
voice as it was, a use more of its clip, the events of the set-up. -/
structure FireStarted (f : Fire) (v : Nat) (head : Option Nat) (x : Voice) (s t : State) : Prop where
  gets : ∀ k, head = some k ↔ GetsHead (cueRecord s.shadow f.cue) s k
  snapshot : SnapshotTaken f head s (voiceOf s v) x
  voices : ∀ w, voiceOf t w = if v = w then x else voiceOf s w
  uses : clipOf t (cueRecord s.shadow f.cue).clip =
    { clipOf s (cueRecord s.shadow f.cue).clip with uses := (clipOf s (cueRecord s.shadow f.cue).clip).uses + 1 }
  events : AppendsIfRoom (startEvents f head v s) s t

theorem length_startEvents_le (f : Fire) (head : Option Nat) (v : Nat) (s : State) : (startEvents f head v s).length ≤ 2 := by
  simp only [startEvents]
  split_ifs <;> simp

theorem setUp_started {v : Nat} (hv : v < 24) (f : Fire) (points : Nat × Nat) (s : State) :
    ∃ head x, FireStarted f v head x s
      (setUp f (cueRecord s.shadow f.cue)
        (resolve points (cueRecord s.shadow f.cue) (clipOf s (cueRecord s.shadow f.cue).clip).length) v s) :=
  ⟨_, _, {
    snapshot := newVoice_snapshot f _ s (voiceOf s v) points
    gets := headStart_getsHead s (cueRecord s.shadow f.cue) points
    voices := fun w => voiceOf_setUp hv f _ _ w s
    uses := by rw [clipOf_setUp, if_pos ⟨rfl, cueRecord_clip_lt s.shadow f.cue⟩]
    events := setUp_events f points v s }⟩

/-- A fire that passes, neither chokes nor restarts, and finds an IDLE voice takes the lowest (R124, R127). -/
theorem fireReported_started {f : Fire} {s : State} {v : Nat} (hc : fireChecks f (cueRecord s.shadow f.cue) s = none)
    (hi : ignoreBlocks s f.cue (cueRecord s.shadow f.cue) = false) (hr : (cueRecord s.shadow f.cue).retrigger ≠ .restart)
    (hk : (cueRecord s.shadow f.cue).choke = 0) (hv : v < 24) (hidle : (voiceOf s v).state = .idle)
    (hlow : ∀ w, w < v → (voiceOf s w).state ≠ .idle) : ∃ head x, FireStarted f v head x s (fireReported f s) := by
  have hfire : fireReported f s =
      setUp f (cueRecord s.shadow f.cue)
        (resolve (Config.noLoopPoints s.draws) (cueRecord s.shadow f.cue) (clipOf s (cueRecord s.shadow f.cue).clip).length) v
        (drawOne s) := by
    simp [fireReported, processFire, hc, hi, retriggerStep, hr, chokeStep, hk, allocate_idle _ hv hidle hlow]
  obtain ⟨head, x, h⟩ := setUp_started hv f (Config.noLoopPoints s.draws) (drawOne s)
  rw [hfire]
  exact ⟨head, x, h.gets, h.snapshot, h.voices, h.uses, h.events⟩

/-- A fire from the Lines block comes to the Voice Engine. The step may have changed lines before it and may change timers behind it;
where it does, `extra` names them. -/
theorem fireComes_arbitrate {f : Fire} {extra : List Part} {p : State} {lines : Vector Line 10} {timers : Vector CueTimer 4}
    (hpanic : panicAsserted { p with lines := lines } = panicAsserted p) (hl : .lines ∈ extra ∨ lines = p.lines)
    (ht : .timers ∈ extra ∨ timers = p.timers) (hx : .port ∉ extra) :
    FireComes f extra True p (arbitrate { fireReported f { p with lines := lines } with timers := timers }) := by
  have honly := fireReported_only f { p with lines := lines }
  have hfree := honly.2.free_iff
  have hchecks : fireChecks f (cueRecord p.shadow f.cue) { p with lines := lines } = fireChecks f (cueRecord p.shadow f.cue) p := by
    simp only [fireChecks, hpanic]
    rfl
  constructor
  · intro code hcode
    rw [← hchecks] at hcode
    rw [fireReported_refused hcode]
    refine ⟨fun _ => ?_, unchangedBut_arbitrated (same_of_linesBlock ?_ ?_ ?_ ?_ ?_ ?_ ?_) ?_⟩
    · exact raises_arbitrate (s := { p with lines := lines }) ⟨rfl, rfl, rfl, rfl, rfl, rfl, rfl⟩ ⟨rfl, rfl, rfl⟩
    · rw [raiseEvent_only]
    · exact hl.imp (List.mem_cons_of_mem _) (by simp)
    · exact .inr (by simp)
    · exact ht.imp_left (List.mem_cons_of_mem _)
    · exact .inr (by rw [raiseEvent_only])
    · exact .inr (by rw [raiseEvent_only])
    · exact .inl (by simp)
    · simp [hx]
  · intro v hc hi hr hk hv hidle hlow
    obtain ⟨head, x, h⟩ := fireReported_started (hchecks.trans hc) hi hr hk hv hidle hlow
    generalize fireReported f { p with lines := lines } = r at honly hfree h
    have hholds : ∀ w, VoiceHolds p (arbitrate { r with timers := timers }) w (if v = w then x else voiceOf p w) := fun w => by
      have hw := voiceHolds_arbitrate (s := p) (u := { r with timers := timers }) hfree w
      rwa [show voiceOf { r with timers := timers } w = _ from h.voices w] at hw
    refine ⟨⟨head, x, h.gets, h.snapshot, by simpa using hholds v, fun _ hroom => ?_⟩, fun w hw => ?_, ?_, ?_⟩
    · have hev : Appended (startEvents f head v p) p r :=
        h.events (canAppend_mono (length_startEvents_le f head v _) hroom)
      unfold Appended at hev ⊢
      rw [arbitrate_queue]
      exact hev
    · simpa [hw.symm] using hholds w
    · rw [clipOf_arbitrate]
      exact h.uses
    · have hpress : PressOnly p { r with timers := timers } :=
        ((pressOnly_lines p lines).trans honly.pressOnly).trans (pressOnly_timers r timers)
      refine unchangedBut_arbitrated (hpress.same ?_ ?_ ?_ ?_ ?_ ?_) ?_
      · intro part hpart
        simp [hpart]
      · exact hl.imp (fun hm => by simp [hm]) (fun he => honly.lines_eq.trans he)
      · exact .inr honly.lockout_eq
      · exact ht.imp_left (fun hm => by simp [hm])
      · exact .inr (by rw [honly.1])
      · exact .inl (by simp)
      · simpa [hx, voiceParts] using hfree

end Sys2Proof.Machine
end

section
/-!
SUPPORT. The Lines block: the cue timers, what a press or release leaves of the lines, and presses served by the line's mode.
-/

namespace Sys2Proof.Machine

/-! ### The cue timers -/

theorem setTimer_self (i : Nat) (s : State) : setTimer i (timerOf s i) s = s := by
  rw [setTimer, timerOf, bankSet_bankGet]

/-- A pass over timers, each visited once, that writes each one's record from that record and the shadow. -/
theorem foldl_setTimer {f : Nat → State → State} {y : Cells → Nat → CueTimer → CueTimer}
    (hf : ∀ i s, f i s = setTimer i (y s.shadow i (timerOf s i)) s) (is : List Nat) (hn : is.Nodup) (s : State) :
    (∃ ts, is.foldl (fun t i => f i t) s = { s with timers := ts }) ∧
      ∀ k, k < 4 → timerOf (is.foldl (fun t i => f i t) s) k =
        if k ∈ is then y s.shadow k (timerOf s k) else timerOf s k := by
  induction is generalizing s with
  | nil => exact ⟨⟨s.timers, rfl⟩, fun k _ => by simp⟩
  | cons i is ih =>
    obtain ⟨hi, hn⟩ := List.nodup_cons.mp hn
    obtain ⟨⟨ts, hts⟩, htimers⟩ := ih hn (f i s)
    constructor
    · exact ⟨ts, by rw [List.foldl_cons, hts, hf]; rfl⟩
    · intro k hk
      rw [List.foldl_cons, htimers k hk, hf, timerOf_setTimer, setTimer_shadow]
      by_cases hki : i = k
      · subst hki
        simp [hi, hk]
      · simp [hki, Ne.symm hki]

/-- An operation on every timer. -/
theorem eachTimer_sets {f : Nat → State → State} {y : Cells → Nat → CueTimer → CueTimer}
    (hf : ∀ i s, f i s = setTimer i (y s.shadow i (timerOf s i)) s) (s : State) :
    (∃ ts, eachTimer f s = { s with timers := ts }) ∧
      ∀ k, k < 4 → timerOf (eachTimer f s) k = y s.shadow k (timerOf s k) := by
  obtain ⟨hts, htimers⟩ := foldl_setTimer hf (List.range 4) List.nodup_range s
  exact ⟨hts, fun k hk => by rw [eachTimer, htimers k hk, if_pos (List.mem_range.mpr hk)]⟩

/-- A timer behind a press of line `n` in HOLD mode (R119). -/
def holdPressed (n : Nat) (sh : Cells) (i : Nat) (x : CueTimer) : CueTimer :=
  if (timerMode sh i = .hold ∧ timerLine sh i = n) ∧ x.phase = .waiting then { x with phase := .counting } else x

/-- A timer behind a release of line `n` in HOLD mode (R119). -/
def holdReleased (n : Nat) (sh : Cells) (i : Nat) (x : CueTimer) : CueTimer :=
  if (timerMode sh i = .hold ∧ timerLine sh i = n) ∧ (x.phase = .counting ∨ x.phase = .held) then
    ⟨if timerPreload sh i = 0 then .stopped else .waiting, timerPreload sh i⟩
  else x

/-- A timer behind a win (R120). -/
def winStarted (sh : Cells) (i : Nat) (x : CueTimer) : CueTimer :=
  if timerMode sh i = .win ∧ x.phase = .waiting then { x with phase := .counting } else x

/-- A timer behind a press of PANIC (R106). -/
def panicStopped (_ : Cells) (_ : Nat) (x : CueTimer) : CueTimer :=
  if x.phase = .stopped then x else { x with phase := .stopped }

theorem holdPress_eq (n i : Nat) (s : State) : holdPress n i s = setTimer i (holdPressed n s.shadow i (timerOf s i)) s := by
  simp only [holdPress, holdPressed, holdBound, Bool.and_eq_true, beq_iff_eq]
  split
  · rfl
  · exact (setTimer_self i s).symm

theorem holdRelease_eq (n i : Nat) (s : State) :
    holdRelease n i s = setTimer i (holdReleased n s.shadow i (timerOf s i)) s := by
  simp only [holdRelease, holdReleased, holdBound, Bool.and_eq_true, beq_iff_eq]
  split
  · rfl
  · exact (setTimer_self i s).symm

theorem winStart_eq (i : Nat) (s : State) : winStart i s = setTimer i (winStarted s.shadow i (timerOf s i)) s := by
  simp only [winStart, winStarted]
  split
  · rfl
  · exact (setTimer_self i s).symm

theorem stopTimer_eq (i : Nat) (s : State) : stopTimer i s = setTimer i (panicStopped s.shadow i (timerOf s i)) s := by
  simp only [stopTimer, panicStopped, running, bne_iff_ne, ite_not]
  split
  · exact (setTimer_self i s).symm
  · rfl

/-- A step of the timers alone. -/
theorem unchangedBut_timers (p : State) (ts : Vector CueTimer 4) :
    unchangedBut [.timers] p (arbitrate { p with timers := ts }) :=
  unchangedBut_arbitrated (same_of_linesBlock rfl (.inr rfl) (.inr rfl) (.inl (by simp)) (.inr rfl) (.inr rfl)
    (.inr ⟨rfl, rfl, rfl⟩)) (by simp)

/-- Behind the grant, such an operation has written the timers and no other part. -/
theorem eachTimer_served {f : Nat → State → State} {y : Cells → Nat → CueTimer → CueTimer}
    (hf : ∀ i s, f i s = setTimer i (y s.shadow i (timerOf s i)) s) (p : State) :
    (∀ k, k < 4 → timerOf (arbitrate (eachTimer f p)) k = y p.shadow k (timerOf p k)) ∧
      unchangedBut [.timers] p (arbitrate (eachTimer f p)) := by
  obtain ⟨⟨ts, hts⟩, htimers⟩ := eachTimer_sets hf p
  refine ⟨fun k hk => by rw [timerOf_arbitrate, htimers k hk], ?_⟩
  rw [hts]
  exact unchangedBut_timers p ts

/-! ### What a press or release leaves of the lines -/

/-- The lines but for the held cue and the penalty of line `n`. -/
def LineKept (n : Nat) (p t : State) : Prop :=
  (∃ held penalty, lineOf t n = { lineOf p n with heldCue := held, penalty := penalty }) ∧ ∀ j, j ≠ n → lineOf t j = lineOf p j

theorem lineKept_of_lines (n : Nat) {p t : State} (h : t.lines = p.lines) : LineKept n p t := by
  have hl : ∀ j, lineOf t j = lineOf p j := fun j => by rw [lineOf, lineOf, h]
  exact ⟨⟨(lineOf p n).heldCue, (lineOf p n).penalty, hl n⟩, fun j _ => hl j⟩

theorem lineKept_of_setLine (n : Nat) {p t : State} {held : Option Nat} {penalty : Option Nat}
    (h : t.lines = (setLine n { lineOf p n with heldCue := held, penalty := penalty } p).lines) : LineKept n p t := by
  have hl : ∀ j, lineOf t j = lineOf (setLine n { lineOf p n with heldCue := held, penalty := penalty } p) j := fun j => by
    rw [lineOf, lineOf, h]
  refine ⟨?_, fun j hj => by rw [hl, lineOf_setLine, if_neg (fun h => hj h.1.symm)]⟩
  by_cases hn : n < 10
  · exact ⟨held, penalty, by rw [hl, lineOf_setLine, if_pos ⟨rfl, hn⟩]⟩
  · exact ⟨(lineOf p n).heldCue, (lineOf p n).penalty, by rw [hl, lineOf_setLine, if_neg (fun h => hn h.2)]⟩

theorem setPenalty_lines (n u : Nat) (s : State) :
    (setPenalty n u s).lines = (setLine n { lineOf s n with penalty := penaltyOf u } s).lines := by
  simp only [setPenalty]
  split <;> rfl

@[simp] theorem setLockout_lines (lo : Lockout) (s : State) : (setLockout lo s).lines = s.lines := by rw [setLockout_only]
@[simp] theorem setLockout_lockout (lo : Lockout) (s : State) : (setLockout lo s).lockout = lo := by rw [setLockout_only]
@[simp] theorem setLockout_timers (lo : Lockout) (s : State) : (setLockout lo s).timers = s.timers := by rw [setLockout_only]
@[simp] theorem setLockout_shadow (lo : Lockout) (s : State) : (setLockout lo s).shadow = s.shadow := by rw [setLockout_only]
@[simp] theorem setLockout_queue (lo : Lockout) (s : State) : (setLockout lo s).queue = s.queue := by rw [setLockout_only]

@[simp] theorem lineFire_lines (n cue : Nat) (s : State) : (lineFire n cue s).lines = s.lines := (fireReported_only _ s).lines_eq

theorem eachTimer_lines {f : Nat → State → State} {y : Cells → Nat → CueTimer → CueTimer}
    (hf : ∀ i s, f i s = setTimer i (y s.shadow i (timerOf s i)) s) (s : State) : (eachTimer f s).lines = s.lines := by
  obtain ⟨⟨ts, hts⟩, -⟩ := eachTimer_sets hf s
  rw [hts]

theorem panicPress_lines (p : State) : (panicPress p).lines = p.lines := by
  rw [panicPress, (panicRelease_only _ _).lines_eq, eachTimer_lines stopTimer_eq, raiseEvent_lines]

/-! ### A press or release by the line's mode -/

theorem takeRelease_panic (p : State) : takeRelease 8 p = panicReleased p := rfl

theorem buzzer_ne {n : Nat} (hn : n < 8) : n ≠ panicLine ∧ n ≠ talkLine := by
  simp only [panicLine, talkLine]
  omega

section
variable {n : Nat} (hn : n < 8) {p : State}
include hn

theorem takePress_off (h : lineMode p.shadow n = .off) : takePress n p = p := by
  simp [takePress, buzzer_ne hn, h]

theorem takePress_lockout (h : lineMode p.shadow n = .lockout) : takePress n p = lockoutPress n p := by
  simp [takePress, buzzer_ne hn, h]

theorem takePress_key (h : lineMode p.shadow n = .key) : takePress n p = lineFire n (lineCue p.shadow n) p := by
  simp [takePress, buzzer_ne hn, h]

theorem takePress_momentary (h : lineMode p.shadow n = .momentary) :
    takePress n p = lineFire n (lineCue p.shadow n) (setHeldCue n (some (lineCue p.shadow n)) p) := by
  simp [takePress, buzzer_ne hn, h]

theorem takePress_hold (h : lineMode p.shadow n = .hold) : takePress n p = eachTimer (holdPress n) p := by
  simp [takePress, buzzer_ne hn, h]

theorem takeRelease_idle (h : lineMode p.shadow n = .off ∨ lineMode p.shadow n = .lockout ∨ lineMode p.shadow n = .key ∨
    lineMode p.shadow n = .momentary ∧ (lineOf p n).heldCue = none) : takeRelease n p = p := by
  rcases h with h | h | h | ⟨h, hc⟩ <;> simp [takeRelease, buzzer_ne hn, *]

theorem takeRelease_momentary {cue : Nat} (h : lineMode p.shadow n = .momentary) (hc : (lineOf p n).heldCue = some cue) :
    takeRelease n p = setHeldCue n none (releaseCueFade cue p) := by
  simp [takeRelease, buzzer_ne hn, h, hc]

theorem takeRelease_hold (h : lineMode p.shadow n = .hold) : takeRelease n p = eachTimer (holdRelease n) p := by
  simp [takeRelease, buzzer_ne hn, h]

end

/-! ### Lines -/

theorem winningPress_lines (n : Nat) (p : State) : (winningPress n p).lines = p.lines := by
  simp only [winningPress, eachTimer_lines winStart_eq, lineFire_lines, raiseEvent_lines, setLockout_lines]

theorem lockoutPress_lineKept (n : Nat) (p : State) : LineKept n p (lockoutPress n p) := by
  have hsame : LineKept n p p := lineKept_of_lines n rfl
  unfold lockoutPress
  dsimp only
  split
  · refine lineKept_of_setLine n (held := (lineOf p n).heldCue) (penalty := penaltyOf (earlyPenalty p.shadow)) ?_
    rw [earlyPress, raiseEvent_lines, setPenalty_lines]
  · split
    · exact hsame
    · exact lineKept_of_lines n (winningPress_lines n p)
  · split
    · exact hsame
    · split
      · exact hsame
      · exact lineKept_of_lines n (by simp [latePress])

theorem takePress_lineKept {n : Nat} (hn : n < 10) (p : State) : LineKept n p (takePress n p) := by
  have h : n < 8 ∨ n = 8 ∨ n = 9 := by omega
  rcases h with h | rfl | rfl
  · cases hm : lineMode p.shadow n
    case off => exact lineKept_of_lines n (by rw [takePress_off h hm])
    case lockout => exact takePress_lockout h hm ▸ lockoutPress_lineKept n p
    case key => exact lineKept_of_lines n (by rw [takePress_key h hm, lineFire_lines])
    case momentary =>
      refine lineKept_of_setLine n (held := some (lineCue p.shadow n)) (penalty := (lineOf p n).penalty) ?_
      rw [takePress_momentary h hm, lineFire_lines]
      rfl
    case hold => exact lineKept_of_lines n (by rw [takePress_hold h hm, eachTimer_lines (holdPress_eq n)])
  · exact lineKept_of_lines 8 (panicPress_lines p)
  · exact lineKept_of_lines 9 rfl

theorem takeRelease_lineKept {n : Nat} (hn : n < 10) (p : State) : LineKept n p (takeRelease n p) := by
  have h : n < 8 ∨ n = 8 ∨ n = 9 := by omega
  rcases h with h | rfl | rfl
  · cases hm : lineMode p.shadow n
    case momentary =>
      cases hc : (lineOf p n).heldCue with
      | none => exact lineKept_of_lines n (by rw [takeRelease_idle h (by simp [hm, hc])])
      | some cue =>
        refine lineKept_of_setLine n (held := none) (penalty := (lineOf p n).penalty) ?_
        rw [takeRelease_momentary h hm hc]
        have hl : (releaseCueFade cue p).lines = p.lines :=
          (eachVoice_only _ _ (fun v t => releaseVoice_only _ _ _ v t) p).lines_eq
        simp [setHeldCue, lineOf, hl]
    case hold => exact lineKept_of_lines n (by rw [takeRelease_hold h hm, eachTimer_lines (holdRelease_eq n)])
    all_goals exact lineKept_of_lines n (by rw [takeRelease_idle h (by simp [hm])])
  · exact lineKept_of_lines 8 (by simp [takeRelease_panic, panicReleased])
  · exact lineKept_of_lines 9 rfl

/-! ### Presses served -/

/-- The fire of a line, taken behind a change of the lines alone. -/
theorem lineFire_comes {n cue : Nat} {extra : List Part} {p : State} {lines : Vector Line 10}
    (hpanic : panicAsserted { p with lines := lines } = panicAsserted p) (hl : .lines ∈ extra ∨ lines = p.lines)
    (hx : .port ∉ extra) : FireComes ⟨.line, n, cue, false⟩ extra True p (arbitrate (lineFire n cue { p with lines := lines })) :=
  fireComes_arbitrate (timers := (lineFire n cue { p with lines := lines }).timers) hpanic hl
    (.inr (fireReported_only _ _).timers_eq) hx

/-- A press is served by the line's mode, where it is not PANIC's (R104, R105, R108, R119). -/
theorem pressServed_takePress {n : Nat} {p : State} (hn : n < 10) (h8 : n ≠ 8) (hf : (lineOf p n).filter = .down)
    (ht : (lineOf p n).timer = 0) : PressServed n p (arbitrate (takePress n p)) := by
  obtain ⟨⟨held, penalty, hline⟩, hothers⟩ := takePress_lineKept hn p
  refine ⟨by simp [hline, hf], by simp [hline, ht], fun j hj => by simp [hothers j hj], ?_, fun h hm => ?_, fun h hm => ?_,
    fun h hm => ?_⟩
  · rintro (rfl | ⟨h, hm⟩)
    · exact arbitrate_frame p
    · rw [takePress_off h hm]
      exact arbitrate_frame p
  · rw [takePress_key h hm]
    exact ⟨by simp [lineOf], lineFire_comes (lines := p.lines) rfl (.inr rfl) (by simp)⟩
  · rw [takePress_momentary h hm]
    have hset : ∀ j, lineOf (setHeldCue n (some (lineCue p.shadow n)) p) j =
        if n = j ∧ j < 10 then { lineOf p n with heldCue := some (lineCue p.shadow n) } else lineOf p j := fun j =>
      lineOf_setLine ..
    obtain ⟨lines, hlines⟩ : ∃ lines, setHeldCue n (some (lineCue p.shadow n)) p = { p with lines := lines } := ⟨_, rfl⟩
    rw [hlines] at hset ⊢
    refine ⟨?_, lineFire_comes ?_ (.inl (by simp)) (by simp)⟩
    · rw [lineOf_arbitrate, lineOf, lineFire_lines]
      exact (hset n).trans (if_pos ⟨rfl, hn⟩)
    · exact congrArg asserted ((hset 8).trans (if_neg (fun h => h8 h.1)))
  · rw [takePress_hold h hm]
    obtain ⟨htimers, hframe⟩ := eachTimer_served (holdPress_eq n) p
    refine ⟨fun k hk => ⟨fun hb => ?_, fun hb => ?_⟩, hframe⟩
    · rw [htimers k hk, holdPressed, if_pos hb]
    · rw [htimers k hk, holdPressed, if_neg hb]

end Sys2Proof.Machine
end

section
/-!
SUPPORT. Presses judged by the lockout, PANIC, and releases; with them every press and release that is taken.
-/

namespace Sys2Proof.Machine

/-! ### An event that stands directly behind those pending -/

/-- An event appended keeps its place whatever is appended behind it. -/
theorem getElem?_of_appended {e : RaisedEvent} {p s t : State} (h : Appended [e] p s) (hq : s.queue <+: t.queue) :
    (t.queue[p.queue.length]?).map eventOf =
      some (e.1, BitVec.ofNat 16 e.2.1, BitVec.ofNat 16 e.2.2.1, e.2.2.2, p.frameCounter) := by
  obtain ⟨rest, hrest⟩ := hq
  have hmap : t.queue.map eventOf = (p.queue.map eventOf ++
      [(e.1, BitVec.ofNat 16 e.2.1, BitVec.ofNat 16 e.2.2.1, e.2.2.2, p.frameCounter)]) ++ rest.map eventOf := by
    rw [← hrest, List.map_append, h]
    rfl
  rw [← List.getElem?_map, hmap]
  simp

/-- The events behind the first of those appended. -/
theorem drop_of_appended {e : RaisedEvent} {es : List RaisedEvent} {p t : State} (h : Appended (e :: es) p t) :
    (t.queue.drop (p.queue.length + 1)).map eventOf =
      es.map (fun e => (e.1, BitVec.ofNat 16 e.2.1, BitVec.ofNat 16 e.2.2.1, e.2.2.2, p.frameCounter)) := by
  unfold Appended at h
  rw [List.map_drop, h, List.drop_append, List.drop_eq_nil_of_le (by simp)]
  simp

/-! ### The lockout -/

/-- An early press (R113). -/
theorem earlyPress_judged {n : Nat} {p : State} (hn : n < 10) :
    let t := arbitrate (earlyPress n p)
    lineOf t n = { lineOf p n with
        penalty := if earlyPenalty p.shadow = 0 then none else some (120 * earlyPenalty p.shadow) } ∧
      Raises .lockEarly n 0 (BitVec.ofNat 32 (earlyPenalty p.shadow)) p t ∧ unchangedBut [.lines, .queue, .marks] p t := by
  have hset := setPenalty_only n (earlyPenalty p.shadow) p
  have hpen : penaltyOf (earlyPenalty p.shadow) =
      if earlyPenalty p.shadow = 0 then none else some (120 * earlyPenalty p.shadow) := by
    simp [penaltyOf, Config.lineUnit, Nat.mul_comm]
  refine ⟨?_, ?_, ?_⟩
  · rw [lineOf_arbitrate, earlyPress, lineOf, raiseEvent_lines, setPenalty_lines, hpen]
    exact (lineOf_setLine ..).trans (if_pos ⟨rfl, hn⟩)
  · refine raises_arbitrate (s := setPenalty n (earlyPenalty p.shadow) p) ?_ ⟨rfl, rfl, rfl⟩
    rw [hset]
    exact ⟨rfl, rfl, rfl, rfl, rfl, rfl, rfl⟩
  · have hbody : earlyPress n p = { p with
        lines := (earlyPress n p).lines, marks := (earlyPress n p).marks, queue := (earlyPress n p).queue,
        lost := (earlyPress n p).lost, nextSeq := (earlyPress n p).nextSeq } := by
      rw [earlyPress, raiseEvent_only, hset]
    rw [hbody]
    exact unchangedBut_arbitrated (same_of_linesBlock rfl (.inl (by simp)) (.inr rfl) (.inr rfl) (.inr rfl) (.inl (by simp))
      (.inl (by simp))) (by simp)

/-- A late press (R112). -/
theorem latePress_judged {n : Nat} {p : State} :
    let lo := p.lockout
    let t := arbitrate (latePress n p)
    t.lockout = { lo with late := lo.late ++ [(n, lo.winClock / 120)] } ∧
      Raises .lockLate n lo.late.length (BitVec.ofNat 32 (lo.winClock / 120)) p t ∧
      unchangedBut [.lockout, .queue, .marks] p t := by
  have hset := setLockout_only { p.lockout with late := p.lockout.late ++ [(n, clockUnits p.lockout.winClock)] } p
  refine ⟨?_, ?_, ?_⟩
  · rw [arbitrate_lockout, latePress, raiseEvent_lockout, setLockout_lockout]
    rfl
  · refine raises_arbitrate (s := setLockout _ p) ?_ ⟨rfl, rfl, rfl⟩
    rw [hset]
    exact ⟨rfl, rfl, rfl, rfl, rfl, rfl, rfl⟩
  · have hbody : latePress n p = { p with
        lockout := (latePress n p).lockout, marks := (latePress n p).marks, queue := (latePress n p).queue,
        lost := (latePress n p).lost, nextSeq := (latePress n p).nextSeq } := by
      rw [latePress, raiseEvent_only, hset]
    rw [hbody]
    exact unchangedBut_arbitrated (same_of_linesBlock rfl (.inr rfl) (.inl (by simp)) (.inr rfl) (.inr rfl) (.inl (by simp))
      (.inl (by simp))) (by simp)

/-- A winning press (R111, R120). -/
theorem winningPress_judged {n : Nat} {p : State} :
    let lo := p.lockout
    let cue := lineCue p.shadow n
    let won : Lockout := { lo with state := .locked, winner := some n, reaction := lo.armClock / 120, winClock := 0 }
    let t := arbitrate (winningPress n p)
    t.lockout = won ∧
      (∀ k, k < 4 → timerOf t k =
        if timerMode p.shadow k = .win ∧ (timerOf p k).phase = .waiting then { timerOf p k with phase := .counting }
        else timerOf p k) ∧
      (CanAppend 1 p → (t.queue[p.queue.length]?).map eventOf =
        some (.lockWon, BitVec.ofNat 16 n, BitVec.ofNat 16 cue, BitVec.ofNat 32 (lo.armClock / 120), p.frameCounter)) ∧
      FireComes ⟨.line, n, cue, false⟩ [.timers] True
        (raiseEvent .lockWon n cue (BitVec.ofNat 32 (lo.armClock / 120)) (setLockout won p)) t ∧
      unchangedBut (voiceParts ++ [.lockout, .timers, .marks, .waiting]) p t := by
  intro lo cue won t
  let q := raiseEvent .lockWon n cue (BitVec.ofNat 32 (lo.armClock / 120)) (setLockout won p)
  have honly : VoiceOnly q (lineFire n cue q) := fireReported_only _ q
  obtain ⟨⟨ts, hts⟩, htimers⟩ := eachTimer_sets winStart_eq (lineFire n cue q)
  have hwin : winningPress n p = { lineFire n cue q with timers := ts } := hts
  have hpress : PressOnly p (winningPress n p) := by
    rw [hwin]
    exact (((pressOnly_setLockout won p).trans (raise_only _ _ _ _ _).pressOnly).trans honly.pressOnly).trans
      (pressOnly_timers _ ts)
  have hqueue : (winningPress n p).queue = (lineFire n cue q).queue := by rw [hwin]
  refine ⟨?_, fun k hk => ?_, fun hroom => ?_, ?_, ?_⟩
  · rw [arbitrate_lockout, hwin]
    exact honly.lockout_eq.trans (by simp [q])
  · have hsh : (lineFire n cue q).shadow = p.shadow := honly.shadow_eq.trans (by simp [q])
    have htm : timerOf (lineFire n cue q) k = timerOf p k := by
      rw [timerOf, honly.timers_eq]
      simp [q, timerOf]
    rw [timerOf_arbitrate, show timerOf (winningPress n p) k = _ from htimers k hk, hsh, htm]
    rfl
  · have hraised := appendsIfRoom_raise (k := .lockWon) rfl n cue (BitVec.ofNat 32 (lo.armClock / 120)) (setLockout won p)
    have happ : Appended [(.lockWon, n, cue, BitVec.ofNat 32 (lo.armClock / 120))] p q :=
      appendsIfRoom_trans (by rw [setLockout_only]) (by rw [setLockout_only]) (by rw [setLockout_only])
        (appendsIfRoom_nil (setLockout_queue won p)) hraised hroom
    exact getElem?_of_appended happ (by rw [arbitrate_queue, hqueue]; exact fireReported_queue_prefix _ q)
  · have h := fireComes_arbitrate (f := ⟨.line, n, cue, false⟩) (extra := [.timers]) (p := q) (lines := q.lines) (timers := ts)
      rfl (.inr rfl) (.inl (by simp)) (by simp)
    rw [show t = arbitrate { lineFire n cue q with timers := ts } from congrArg arbitrate hwin]
    exact h
  · refine unchangedBut_arbitrated (hpress.same (fun part hpart => by simp [hpart]) (.inr (winningPress_lines n p)) (.inl ?_)
      (.inl ?_) (.inl ?_) (.inl ?_)) ?_ <;> simp [voiceParts, hpress.2.free_iff]

theorem inPenalty_iff (s : State) (n : Nat) : inPenalty s n = true ↔ (lineOf s n).penalty ≠ none := by
  simp [inPenalty, Option.isSome_iff_ne_none]

theorem inLateList_iff (lo : Lockout) (n : Nat) : inLateList lo n = true ↔ ∃ d, (n, d) ∈ lo.late := by
  simp [inLateList]

theorem lockoutPress_unlocked {n : Nat} {p : State} (h : p.lockout.state = .unlocked) : lockoutPress n p = earlyPress n p := by
  simp [lockoutPress, h]

theorem lockoutPress_armed {n : Nat} {p : State} (h : p.lockout.state = .armed) :
    lockoutPress n p =
      if p.lockout.barred.getLsbD n = true ∨ (lineOf p n).penalty ≠ none then p else winningPress n p := by
  simp only [lockoutPress, h, Bool.or_eq_true, inPenalty_iff]

/-- What keeps a line off the late list (R112). -/
def NotLate (n : Nat) (p : State) : Prop :=
  p.lockout.winner = some n ∨ (p.lockout.barred.getLsbD n = true ∨ (lineOf p n).penalty ≠ none) ∨
    (∃ d, (n, d) ∈ p.lockout.late) ∨ 7 ≤ p.lockout.late.length

theorem lockoutPress_notLate {n : Nat} {p : State} (hs : p.lockout.state = .locked) (h : NotLate n p) :
    lockoutPress n p = p := by
  simp only [lockoutPress, hs, Bool.or_eq_true, inPenalty_iff, inLateList_iff, beq_iff_eq, ite_eq_left_iff]
  intro hno hlen
  unfold NotLate at h
  tauto

theorem lockoutPress_late {n : Nat} {p : State} (hs : p.lockout.state = .locked) (h : ¬ NotLate n p) :
    lockoutPress n p = latePress n p := by
  simp only [NotLate, not_or] at h
  obtain ⟨hwinner, ⟨hbarred, hpenalty⟩, hlisted, hlen⟩ := h
  simp only [lockoutPress, hs]
  rw [if_neg (by simp [inPenalty, inLateList_iff, hwinner, hbarred, not_not.mp hpenalty, hlisted]), if_neg hlen]

/-- A press of a LOCKOUT line is judged (R110). -/
theorem lockoutJudged_lockoutPress {n : Nat} {p : State} (hn : n < 10) (hf : (lineOf p n).filter = .down) :
    LockoutJudged n p (arbitrate (lockoutPress n p)) := by
  obtain ⟨⟨held, penalty, hline⟩, -⟩ := lockoutPress_lineKept n p
  refine ⟨by simp [hline, hf], fun hs => ?_, fun hs hshut => ?_, fun hs hshut => ?_, fun hs hign => ?_, fun hs hign => ?_⟩
  · rw [lockoutPress_unlocked hs]
    exact earlyPress_judged hn
  · rw [lockoutPress_armed hs, if_pos hshut]
    exact arbitrate_frame p
  · rw [lockoutPress_armed hs, if_neg hshut]
    exact winningPress_judged
  · rw [lockoutPress_notLate hs hign]
    exact arbitrate_frame p
  · rw [lockoutPress_late hs hign]
    exact latePress_judged

/-! ### PANIC -/

theorem bitSet_lt (p : Nat → Bool) (k : Nat) : bitSet p k < 2 ^ k := by
  induction k with
  | zero => simp [bitSet]
  | succ k ih =>
    simp only [bitSet, Nat.pow_succ]
    split <;> omega

theorem testBit_bitSet (p : Nat → Bool) (k i : Nat) : (bitSet p k).testBit i = (decide (i < k) && p i) := by
  induction k with
  | zero => simp [bitSet]
  | succ k ih =>
    have hlt := bitSet_lt p k
    have hadd : (bitSet p (k + 1)).testBit i = ((bitSet p k).testBit i || (decide (i = k) && p k)) := by
      simp only [bitSet]
      split
      · rename_i hp
        have hor := Nat.two_pow_add_eq_or_of_lt hlt 1
        rw [Nat.mul_one] at hor
        rw [Nat.add_comm, hor, Nat.testBit_or, Nat.testBit_two_pow, Bool.or_comm, hp]
        simp [eq_comm]
      · simp [*]
    rw [hadd, ih]
    by_cases hi : i = k
    · simp [hi]
    · have : i < k + 1 ↔ i < k := by omega
      simp [hi, this]

/-- The pass of a press of PANIC over the voices (R139). -/
theorem panicRelease_reached (fade : Nat) (s : State) :
    let reached : Nat → Voice := fun v => releasedVoice (if fade = 0 then none else some fade) .panic .panic (voiceOf s v)
    (∀ v, v < 24 → voiceOf (panicRelease fade s) v = reached v) ∧
      EndsTaken (endsAmong s reached .panic) s (panicRelease fade s) := by
  refine eachVoice_reached (y := fun _ x => releasedVoice (if fade = 0 then none else some fade) .panic .panic x)
    (fun v t hv _ => ?_) (fun v => (if_pos rfl).symm)
  have h := voiceReached_release hv (fun _ => if fade = 0 then none else some fade) .panic .panic t
  have hr : releaseReason (if fade = 0 then none else some fade) .panic .panic = .panic := by
    split <;> rfl
  rwa [hr] at h

/-- The pass of a MOMENTARY line's release over the voices (R105, R138). -/
theorem releaseCueFade_reached (cue : Nat) (s : State) :
    let reached : Nat → Voice := fun v =>
      let x := voiceOf s v
      if x.cue = cue then releasedVoice (some x.fo) .released .cut x else x
    (∀ v, v < 24 → voiceOf (releaseCueFade cue s) v = reached v) ∧
      EndsTaken (endsAmong s reached .released) s (releaseCueFade cue s) :=
  eachVoice_reached (y := fun _ x => releasedVoice (some x.fo) .released .cut x)
    (fun _ t hv _ => voiceReached_release hv (fun x => some x.fo) .released .cut t) (fun v => by simp)

/-- PANIC_ON shows the voices that are not IDLE, the timers that run and the fade (R106). -/
theorem panicOn_record {p s t : State} {timers fade : Nat}
    (happ : Appended [(.panicOn, busyVoices p, timers, BitVec.ofNat 32 fade)] p s) (hq : s.queue <+: t.queue) (htimers : timers = bitSet (fun t => running (timerOf p t)) 4) :
    ∃ r, t.queue[p.queue.length]? = some r ∧ r.kind = .panicOn ∧
      r.subjectA = BitVec.ofNat 16 ((List.range 24).filter (fun v => (voiceOf p v).state != .idle)).length ∧
      (∀ k, k < 16 → r.subjectB.getLsbD k = (decide (k < 4) && (timerOf p k).phase != .stopped)) ∧
      r.value = BitVec.ofNat 32 fade := by
  obtain ⟨r, hr, hrec⟩ := Option.map_eq_some_iff.mp (getElem?_of_appended happ hq)
  simp only [eventOf, Prod.mk.injEq] at hrec
  obtain ⟨hkind, ha, hb, hvalue, -⟩ := hrec
  refine ⟨r, hr, hkind, ha, fun k hk => ?_, hvalue⟩
  rw [hb, htimers, BitVec.getLsbD_ofNat, testBit_bitSet]
  simp [hk, running]

/-- A press of PANIC (R106). -/
theorem panicTaken_panicPress {p : State} (hf : (lineOf p 8).filter = .down) : PanicTaken p (arbitrate (panicPress p)) := by
  have hline : lineOf (panicPress p) 8 = lineOf p 8 := by rw [lineOf, lineOf, panicPress_lines]
  let timers := bitSet (fun t => running (timerOf p t)) 4
  let fade := panicFade p.shadow
  let raised := raiseEvent .panicOn (busyVoices p) timers (BitVec.ofNat 32 fade) p
  obtain ⟨⟨ts, hts⟩, htimers⟩ := eachTimer_sets stopTimer_eq raised
  let q : State := { raised with timers := ts }
  have hpanic : panicPress p = panicRelease fade q := congrArg (panicRelease fade) hts
  have honly : VoiceOnly q (panicPress p) := hpanic ▸ panicRelease_only fade q
  have hvoices : ∀ v, voiceOf q v = voiceOf p v := voiceOf_raiseEvent _ _ _ _ p
  have hclips : ∀ c, clipOf q c = clipOf p c := clipOf_raiseEvent _ _ _ _ p
  obtain ⟨hrec, hends⟩ := panicRelease_reached fade q
  simp only [endsAmong, hvoices, ← hpanic] at hrec hends
  have hraised : AppendsIfRoom [(.panicOn, busyVoices p, timers, BitVec.ofNat 32 fade)] p q := appendsIfRoom_raise rfl _ _ _ p
  obtain ⟨hholds, hstale, hcounted⟩ := ends_arbitrate (p := p) hends hrec
    ⟨raiseEvent_clips .., raiseEvent_slots .., raiseEvent_port ..⟩ ⟨rfl, rfl, rfl, rfl⟩
  have hpress : PressOnly p (panicPress p) :=
    ((raise_only _ _ _ _ p).pressOnly.trans (pressOnly_timers raised ts)).trans honly.pressOnly
  refine ⟨?_, fun k hk => ?_, hholds, hstale, hcounted, fun hroom => ?_, fun hroom => ?_, ?_⟩
  · simp [panicAsserted, panicLine, hline, asserted, hf]
  · have hk' := htimers k hk
    rw [hts] at hk'
    rw [timerOf_arbitrate, timerOf, honly.timers_eq]
    have htimer : timerOf raised k = timerOf p k := by simp [raised, timerOf]
    rw [htimer] at hk'
    exact hk'
  · have hev := appendsIfRoom_trans (raiseEvent_rst ..) (raiseEvent_sweep ..) (raiseEvent_frameCounter ..) hraised hends.events
    rw [endEvents_congr hclips] at hev
    have happ := hev (canAppend_mono (by
      simp only [List.length_append, List.length_singleton]
      exact Nat.add_le_add_left (length_endEvents_le p [] _) 1) hroom)
    rw [arbitrate_queue]
    exact drop_of_appended happ
  · exact panicOn_record (hraised hroom) (by
      rw [arbitrate_queue, hpanic]
      exact eachVoice_queue_prefix (fun v s => releaseVoice_queue_prefix _ _ _ v s) q) rfl
  · refine unchangedBut_arbitrated (hpress.same (fun part hpart => by simp [hpart]) (.inr (panicPress_lines p)) (.inr ?_)
      (.inl (by simp)) (.inr ?_) (.inr ?_)) ?_
    · exact honly.lockout_eq.trans (by simp [q, raised])
    · rw [honly.1]
      simp only [q, raised]
      rw [raiseEvent_only]
    · exact hends.draws.trans (by simp [q, raised])
    · simpa [voiceParts] using hpress.2.free_iff

/-- A release of PANIC raises PANIC_OFF (R107). -/
theorem panicReleased_served {p : State} (hf : (lineOf p 8).filter = .up) : PanicReleased p (arbitrate (panicReleased p)) := by
  refine ⟨?_, raises_arbitrate ⟨rfl, rfl, rfl, rfl, rfl, rfl, rfl⟩ ⟨rfl, rfl, rfl⟩, ?_⟩
  · simp [panicAsserted, panicLine, panicReleased, lineOf, asserted] at hf ⊢
    simp [hf]
  · refine unchangedBut_arbitrated ?_ (by simp [panicReleased])
    rw [panicReleased, raiseEvent_only]
    exact same_of_linesBlock rfl (.inr rfl) (.inr rfl) (.inr rfl) (.inr rfl) (.inr rfl) (.inl (by simp))

/-! ### Releases served -/

/-- The release of a MOMENTARY line releases the voices of its held cue (R105, R138). -/
theorem momentaryRelease_served {n cue : Nat} {p : State} (hn : n < 10) :
    let reached : Nat → Voice := fun v =>
      let x := voiceOf p v
      if x.cue = cue then releasedVoice (some x.fo) .released .cut x else x
    let ends := endsAmong p reached .released
    let t := arbitrate (setHeldCue n none (releaseCueFade cue p))
    (lineOf t n).heldCue = none ∧ (∀ v, v < 24 → VoiceHolds p t v (reached v)) ∧ StaleWhereEnded reached p t ∧
      EndsCounted ends p t ∧ (CanAppend (2 * ends.length) p → Appended (endEvents p [] ends) p t) ∧
      unchangedBut (voiceParts ++ [.lines]) p t := by
  obtain ⟨hrec, hends⟩ := releaseCueFade_reached cue p
  generalize releaseCueFade cue p = r at hrec hends ⊢
  intro reached ends t
  have honly := hends.only
  obtain ⟨hholds, hstale, hcounted⟩ := ends_arbitrate (u := setHeldCue n none r) hends hrec ⟨rfl, rfl, rfl⟩
    ⟨rfl, rfl, rfl, rfl⟩
  have hpress : PressOnly p (setHeldCue n none r) := honly.pressOnly.trans (pressOnly_lines _ _)
  refine ⟨?_, hholds, hstale, hcounted, fun hroom => ?_, ?_⟩
  · rw [lineOf_arbitrate, setHeldCue, lineOf_setLine, if_pos ⟨rfl, hn⟩]
  · have h := hends.events (canAppend_mono (length_endEvents_le p [] _) hroom)
    unfold Appended at h ⊢
    rw [arbitrate_queue]
    exact h
  · refine unchangedBut_arbitrated (hpress.same (fun part hpart => by simp [hpart]) (.inl (by simp)) (.inr honly.lockout_eq)
      (.inr honly.timers_eq) (.inr ?_) (.inr hends.draws)) ?_
    · rw [setHeldCue, setLine_marks, honly.1]
    · simpa [voiceParts] using hpress.2.free_iff

/-- A release is served by the line's mode, where it is not PANIC's (R104, R105, R108, R119). -/
theorem releaseServed_takeRelease {n : Nat} {p : State} (hn : n < 10) (hf : (lineOf p n).filter = .up)
    (ht : (lineOf p n).timer = 0) : ReleaseServed n p (arbitrate (takeRelease n p)) := by
  obtain ⟨⟨held, penalty, hline⟩, hothers⟩ := takeRelease_lineKept hn p
  refine ⟨by simp [hline, hf], by simp [hline, ht], fun j hj => by simp [hothers j hj], ?_, fun cue h hm hc => ?_, fun h hm => ?_⟩
  · rintro (rfl | ⟨h, hm⟩)
    · exact arbitrate_frame p
    · rw [takeRelease_idle h hm]
      exact arbitrate_frame p
  · rw [takeRelease_momentary h hm hc]
    exact momentaryRelease_served hn
  · rw [takeRelease_hold h hm]
    obtain ⟨htimers, hframe⟩ := eachTimer_served (holdRelease_eq n) p
    refine ⟨fun k hk => ⟨fun hb => ?_, fun hb => ?_⟩, hframe⟩
    · rw [htimers k hk, holdReleased, if_pos hb]
    · rw [htimers k hk, holdReleased, if_neg hb]

/-- A press taken of a line whose filter stands DOWN. -/
theorem pressTaken_takePress {n : Nat} {p : State} (hn : n < 10) (hf : (lineOf p n).filter = .down)
    (ht : (lineOf p n).timer = 0) : PressTaken n p (arbitrate (takePress n p)) := by
  refine ⟨fun h8 => pressServed_takePress hn h8 hf ht, fun h hm => ?_, ?_⟩
  · rw [takePress_lockout h hm]
    exact lockoutJudged_lockoutPress hn hf
  · rintro rfl
    exact panicTaken_panicPress hf

/-- A release taken of a line whose filter stands UP. -/
theorem releaseTaken_takeRelease {n : Nat} {p : State} (hn : n < 10) (hf : (lineOf p n).filter = .up)
    (ht : (lineOf p n).timer = 0) : ReleaseTaken n p (arbitrate (takeRelease n p)) := by
  refine ⟨fun _ => releaseServed_takeRelease hn hf ht, ?_⟩
  rintro rfl
  exact panicReleased_served hf

end Sys2Proof.Machine
end

section
/-!
PROOF. Time that passes and the edges of the lines (O53).
-/

namespace Sys2Proof.Machine

/-! ### The passing of time -/

theorem lineOf_elapse (d n : Nat) (s : State) : lineOf (elapse d s) n = lineAfter d (lineOf s n) :=
  bankGet_map (lineAfter d) s.lines n (Line.released false)

/-- The passing of time reaches the lines, the lockout's clocks and the Frame Clock's timers alone (R1, R102, R109, R113, R166). -/
theorem elapse_passes (d : Nat) (s : State) :
    let e := elapse d s
    (∀ n, n < 10 →
      let l := lineOf s n
      lineOf e n = { l with
        timer := if l.filter = .pressing ∨ l.filter = .releasing then l.timer - d else l.timer
        penalty := l.penalty.map (fun p => p - d) }) ∧
    e.lockout = { s.lockout with
      armClock := if s.lockout.state = .unlocked then s.lockout.armClock else min (0xFFFFFFFF * 120) (s.lockout.armClock + d)
      winClock := if s.lockout.state = .locked then min (65535 * 120) (s.lockout.winClock + d) else s.lockout.winClock } ∧
    e.clock = { s.clock with
      frameTimer := s.clock.frameTimer - d
      gap := if s.clock.state = .relocking then s.clock.gap - d else s.clock.gap } ∧
    unchangedBut [.lines, .lockout, .clock] s e := by
  refine ⟨fun n _ => ?_, rfl, rfl, fun p hp => ?_⟩
  · rw [lineOf_elapse]
    simp [lineAfter, filterCounts]
  · have hgrant : granted [.lines, .lockout, .clock] s (elapse d s) = none := by
      by_cases hport : s.port = none <;> simp [granted, elapse, hport]
    rw [hgrant]
    exact same_of_linesBlock (t := elapse d s) rfl (.inl (by simp)) (.inl (by simp)) (.inr rfl) (.inl (by simp)) (.inr rfl)
      (.inr ⟨rfl, rfl, rfl⟩) p hp

/-! ### Edges -/

theorem setLine_self (n : Nat) (s : State) : setLine n (lineOf s n) s = s := by
  rw [setLine, lineOf, bankSet_bankGet]

theorem lineOf_setFilter {n : Nat} (hn : n < 10) (f : FilterState) (d : Nat) (s : State) (j : Nat) :
    lineOf (setFilter n f d s) j = if j = n then { lineOf s n with filter := f, timer := d } else lineOf s j := by
  rw [setFilter, lineOf_setLine]
  by_cases hj : j = n
  · subst hj
    simp [hn]
  · simp [hj, Ne.symm hj]

theorem lineOf_setPin {n : Nat} (hn : n < 10) (high : Bool) (s : State) (j : Nat) :
    lineOf (setPin n high s) j = if j = n then { lineOf s n with high := high } else lineOf s j := by
  rw [setPin, lineOf_setLine]
  by_cases hj : j = n
  · subst hj
    simp [hn]
  · simp [hj, Ne.symm hj]

/-- With a glitch filter of 0 a leading edge of a line that is UP is its press (R102). -/
def PressAtOnce (g : Nat) (was now : Bool) (f : FilterState) : Prop := was = false ∧ now = true ∧ f = .up ∧ g = 0

/-- With a glitch filter of 0 a trailing edge of a line that is DOWN is its release (R102). -/
def ReleaseAtOnce (g : Nat) (was now : Bool) (f : FilterState) : Prop := was = true ∧ now = false ∧ f = .down ∧ g = 0

section
variable {n : Nat} {was now : Bool} {s : State} (hrst : s.rst = false)
include hrst

/-- An edge of the judged level that is no press or release at once moves the filter by R102's table and does no more. -/
theorem judgedEdge_moves (hp : ¬ PressAtOnce (glitch s.shadow) was now (lineOf s n).filter)
    (hr : ¬ ReleaseAtOnce (glitch s.shadow) was now (lineOf s n).filter) :
    judgedEdge n was now s =
      setFilter n (afterEdge (glitch s.shadow) was now (lineOf s n).filter (lineOf s n).timer).1
        (afterEdge (glitch s.shadow) was now (lineOf s n).filter (lineOf s n).timer).2 s := by
  have hself : ∀ f, (lineOf s n).filter = f → setFilter n f (lineOf s n).timer s = s := by
    rintro f rfl
    exact setLine_self n s
  have hunits : ∀ g, g * Config.lineUnit = 120 * g := fun g => Nat.mul_comm g 120
  unfold judgedEdge
  rcases was, now with ⟨_ | _, _ | _⟩
  case false.false | true.true => simp [hrst, afterEdge, hself]
  case false.true =>
    simp only [PressAtOnce, true_and] at hp
    cases hf : (lineOf s n).filter <;>
      simp_all [leadingEdge, afterEdge, afterLeadingEdge]
  case true.false =>
    simp only [ReleaseAtOnce, true_and] at hr
    cases hf : (lineOf s n).filter <;>
      simp_all [trailingEdge, afterEdge, afterTrailingEdge]

theorem judgedEdge_press (h : PressAtOnce (glitch s.shadow) was now (lineOf s n).filter) :
    judgedEdge n was now s = takePress n (setFilter n .down 0 s) := by
  obtain ⟨rfl, rfl, hf, hg⟩ := h
  simp [judgedEdge, hrst, leadingEdge, hf, hg]

theorem judgedEdge_release (h : ReleaseAtOnce (glitch s.shadow) was now (lineOf s n).filter) :
    judgedEdge n was now s = takeRelease n (setFilter n .up 0 s) := by
  obtain ⟨rfl, rfl, hf, hg⟩ := h
  simp [judgedEdge, hrst, trailingEdge, hf, hg]

end

/-- A step of the lines alone. -/
theorem unchangedBut_lines (p : State) (ls : Vector Line 10) : unchangedBut [.lines] p (arbitrate { p with lines := ls }) :=
  unchangedBut_arbitrated (same_of_linesBlock rfl (.inl (by simp)) (.inr rfl) (.inr rfl) (.inr rfl) (.inr rfl)
    (.inr ⟨rfl, rfl, rfl⟩)) (by simp)

/-- What an edge of line `n`'s pin leaves, where RST# is not asserted: `was` and `now` are the judged levels before and behind it. -/
structure EdgeTaken (n : Nat) (high was now : Bool) (e t : State) : Prop where
  pin : (lineOf t n).high = high
  others : ∀ j, j ≠ n → lineOf t j = lineOf e j
  moved : ((lineOf t n).filter, (lineOf t n).timer) = afterEdge (glitch e.shadow) was now (lineOf e n).filter (lineOf e n).timer
  quiet : ¬ PressAtOnce (glitch e.shadow) was now (lineOf e n).filter →
    ¬ ReleaseAtOnce (glitch e.shadow) was now (lineOf e n).filter → unchangedBut [.lines] e t
  press : PressAtOnce (glitch e.shadow) was now (lineOf e n).filter → PressTaken n (setFilter n .down 0 (setPin n high e)) t
  release : ReleaseAtOnce (glitch e.shadow) was now (lineOf e n).filter → ReleaseTaken n (setFilter n .up 0 (setPin n high e)) t

theorem edgeTaken_judgedEdge {n : Nat} {high was now : Bool} {e : State} (hn : n < 10) (hrst : e.rst = false) :
    EdgeTaken n high was now e (arbitrate (judgedEdge n was now (setPin n high e))) := by
  have hpin : ∀ f d j, lineOf (setFilter n f d (setPin n high e)) j =
      if j = n then { lineOf e n with high := high, filter := f, timer := d } else lineOf e j := fun f d j => by
    rw [lineOf_setFilter hn, lineOf_setPin hn, lineOf_setPin hn, if_pos rfl]
    split <;> rfl
  have hline : lineOf (setPin n high e) n = { lineOf e n with high := high } := by rw [lineOf_setPin hn, if_pos rfl]
  have hfilter : (lineOf (setPin n high e) n).filter = (lineOf e n).filter := by rw [hline]
  have htimer : (lineOf (setPin n high e) n).timer = (lineOf e n).timer := by rw [hline]
  have hrst' : (setPin n high e).rst = false := hrst
  have hsh : (setPin n high e).shadow = e.shadow := rfl
  by_cases hp : PressAtOnce (glitch e.shadow) was now (lineOf e n).filter
  · have ht : judgedEdge n was now (setPin n high e) = takePress n (setFilter n .down 0 (setPin n high e)) :=
      judgedEdge_press hrst' (by rwa [hfilter, hsh])
    obtain ⟨⟨held, penalty, hkept⟩, hothers⟩ := takePress_lineKept hn (setFilter n .down 0 (setPin n high e))
    have htaken := pressTaken_takePress (p := setFilter n .down 0 (setPin n high e)) hn (by simp [hpin]) (by simp [hpin])
    rw [← ht] at hkept hothers htaken
    obtain ⟨rfl, rfl, hup, hg⟩ := hp
    refine ⟨by simp [hkept, hpin], fun j hj => by simp [hothers j hj, hpin, hj], ?_, fun hno => absurd ⟨rfl, rfl, hup, hg⟩ hno,
      fun _ => htaken, fun hr => nomatch hr.1⟩
    simp [hkept, hpin, afterEdge, afterLeadingEdge, hup, hg]
  by_cases hr : ReleaseAtOnce (glitch e.shadow) was now (lineOf e n).filter
  · have ht : judgedEdge n was now (setPin n high e) = takeRelease n (setFilter n .up 0 (setPin n high e)) :=
      judgedEdge_release hrst' (by rwa [hfilter, hsh])
    obtain ⟨⟨held, penalty, hkept⟩, hothers⟩ := takeRelease_lineKept hn (setFilter n .up 0 (setPin n high e))
    have htaken := releaseTaken_takeRelease (p := setFilter n .up 0 (setPin n high e)) hn (by simp [hpin]) (by simp [hpin])
    rw [← ht] at hkept hothers htaken
    refine ⟨by simp [hkept, hpin], fun j hj => by simp [hothers j hj, hpin, hj], ?_, fun _ hno => absurd hr hno,
      fun h => absurd h hp, fun _ => htaken⟩
    obtain ⟨rfl, rfl, hdown, hg⟩ := hr
    simp [hkept, hpin, afterEdge, afterTrailingEdge, hdown, hg]
  · have ht := judgedEdge_moves (n := n) (was := was) (now := now) hrst' (by rwa [hfilter, hsh]) (by rwa [hfilter, hsh])
    rw [hfilter, htimer, hsh] at ht
    rw [ht]
    exact ⟨by simp [hpin], fun j hj => by simp [hpin, hj], by simp [hpin], fun _ _ => unchangedBut_lines e _,
      fun h => absurd h hp, fun h => absurd h hr⟩

/-- While RST# is asserted an edge changes the pin alone (R103). -/
theorem judgedEdge_rst {n : Nat} {was now : Bool} {s : State} (h : s.rst = true) : judgedEdge n was now s = s := by
  simp [judgedEdge, h]

/-- Settles O53. The clause of a press or release at once is that of a press or release taken of a line whose filter stands DOWN or
UP, by whichever of line mode, lockout and PANIC it goes to. -/
theorem lineEdgesMoveFilters : Obligations.LineEdgesMoveFilters := by
  refine ⟨elapse_passes, fun n high after s hs => ?_, fun n high after s hs => afterTime_early _ hs⟩
  have hlines : ∀ j, lineOf (setPin n high (elapse after s)) j =
      if j = n.val then { lineOf (elapse after s) n with high := high } else lineOf (elapse after s) j :=
    lineOf_setPin n.isLt high (elapse after s)
  intro e l was now press release
  refine ⟨_, afterTime_next (pinEdge n high) hs, ?_⟩
  by_cases hrst : s.rst = true
  · have ht : pinEdge n high (elapse after s) = setPin n high e := judgedEdge_rst hrst
    rw [ht]
    refine ⟨by simp [hlines, e], fun j hj => by simp [hlines, hj, e], fun _ => ⟨by simp [hlines, e, l], unchangedBut_lines e _⟩,
      fun h => absurd hrst (by simp [h])⟩
  · have hfalse : s.rst = false := by simpa using hrst
    have h : EdgeTaken n high was now e (arbitrate (pinEdge n high e)) := edgeTaken_judgedEdge n.isLt hfalse
    exact ⟨h.pin, h.others, fun h => absurd h hrst, fun _ => ⟨h.moved, h.quiet, h.press, h.release⟩⟩

end Sys2Proof.Machine
end

section
/-!
SUPPORT. What the blocks do behind a write: no operation of theirs changes memory or the shadow. An edge, a press, a release and what the
owners of a merged field do stay within the parts of `EffectsOnly`.
-/

namespace Sys2Proof.Machine

/-! ### Presses, releases and edges -/

theorem PressOnly.refl (s : State) : PressOnly s s := ⟨rfl, .inl rfl⟩

theorem pressOnly_setPenalty (n u : Nat) (s : State) : PressOnly s (setPenalty n u s) := by
  refine ⟨?_, .inl ?_⟩ <;> rw [setPenalty_only]

theorem pressOnly_raise (k : EventKind) (a b : Nat) (value : Word) (s : State) : PressOnly s (raiseEvent k a b value s) :=
  (raise_only k a b value s).pressOnly

/-- A fold of operations that each keep the rest keeps the rest. -/
theorem foldl_pressOnly {α : Type} (f : State → α → State) (hf : ∀ s a, PressOnly s (f s a)) (xs : List α) (s : State) :
    PressOnly s (xs.foldl f s) := by
  induction xs generalizing s with
  | nil => exact PressOnly.refl s
  | cons a xs ih => exact (hf s a).trans (ih (f s a))

theorem eachTimer_pressOnly {f : Nat → State → State} (hf : ∀ i s, PressOnly s (f i s)) (s : State) :
    PressOnly s (eachTimer f s) :=
  foldl_pressOnly _ (fun t i => hf i t) _ s

theorem pressOnly_setTimer (i : Nat) (x : CueTimer) (s : State) : PressOnly s (setTimer i x s) := pressOnly_timers s _

theorem lineFire_pressOnly (n cue : Nat) (s : State) : PressOnly s (lineFire n cue s) := (fireReported_only _ s).pressOnly

theorem lockoutPress_pressOnly (n : Nat) (s : State) : PressOnly s (lockoutPress n s) := by
  simp only [lockoutPress]
  split
  · exact (pressOnly_setPenalty n _ s).trans (pressOnly_raise _ _ _ _ _)
  · split
    · exact PressOnly.refl s
    · exact (((pressOnly_setLockout _ s).trans (pressOnly_raise _ _ _ _ _)).trans (lineFire_pressOnly _ _ _)).trans
        (eachTimer_pressOnly (fun i t => winStart_eq i t ▸ pressOnly_setTimer i _ t) _)
  · split
    · exact PressOnly.refl s
    · split
      · exact PressOnly.refl s
      · exact (pressOnly_setLockout _ s).trans (pressOnly_raise _ _ _ _ _)

theorem takePress_pressOnly (n : Nat) (s : State) : PressOnly s (takePress n s) := by
  unfold takePress
  split
  · exact ((pressOnly_raise _ _ _ _ s).trans
      (eachTimer_pressOnly (fun i t => stopTimer_eq i t ▸ pressOnly_setTimer i _ t) _)).trans (panicRelease_only _ _).pressOnly
  · split
    · exact PressOnly.refl s
    · split
      · exact PressOnly.refl s
      · exact lockoutPress_pressOnly n s
      · exact lineFire_pressOnly _ _ s
      · exact (pressOnly_lines s _).trans (lineFire_pressOnly _ _ _)
      · exact eachTimer_pressOnly (fun i t => holdPress_eq n i t ▸ pressOnly_setTimer i _ t) s

theorem takeRelease_pressOnly (n : Nat) (s : State) : PressOnly s (takeRelease n s) := by
  unfold takeRelease
  split
  · exact pressOnly_raise _ _ _ _ s
  · split
    · exact PressOnly.refl s
    · split
      · exact PressOnly.refl s
      · exact PressOnly.refl s
      · exact PressOnly.refl s
      · split
        · exact (eachVoice_only _ _ (fun v t => releaseVoice_only _ _ _ v t) s).pressOnly.trans (pressOnly_lines _ _)
        · exact PressOnly.refl s
      · exact eachTimer_pressOnly (fun i t => holdRelease_eq n i t ▸ pressOnly_setTimer i _ t) s

theorem pressOnly_setFilter (n : Nat) (f : FilterState) (d : Nat) (s : State) : PressOnly s (setFilter n f d s) :=
  pressOnly_lines s _

theorem leadingEdge_pressOnly (n : Nat) (s : State) : PressOnly s (leadingEdge n s) := by
  simp only [leadingEdge]
  split
  · split
    · exact (pressOnly_setFilter n .down 0 s).trans (takePress_pressOnly n _)
    · exact pressOnly_setFilter n _ _ s
  · exact pressOnly_setFilter n _ _ s
  · exact PressOnly.refl s

theorem trailingEdge_pressOnly (n : Nat) (s : State) : PressOnly s (trailingEdge n s) := by
  simp only [trailingEdge]
  split
  · exact pressOnly_setFilter n _ _ s
  · split
    · exact (pressOnly_setFilter n .up 0 s).trans (takeRelease_pressOnly n _)
    · exact pressOnly_setFilter n _ _ s
  · exact PressOnly.refl s

theorem judgedEdge_pressOnly (n : Nat) (old new : Bool) (s : State) : PressOnly s (judgedEdge n old new s) := by
  unfold judgedEdge
  split
  · exact PressOnly.refl s
  · split
    · exact leadingEdge_pressOnly n s
    · exact trailingEdge_pressOnly n s

theorem filterExpiry_pressOnly (n : Nat) (s : State) : PressOnly s (filterExpiry n s) := by
  unfold filterExpiry
  split
  · exact (pressOnly_setFilter n .down 0 s).trans (takePress_pressOnly n _)
  · exact (pressOnly_setFilter n .up 0 s).trans (takeRelease_pressOnly n _)
  · exact PressOnly.refl s

theorem startLines_pressOnly (s : State) : PressOnly s (startLines s) := by
  refine foldl_pressOnly _ (fun t n => ?_) _ s
  split
  · exact leadingEdge_pressOnly n t
  · exact PressOnly.refl t

/-! ### What the owners of a merged field do -/

/-- `t` is `s` but for what the owners of a field may do at a merge: a press or a release, the Frame Clock, ATTN, the board interval
count (R32). -/
def EffectsOnly (s t : State) : Prop :=
  t = { s with
    lines := t.lines, lockout := t.lockout, timers := t.timers, marks := t.marks, voices := t.voices, clips := t.clips,
    mirrorFlags := t.mirrorFlags, mirrorAgain := t.mirrorAgain, slots := t.slots, queue := t.queue, lost := t.lost,
    nextSeq := t.nextSeq, port := t.port, draws := t.draws, clock := t.clock, attn := t.attn, boardCount := t.boardCount } ∧
    PortStands s t

theorem EffectsOnly.refl (s : State) : EffectsOnly s s := ⟨rfl, .inl rfl⟩

theorem EffectsOnly.trans {s t u : State} (h1 : EffectsOnly s t) (h2 : EffectsOnly t u) : EffectsOnly s u := by
  refine ⟨?_, h1.2.trans h2.2⟩
  rw [h2.1, h1.1]

theorem PressOnly.effectsOnly {s t : State} (h : PressOnly s t) : EffectsOnly s t := by
  refine ⟨?_, h.2⟩
  rw [h.1]

theorem effectsOnly_setClock (c : FrameClock) (s : State) : EffectsOnly s (setClock c s) := by
  refine ⟨?_, .inl ?_⟩ <;> rw [setClock_only]

theorem lineModeEffect_pressOnly (old : Cells) (n : Nat) (s : State) : PressOnly s (lineModeEffect old n s) := by
  simp only [lineModeEffect]
  split
  · exact PressOnly.refl s
  · split
    · exact pressOnly_setPenalty n 0 s
    · split
      · exact pressOnly_lines s _
      · exact PressOnly.refl s

theorem preloadEffect_pressOnly (m : PortMerge) (i : Nat) (s : State) : PressOnly s (preloadEffect m i s) := by
  unfold preloadEffect
  split
  · exact pressOnly_setTimer i _ s
  · exact PressOnly.refl s

theorem preferenceChanged_effectsOnly (s : State) : EffectsOnly s (preferenceChanged s) := by
  simp only [preferenceChanged]
  split
  · split
    · exact EffectsOnly.refl s
    · exact effectsOnly_setClock _ s
    · exact (effectsOnly_setClock _ s).trans (pressOnly_raise _ _ _ _ _).effectsOnly
  · exact EffectsOnly.refl s

/-- The owners of the Setup Block's fields stay within their parts (R32). -/
theorem setupEffects_effectsOnly (old : Cells) (m : PortMerge) (s : State) : EffectsOnly s (setupEffects old m s) := by
  have hlines : PressOnly s (eachTimer (preloadEffect m) ((List.range 10).foldl (fun t n => polarityEffect old n t)
      ((List.range 8).foldl (fun t n => lineModeEffect old n t) s))) :=
    ((foldl_pressOnly _ (fun t n => lineModeEffect_pressOnly old n t) _ s).trans
      (foldl_pressOnly _ (fun t n => judgedEdge_pressOnly n _ _ t) _ _)).trans (eachTimer_pressOnly (preloadEffect_pressOnly m) _)
  unfold setupEffects
  extract_lets s1 s2 s3 s4 s5
  have h4 : EffectsOnly s s4 := by
    refine EffectsOnly.trans (t := s3) hlines.effectsOnly ?_
    simp only [s4]
    split
    · exact EffectsOnly.refl s3
    · exact preferenceChanged_effectsOnly s3
  have h5 : EffectsOnly s s5 := by
    refine h4.trans ?_
    simp only [s5]
    split
    · exact ⟨rfl, .inl rfl⟩
    · exact EffectsOnly.refl s4
  refine h5.trans ?_
  split
  · exact ⟨rfl, .inl rfl⟩
  · exact EffectsOnly.refl s5

theorem levelEdit_only (cue level : Nat) (s : State) : VoiceOnly s (levelEdit cue level s) :=
  eachVoice_only _ _ (fun _ _ => setVoice_only _ _ _) s

theorem deckEffects_only (old : Cells) (m : PortMerge) (s : State) : VoiceOnly s (deckEffects old m s) := by
  unfold deckEffects
  split
  · exact VoiceOnly.refl s
  · exact levelEdit_only _ _ s

theorem ringEffects_only (m : PortMerge) (s : State) : VoiceOnly s (ringEffects m s) := by
  unfold ringEffects
  split
  · exact raise_only _ _ _ _ s
  · exact VoiceOnly.refl s

/-- A merge is the word's own write, and what the owners of its fields do (R25, R32). -/
theorem performMerge_effectsOnly (m : PortMerge) (s : State) : EffectsOnly (mergeWord m s) (performMerge m s) := by
  unfold performMerge
  split
  · exact setupEffects_effectsOnly _ m _
  · exact (deckEffects_only _ m _).pressOnly.effectsOnly
  · exact (ringEffects_only m _).pressOnly.effectsOnly
  · exact EffectsOnly.refl _

end Sys2Proof.Machine
end

section
/-!
SUPPORT. What leaves memory and shadow alone: grants, the service of an access, the bodies of the commands.
-/

namespace Sys2Proof.Machine

/-! ### Operations that leave memory and shadow alone -/

/-- Memory and shadow are the same. -/
def SameCells (s t : State) : Prop := t.mem = s.mem ∧ t.shadow = s.shadow

theorem SameCells.refl (s : State) : SameCells s s := ⟨rfl, rfl⟩

theorem SameCells.trans {s t u : State} (h1 : SameCells s t) (h2 : SameCells t u) : SameCells s u :=
  ⟨h2.1.trans h1.1, h2.2.trans h1.2⟩

theorem SameCells.form {s t : State} (h : SameCells s t) (hs : MemoryForm s) : MemoryForm t := by
  rwa [MemoryForm, h.1, h.2]

theorem EffectsOnly.sameCells {s t : State} (h : EffectsOnly s t) : SameCells s t := by
  constructor <;> rw [h.1]

theorem PressOnly.sameCells {s t : State} (h : PressOnly s t) : SameCells s t := h.effectsOnly.sameCells

theorem VoiceOnly.sameCells {s t : State} (h : VoiceOnly s t) : SameCells s t := h.pressOnly.sameCells

theorem raiseEvent_sameCells (k : EventKind) (a b : Nat) (value : Word) (s : State) : SameCells s (raiseEvent k a b value s) :=
  (raise_only k a b value s).sameCells

theorem foldl_sameCells {α : Type} (f : State → α → State) (hf : ∀ s a, SameCells s (f s a)) (xs : List α) (s : State) :
    SameCells s (xs.foldl f s) := by
  induction xs generalizing s with
  | nil => exact SameCells.refl s
  | cons a xs ih => exact (hf s a).trans (ih (f s a))

theorem grant_sameCells (r : Requester) (s : State) : SameCells s (grant r s) := by
  rcases r with i | (v | k) | k | _
  · simp only [grant, grantSweep]
    split <;> exact ⟨rfl, rfl⟩
  · exact ⟨rfl, rfl⟩
  · exact ⟨rfl, rfl⟩
  · rcases k with _ | slot | off | i | c | ⟨v, _ | q⟩ <;> exact ⟨rfl, rfl⟩
  · exact ⟨rfl, rfl⟩

theorem arbitrateAside_sameCells (aside : Bool) (s : State) : SameCells s (arbitrateAside aside s) := by
  have h : SameCells s (refreshOffer s) := by
    rw [refreshOffer_only]
    exact ⟨rfl, rfl⟩
  simp only [arbitrateAside]
  split
  · exact h
  · split
    · exact h.trans (grant_sameCells _ _)
    · exact h

theorem arbitrate_sameCells (s : State) : SameCells s (arbitrate s) := arbitrateAside_sameCells false s

/-! ### Accesses served -/

theorem handWriteBack_sameCells (s : State) (f : ClampField × Nat) : SameCells s (handWriteBack s f) := by
  simp only [handWriteBack]
  split <;> exact ⟨rfl, rfl⟩

theorem acceptSetup_sameCells (off : Nat) (a : Access) (s : State) : SameCells s (acceptSetup off a s) := by
  unfold acceptSetup
  extract_lets cs s1 lanes
  have h : SameCells s s1 := foldl_sameCells handWriteBack handWriteBack_sameCells cs s
  split
  · exact h.trans ⟨rfl, rfl⟩
  · exact h.trans ⟨rfl, rfl⟩

theorem judgeShadowed_sameCells (off : Nat) (a : Access) (s : State) : SameCells s (judgeShadowed off a s) := by
  unfold judgeShadowed
  split
  · split
    · exact (raiseEvent_sameCells _ _ _ _ s).trans ⟨rfl, rfl⟩
    · exact acceptSetup_sameCells off a s
  · exact ⟨rfl, rfl⟩
  · exact ⟨rfl, rfl⟩

theorem judgeLoad_sameCells (se : Session) (off : Nat) (a : Access) (s : State) : SameCells s (judgeLoad se off a s) := by
  unfold judgeLoad
  split
  · exact (raiseEvent_sameCells _ _ _ _ s).trans ⟨rfl, rfl⟩
  · split
    · exact (raiseEvent_sameCells _ _ _ _ s).trans ⟨rfl, rfl⟩
    · exact ⟨rfl, rfl⟩

theorem serve_sameCells (k : Arrival) (a : Access) (s : State) : SameCells s (serve k a s) := by
  unfold serve
  split
  · exact ⟨rfl, rfl⟩
  · exact ⟨rfl, rfl⟩
  · exact (raiseEvent_sameCells _ _ _ _ s).trans ⟨rfl, rfl⟩
  · exact (raiseEvent_sameCells _ _ _ _ s).trans ⟨rfl, rfl⟩
  · exact judgeShadowed_sameCells _ a s
  · split
    · exact judgeLoad_sameCells _ _ a s
    · exact ⟨rfl, rfl⟩
  · split
    · simp only [judgeVerify]
      split <;> exact ⟨rfl, rfl⟩
    · exact ⟨rfl, rfl⟩

theorem arrive_sameCells (a : Access) (s : State) : SameCells s (arrive a s) := by
  unfold arrive
  split
  · exact ⟨rfl, rfl⟩
  · exact serve_sameCells _ a s

theorem classifyHeld_sameCells (s : State) : SameCells s (classifyHeld s) := by
  unfold classifyHeld
  split
  · split
    · exact SameCells.refl s
    · exact serve_sameCells _ _ s
  · exact SameCells.refl s

/-! ### Commands -/

/-- `t` is `s` but for what the body of a taken command may do (R98): the Voice Engine's parts, the lockout, the cue timers, marks, the
load session, the buses. -/
def CommandOnly (s t : State) : Prop :=
  t = { s with
    voices := t.voices, clips := t.clips, mirrorFlags := t.mirrorFlags, mirrorAgain := t.mirrorAgain, slots := t.slots,
    queue := t.queue, lost := t.lost, nextSeq := t.nextSeq, port := t.port, draws := t.draws, lockout := t.lockout,
    timers := t.timers, marks := t.marks, session := t.session, buses := t.buses } ∧ PortStands s t

theorem CommandOnly.refl (s : State) : CommandOnly s s := ⟨rfl, .inl rfl⟩

theorem CommandOnly.trans {s t u : State} (h1 : CommandOnly s t) (h2 : CommandOnly t u) : CommandOnly s u := by
  refine ⟨?_, h1.2.trans h2.2⟩
  rw [h2.1, h1.1]

theorem VoiceOnly.commandOnly {s t : State} (h : VoiceOnly s t) : CommandOnly s t := by
  refine ⟨?_, h.2⟩
  rw [h.1]

theorem CommandOnly.sameCells {s t : State} (h : CommandOnly s t) : SameCells s t := by
  constructor <;> rw [h.1]

theorem CommandOnly.lines_eq {s t : State} (h : CommandOnly s t) : t.lines = s.lines := by rw [h.1]

theorem foldl_commandOnly {α : Type} (f : State → α → State) (hf : ∀ s a, CommandOnly s (f s a)) (xs : List α) (s : State) :
    CommandOnly s (xs.foldl f s) := by
  induction xs generalizing s with
  | nil => exact CommandOnly.refl s
  | cons a xs ih => exact (hf s a).trans (ih (f s a))

theorem raiseEvent_commandOnly (k : EventKind) (a b : Nat) (value : Word) (s : State) :
    CommandOnly s (raiseEvent k a b value s) := (raise_only k a b value s).commandOnly

theorem unpinSlot_only (k : Nat) (s : State) : VoiceOnly s (unpinSlot k s) := by
  simp only [unpinSlot]
  split
  · exact freeSlot_only k s
  · split
    · exact freeSlot_only k s
    · exact setSlot_only k _ s
  · exact VoiceOnly.refl s

theorem unpinClip_only (c : Nat) (s : State) : VoiceOnly s (unpinClip c s) := by
  unfold unpinClip
  split
  · exact unpinSlot_only _ s
  · exact VoiceOnly.refl s

theorem startTimer_commandOnly (k : Nat) (s : State) : CommandOnly s (startTimer k s) := by
  simp only [startTimer]
  split <;> exact ⟨rfl, .inl rfl⟩

theorem winLeave_commandOnly (k : Nat) (s : State) : CommandOnly s (winLeave k s) := by
  simp only [winLeave]
  split <;> exact ⟨rfl, .inl rfl⟩

theorem setLockout_commandOnly (lo : Lockout) (s : State) : CommandOnly s (setLockout lo s) := by
  refine ⟨?_, .inl ?_⟩ <;> rw [setLockout_only]

theorem eachWinLeave_commandOnly (s : State) : CommandOnly s (eachTimer winLeave s) :=
  foldl_commandOnly _ (fun t k => winLeave_commandOnly k t) _ s

theorem lockArmBody_commandOnly (s : State) : CommandOnly s (lockArmBody s).1 := by
  simp only [lockArmBody]
  split
  · exact setLockout_commandOnly _ s
  · exact CommandOnly.refl s

theorem lockRearmBody_commandOnly (s : State) : CommandOnly s (lockRearmBody s).1 := by
  unfold lockRearmBody
  extract_lets lo barred
  split
  · dsimp only
    exact (setLockout_commandOnly _ s).trans (eachWinLeave_commandOnly _)
  · exact CommandOnly.refl s

theorem lockResetBody_commandOnly (s : State) : CommandOnly s (lockResetBody s).1 := by
  unfold lockResetBody
  extract_lets lo s1
  have h : CommandOnly s s1 := setLockout_commandOnly _ s
  split
  · exact CommandOnly.refl s
  · dsimp only
    split
    · exact h.trans (eachWinLeave_commandOnly s1)
    · exact h

theorem session_commandOnly (se : Option Session) (s : State) : CommandOnly s { s with session := se } := ⟨rfl, .inl rfl⟩

theorem loadOpenBody_commandOnly (a : CommandArgs) (s : State) : CommandOnly s (loadOpenBody a s).1 := by
  simp only [loadOpenBody]
  split
  · exact CommandOnly.refl s
  · split
    · exact CommandOnly.refl s
    · split
      · exact CommandOnly.refl s
      · split
        · exact (VoiceOnly.commandOnly ((freeSlot_only _ s).trans (setClip_only a.b0 _ _))).trans (session_commandOnly _ _)
        · exact (setClip_only a.b0 _ s).commandOnly.trans (session_commandOnly _ _)

theorem loadCloseBody_commandOnly (a : CommandArgs) (s : State) : CommandOnly s (loadCloseBody a s).1 := by
  simp only [loadCloseBody]
  split
  · exact CommandOnly.refl s
  · split
    · exact CommandOnly.refl s
    · exact CommandOnly.trans ⟨rfl, .inl rfl⟩ (raiseEvent_commandOnly _ _ _ _ _)

theorem loadAbortBody_commandOnly (s : State) : CommandOnly s (loadAbortBody s).1 := by
  unfold loadAbortBody
  split <;> exact ⟨rfl, .inl rfl⟩

theorem clipDiscardBody_commandOnly (c : Nat) (s : State) : CommandOnly s (clipDiscardBody c s).1 := by
  simp only [clipDiscardBody]
  split
  · exact CommandOnly.refl s
  · exact CommandOnly.refl s
  · exact CommandOnly.refl s
  · split <;> exact ((unpinClip_only c s).trans (setClip_only c _ _)).commandOnly

theorem pinBody_commandOnly (c : Nat) (s : State) : CommandOnly s (pinBody c s).1 := by
  simp only [pinBody]
  split
  · exact CommandOnly.refl s
  · split
    · exact CommandOnly.refl s
    · split <;> exact ⟨rfl, .inl rfl⟩

theorem unpinBody_commandOnly (c : Nat) (s : State) : CommandOnly s (unpinBody c s).1 := by
  simp only [unpinBody]
  split
  · split
    · exact CommandOnly.refl s
    · exact (unpinSlot_only _ s).commandOnly
  · exact CommandOnly.refl s

theorem clearMeters_commandOnly (mask : BitVec 4) (s : State) : CommandOnly s (clearMeters mask s) := by
  refine foldl_commandOnly _ (fun t b => ?_) _ s
  split <;> exact ⟨rfl, .inl rfl⟩

/-- A command body that stays within those parts. -/
def BodyOnly (body : CommandBody) : Prop := ∀ a s, CommandOnly s (body a s).1

/-- One whose arguments are checked first. -/
theorem bodyOnly_ite {bad : CommandArgs → State → Prop} [∀ a s, Decidable (bad a s)] {code : ResultCode} {body : CommandBody}
    (h : BodyOnly body) : BodyOnly (fun a s => if bad a s then refuseWith code s else body a s) := by
  intro a s
  dsimp only
  split
  · exact CommandOnly.refl s
  · exact h a s

theorem fireBody_only : BodyOnly fireBody := fun _ s => (processFire_only _ s).commandOnly

theorem releaseBody_only : BodyOnly releaseBody :=
  bodyOnly_ite (body := fun _ _ => (_, .done)) fun _ s => (releaseScope_only _ _ _ _ s).commandOnly

theorem lockArmCommand_only : BodyOnly lockArmCommand := fun _ s => lockArmBody_commandOnly s

theorem lockRearmCommand_only : BodyOnly lockRearmCommand := fun _ s => lockRearmBody_commandOnly s

theorem lockResetCommand_only : BodyOnly lockResetCommand := fun _ s => lockResetBody_commandOnly s

theorem timerStartBody_only : BodyOnly timerStartBody :=
  bodyOnly_ite (body := fun _ _ => (_, .done)) fun _ s => startTimer_commandOnly _ s

theorem timerStopBody_only : BodyOnly timerStopBody := by
  refine bodyOnly_ite (body := fun _ _ => (_, .done)) fun a s => ?_
  dsimp only
  rw [stopTimer_eq]
  exact ⟨rfl, .inl rfl⟩

theorem loadOpenCommand_only : BodyOnly loadOpenCommand := bodyOnly_ite loadOpenBody_commandOnly

theorem loadAbortCommand_only : BodyOnly loadAbortCommand := fun _ s => loadAbortBody_commandOnly s

theorem clipDiscardCommand_only : BodyOnly clipDiscardCommand := bodyOnly_ite fun _ s => clipDiscardBody_commandOnly _ s

theorem pinCommand_only : BodyOnly pinCommand := bodyOnly_ite fun _ s => pinBody_commandOnly _ s

theorem unpinCommand_only : BodyOnly unpinCommand := bodyOnly_ite fun _ s => unpinBody_commandOnly _ s

theorem meterClearBody_only : BodyOnly meterClearBody := fun _ s => clearMeters_commandOnly _ s

theorem commandTable_only : ∀ r ∈ commandTable, BodyOnly r.2 := by
  simp only [commandTable, List.forall_mem_cons, List.not_mem_nil, false_implies, implies_true, and_true]
  exact ⟨fireBody_only, releaseBody_only, lockArmCommand_only, lockRearmCommand_only, lockResetCommand_only, timerStartBody_only,
    timerStopBody_only, loadOpenCommand_only, loadCloseBody_commandOnly, loadAbortCommand_only, clipDiscardCommand_only,
    pinCommand_only, unpinCommand_only, meterClearBody_only⟩

theorem unknownBody_only : BodyOnly unknownBody := fun _ s => CommandOnly.refl s

/-- Whatever the command byte, a taken command stays within those parts. -/
theorem bodyOf_only (c : Nat) : BodyOnly (bodyOf c) := by
  unfold bodyOf
  cases h : commandTable.find? (fun r => r.1 == c) with
  | none => exact unknownBody_only
  | some r => exact commandTable_only r (List.mem_of_find?_eq_some h)

end Sys2Proof.Machine
end

section
/-!
PROOF. Memory and shadow stay in canonical form (O3): the steps that come about with time, the bursts, the resets, the writes, and so
every command.
-/

namespace Sys2Proof.Machine

/-! ### Frame events -/

theorem setVoice_sameCells (v : Nat) (x : Voice) (s : State) : SameCells s (setVoice v x s) := ⟨rfl, rfl⟩

theorem endVoice_sameCells (v : Nat) (reason : EndReason) (s : State) : SameCells s (endVoice v reason s) :=
  (endVoice_only v reason s).sameCells

theorem leaveSlot_sameCells (v : Nat) (s : State) : SameCells s (leaveSlot v s) := (leaveSlot_only v s).sameCells

theorem handOver_sameCells (v : Nat) (s : State) : SameCells s (handOver v s) := by
  simp only [handOver]
  split
  · exact leaveSlot_sameCells v s
  · exact SameCells.refl s

theorem resync_sameCells (v : Nat) (s : State) : SameCells s (resync v s) :=
  (emptyFifo_only v s).sameCells.trans (setVoice_sameCells v _ _)

theorem voiceFrame_sameCells (v : Nat) (r : FrameRun) : SameCells r.state (voiceFrame v r).state := by
  unfold voiceFrame
  extract_lets x0 x1 src x2 l rt s2 s3 s4 s5 x5 fallOver
  split
  · have h3 : SameCells r.state s3 := by
      simp only [s3]
      split
      · exact (setVoice_sameCells v x2 _).trans (raiseEvent_sameCells _ _ _ _ _)
      · exact setVoice_sameCells v x2 _
    have h5 : SameCells r.state s5 := by
      have h4 : SameCells r.state s4 := (h3.trans (setVoice_sameCells v _ s3)).trans (handOver_sameCells v _)
      simp only [s5]
      split
      · exact h4.trans (resync_sameCells v s4)
      · exact h4
    split
    · exact h5
    · exact h5.trans (endVoice_sameCells v _ s5)
  · exact SameCells.refl _

theorem raiseClock_sameCells (e : Option ClockEvent) (s : State) : SameCells s (raiseClock e s) := by
  unfold raiseClock
  split
  · exact raiseEvent_sameCells _ _ _ _ s
  · exact SameCells.refl s

theorem formBus_sameCells (sums : Sums) (b : Nat) (s : State) : SameCells s (formBus sums b s) := by
  simp only [formBus]
  split
  · exact SameCells.trans ⟨rfl, rfl⟩ (raiseEvent_sameCells _ _ _ _ _)
  · exact ⟨rfl, rfl⟩

theorem fireReported_sameCells (f : Fire) (s : State) : SameCells s (fireReported f s) := (fireReported_only f s).sameCells

theorem firstTask_sameCells (e : Option ClockEvent) (k : FrameTask) (r : FrameRun) :
    SameCells r.state (firstTask e k r).state := by
  unfold firstTask
  split
  · exact voiceFrame_sameCells _ r
  · exact raiseClock_sameCells e _
  · exact SameCells.refl _

theorem laterTask_sameCells (e : Option ClockEvent) (sums : Sums) (follows : List (Nat × Nat)) (k : FrameTask) (s : State) :
    SameCells s (laterTask e sums follows k s) := by
  unfold laterTask
  split
  · split
    · exact fireReported_sameCells _ s
    · exact SameCells.refl s
  · exact formBus_sameCells sums _ s
  · exact fireReported_sameCells _ s
  · exact raiseClock_sameCells e s
  · exact SameCells.refl s

theorem foldl_firstTask_sameCells (e : Option ClockEvent) (ks : List FrameTask) (r : FrameRun) :
    SameCells r.state (ks.foldl (fun r k => firstTask e k r) r).state := by
  induction ks generalizing r with
  | nil => exact SameCells.refl _
  | cons k ks ih => exact (firstTask_sameCells e k r).trans (ih _)

theorem countTimer_sameCells (k : Nat) (s : State) : SameCells s (countTimer k s) := by
  simp only [countTimer]
  split
  · exact ⟨rfl, rfl⟩
  · split <;> exact ⟨rfl, rfl⟩

theorem countBoard_sameCells (s : State) : SameCells s (countBoard s) := by
  unfold countBoard
  split
  · exact ⟨rfl, rfl⟩
  · split <;> exact ⟨rfl, rfl⟩

theorem beginFrame_sameCells (s : State) : SameCells s (beginFrame s) := by
  have h : SameCells s (eachTimer countTimer { s with frameCounter := s.frameCounter + 1 }) :=
    foldl_sameCells _ (fun t k => countTimer_sameCells k t) (List.range 4) { s with frameCounter := s.frameCounter + 1 }
  exact h.trans (countBoard_sameCells _)

theorem frameEvent_sameCells (choice : FrameChoice) (e : Option ClockEvent) (s : State) :
    SameCells s (frameEvent choice e s) := by
  unfold frameEvent
  split
  · exact SameCells.refl s
  · have hr := foldl_firstTask_sameCells e (firstTasks choice (beginFrame s))
      ⟨beginFrame s, Vector.replicate 4 BusSum.zero, []⟩
    dsimp only at hr ⊢
    generalize List.foldl _ _ _ = r at hr ⊢
    exact ((beginFrame_sameCells s).trans hr).trans
      (foldl_sameCells _ (fun t k => laterTask_sameCells e r.sums r.follows k t) _ r.state)

theorem setClock_sameCells (c : FrameClock) (s : State) : SameCells s (setClock c s) := (effectsOnly_setClock c s).sameCells

theorem frameExpiry_sameCells (choice : FrameChoice) (s : State) : SameCells s (frameExpiry choice s) := by
  simp only [frameExpiry]
  split
  · split <;> exact (setClock_sameCells _ s).trans (frameEvent_sameCells _ _ _)
  · exact (setClock_sameCells _ s).trans (frameEvent_sameCells _ _ _)

theorem wclkRise_sameCells (choice : FrameChoice) (s : State) : SameCells s (wclkRise choice s) := by
  simp only [wclkRise]
  split
  · split
    · exact SameCells.refl s
    · exact setClock_sameCells _ s
  · split
    · exact setClock_sameCells _ s
    · exact (setClock_sameCells _ s).trans (frameEvent_sameCells _ _ _)
  · split
    · exact (setClock_sameCells _ s).trans (frameEvent_sameCells _ _ _)
    · exact setClock_sameCells _ s

/-! ### Bursts and report writes -/

theorem landBurst_sameCells (b : Burst) (s : State) : SameCells s (landBurst b s) := by
  unfold landBurst
  split <;> exact ⟨rfl, rfl⟩

theorem landFill_sameCells (b : FillBurst) (s : State) : SameCells s (landFill b s) := by
  simp only [landFill]
  split
  · split
    · exact SameCells.trans ⟨rfl, rfl⟩ (raiseEvent_sameCells _ _ _ _ _)
    · exact ⟨rfl, rfl⟩
  · exact SameCells.refl s

theorem reportWritten_sameCells (k : ReportKind) (s : State) : SameCells s (reportWritten k s) := by
  unfold reportWritten
  split
  · simp only [eventWritten, appendLost]
    split <;> exact ⟨rfl, rfl⟩
  · exact ⟨rfl, rfl⟩
  · unfold clampWritten
    split
    · exact ⟨rfl, rfl⟩
    · split <;> exact ⟨rfl, rfl⟩
  · exact ⟨rfl, rfl⟩
  · exact ⟨rfl, rfl⟩
  · exact ⟨rfl, rfl⟩

/-! ### Resets -/

theorem heldMet_sameCells (s : State) : SameCells s (heldMet s) := by
  unfold heldMet
  split
  · exact SameCells.refl s
  · exact ⟨rfl, rfl⟩
  · split
    · exact ⟨rfl, rfl⟩
    · split
      · exact ⟨rfl, rfl⟩
      · split <;> exact ⟨rfl, rfl⟩
      · exact ⟨rfl, rfl⟩

theorem raiseOwed_sameCells (s : State) : SameCells s (raiseOwed s) := by
  unfold raiseOwed
  exact SameCells.trans (t := { s with owed := [] }) ⟨rfl, rfl⟩
    (foldl_sameCells _ (fun t o => raiseEvent_sameCells _ _ _ _ t) _ _)

theorem endSweep_sameCells (s : State) : SameCells s (endSweep s) := by
  unfold endSweep
  extract_lets kind s1
  have h : SameCells s (markAll (raiseEvent kind s.crb (storedClips s) 0 s1)) :=
    SameCells.trans (t := s1) ⟨rfl, rfl⟩ (raiseEvent_sameCells kind s.crb (storedClips s) 0 s1)
  exact (h.trans (raiseOwed_sameCells _)).trans (classifyHeld_sameCells _)

/-! ### The writes -/

theorem memoryForm_writeLanes {s t : State} {a off : Nat} {lanes : Lanes} {w : Word} (hs : MemoryForm s)
    (hm : t.mem = s.mem ∨ t.mem = writeLanes s.mem a lanes w) (hsh : t.shadow = s.shadow ∨ t.shadow = writeLanes s.shadow off lanes w) :
    MemoryForm t := by
  obtain ⟨hmem, hshadow⟩ := hs
  constructor
  · rcases hm with h | h <;> rw [h]
    · exact hmem
    · exact cellsWf_writeLanes _ _ _ _ hmem
  · rcases hsh with h | h <;> rw [h]
    · exact hshadow
    · exact cellsWf_writeLanes _ _ _ _ hshadow

theorem endDirect_form (a : Access) {s : State} (hs : MemoryForm s) : MemoryForm (endDirect a s) := by
  unfold endDirect
  split
  · exact memoryForm_writeLanes (off := 0) hs (.inr rfl) (.inl rfl)
  · exact hs

theorem endConverted_form (a : Access) (todo : List HalfWrite) {s : State} (hs : MemoryForm s) :
    MemoryForm (endConverted a todo s) := by
  simp only [endConverted]
  split
  · exact hs
  · split <;> exact memoryForm_writeLanes (off := 0) hs (.inr rfl) (.inl rfl)

theorem endVerify_form (a : Access) (j : VerifyJob) {s : State} (hs : MemoryForm s) : MemoryForm (endVerify a j s) := by
  simp only [endVerify]
  split
  · exact hs
  · split <;> exact hs

theorem mergeWord_form (m : PortMerge) {s : State} (hs : MemoryForm s) : MemoryForm (mergeWord m s) :=
  memoryForm_writeLanes hs (.inr rfl) (.inr rfl)

theorem performMerge_form (m : PortMerge) {s : State} (hs : MemoryForm s) : MemoryForm (performMerge m s) :=
  (performMerge_effectsOnly m s).sameCells.form (mergeWord_form m hs)

theorem endMerge_form (m : PortMerge) {s : State} (hs : MemoryForm s) : MemoryForm (endMerge m s) := by
  unfold endMerge
  split
  · exact memoryForm_writeLanes (off := 0) hs (.inr rfl) (.inl rfl)
  · exact performMerge_form m hs

theorem takeTrigger_form {body : CommandBody} (hb : BodyOnly body) (m : PortMerge) {s : State} (hs : MemoryForm s) :
    MemoryForm (takeTrigger body m s) := by
  unfold takeTrigger
  extract_lets s1
  exact (hb (commandArgs s1.shadow m.slot) s1).sameCells.form (performMerge_form m hs)

theorem partWrite_form (addr : Nat) (bytes : List Byte) (orphan : Bool) {s : State} (hs : MemoryForm s) :
    MemoryForm (partWrite addr bytes orphan s) := by
  obtain ⟨hmem, hshadow⟩ := hs
  refine ⟨cellsWf_writeBytes bytes _ _ hmem, ?_⟩
  change cellsWf (if _ then _ else _) = true
  split
  · exact cellsWf_writeBytes bytes _ _ hshadow
  · exact hshadow

/-! ### The reset contents of the shadow (R33) -/

theorem cellsWf_defaultSetup (crb : Nat) : cellsWf (defaultSetup crb) = true := by
  have h : ∀ (ws : List (Nat × Word)) (m : Cells), cellsWf m = true →
      cellsWf (ws.foldl (fun m w => writeLanes m w.1 0xF w.2) m) = true := by
    intro ws
    induction ws with
    | nil => exact fun m hm => hm
    | cons w ws ih => exact fun m hm => ih _ (cellsWf_writeLanes m _ _ _ hm)
  exact h (defaultSetupWords crb) [] rfl

theorem cellsWf_filter (p : Host.Cell → Bool) {m : Cells} (h : cellsWf m = true) : cellsWf (m.filter p) = true := by
  induction m with
  | nil => rfl
  | cons c m ih =>
    obtain ⟨hb, hlt, hm⟩ := (cellsWf_cons c.1 c.2 m).mp h
    rw [List.filter_cons]
    split
    · exact (cellsWf_cons c.1 c.2 _).mpr ⟨hb, fun d hd => hlt d (List.mem_of_mem_filter hd), ih hm⟩
    · exact ih hm

theorem cellsWf_append {m m' : Cells} (h : cellsWf m = true) (h' : cellsWf m' = true)
    (hlt : ∀ c ∈ m, ∀ d ∈ m', c.1 < d.1) : cellsWf (m ++ m') = true := by
  induction m with
  | nil => exact h'
  | cons c m ih =>
    obtain ⟨hb, hc, hm⟩ := (cellsWf_cons c.1 c.2 m).mp h
    refine (cellsWf_cons c.1 c.2 _).mpr ⟨hb, fun d hd => ?_, ih hm (fun e he => hlt e (by simp [he]))⟩
    rcases List.mem_append.mp hd with hd | hd
    · exact hc d hd
    · exact hlt c (by simp) d hd

/-- The default words lie in the Setup Block. -/
theorem defaultSetup_below (crb : Nat) : ∀ c ∈ defaultSetup crb, c.1 < 0x100 := by
  unfold defaultSetup defaultSetupWords
  split <;> decide

/-- The reset contents of the shadow are in canonical form: the default Setup Block lies below the deck. -/
theorem cellsWf_resetShadow (crb : Nat) {sh : Cells} (h : cellsWf sh = true) :
    cellsWf (defaultSetup crb ++ deckCells sh) = true := by
  refine cellsWf_append (cellsWf_defaultSetup crb) (cellsWf_filter _ h) (fun c hc d hd => ?_)
  have hlow := defaultSetup_below crb c hc
  simp only [deckCells, List.mem_filter, Bool.and_eq_true, decide_eq_true_eq] at hd
  omega

theorem poweredOn_form (straps : BitVec 4) {s : State} (hs : MemoryForm s) : MemoryForm (poweredOn straps s) := by
  dsimp only [MemoryForm, poweredOn]
  exact ⟨hs.1, cellsWf_defaultSetup _⟩

theorem releaseReset_form (straps : BitVec 4) {s : State} (hs : MemoryForm s) : MemoryForm (releaseReset straps s) :=
  ⟨hs.1, cellsWf_resetShadow _ hs.2⟩

theorem takeBeforeReset_form {s : State} (hs : MemoryForm s) : MemoryForm (takeBeforeReset s) := by
  unfold takeBeforeReset
  split
  · split
    · exact takeTrigger_form (bodyOf_only _) _ hs
    · exact hs
  · exact hs

theorem sweepWriteEnds_form (addr : Nat) (bytes : List Byte) {s : State} (hs : MemoryForm s) :
    MemoryForm (sweepWriteEnds addr bytes s) := by
  have h := partWrite_form addr bytes false hs
  unfold sweepWriteEnds
  extract_lets s1
  split
  · exact (arbitrate_sameCells s1).form h
  · split
    · exact (arbitrateAside_sameCells true _).form h
    · exact ((endSweep_sameCells s1).trans (arbitrate_sameCells _)).form h

/-! ### Steps -/

/-- The next state, where the outcome is one, has memory and shadow in canonical form. -/
def NextForm (o : Outcome) : Prop := ∀ t, o = .next t → MemoryForm t

theorem nextForm_next {t : State} (h : MemoryForm t) : NextForm (.next t) := by
  rintro _ ⟨⟩
  exact h

theorem nextForm_arbitrate {t : State} (h : MemoryForm t) : NextForm (.next (arbitrate t)) :=
  nextForm_next ((arbitrate_sameCells t).form h)

section
variable {s : State} (hs : MemoryForm s)
include hs

theorem arriveAs_form (p : Arrival → Bool) (a : Access) : NextForm (arriveAs p a s) := by
  unfold arriveAs
  split
  · exact nextForm_arbitrate ((arrive_sameCells a s).form hs)
  · exact nextForm_next hs

theorem mergeStep_form (p : PortMerge → State → Bool) : NextForm (mergeStep p s) := by
  unfold mergeStep
  split
  · split
    · exact nextForm_arbitrate (endMerge_form _ hs)
    · exact nextForm_next hs
  · exact nextForm_next hs

theorem commandStep_form (p : Nat → Bool) {body : CommandBody} (hb : BodyOnly body) : NextForm (commandStep p body s) := by
  unfold commandStep
  split
  · split
    · exact nextForm_arbitrate (takeTrigger_form hb _ hs)
    · exact nextForm_next hs
  · exact nextForm_next hs

theorem reportStep_form (p : ReportKind → Bool) : NextForm (reportStep p s) := by
  unfold reportStep
  split
  · split
    · refine nextForm_arbitrate ?_
      split
      · exact partWrite_form _ _ _ hs
      · exact (reportWritten_sameCells _ _).form (partWrite_form _ _ _ hs)
    · exact nextForm_next hs
  · exact nextForm_next hs

theorem afterTime_form (d : Nat) {event : State → State} (he : ∀ t, SameCells t (event t)) : NextForm (afterTime d event s) := by
  unfold afterTime
  split
  · exact nextForm_arbitrate ((he _).form hs)
  · exact nextForm_next hs

theorem execPowerOn_form (straps : BitVec 4) : NextForm (execPowerOn straps s) :=
  nextForm_arbitrate ((startLines_pressOnly _).sameCells.form (poweredOn_form straps hs))

theorem execRstAssert_form : NextForm (execRstAssert s) := by
  unfold execRstAssert
  split
  · exact nextForm_next hs
  · exact nextForm_next (((heldMet_sameCells _).trans ⟨rfl, rfl⟩).form (takeBeforeReset_form hs))

theorem execRstRelease_form (straps : BitVec 4) : NextForm (execRstRelease straps s) := by
  unfold execRstRelease
  split
  · exact nextForm_arbitrate
      (((startLines_pressOnly _).sameCells.trans (classifyHeld_sameCells _)).form (releaseReset_form straps hs))
  · exact nextForm_next hs

theorem execSweepWrite_form : NextForm (execSweepWrite s) := by
  unfold execSweepWrite
  split
  · split
    · exact nextForm_arbitrate (partWrite_form _ _ _ hs)
    · exact nextForm_next (sweepWriteEnds_form _ _ hs)
  · exact nextForm_next hs

theorem execControlRegionRead_form (addr : BitVec 28) : NextForm (execControlRegionRead addr s) := by
  unfold execControlRegionRead
  split
  · exact arriveAs_form hs _ _
  · exact nextForm_next hs

theorem execNoLaneWrite_form (addr : BitVec 28) (data : Word) : NextForm (execNoLaneWrite addr data s) := by
  unfold execNoLaneWrite
  split <;> exact nextForm_next hs

theorem execMemoryAccessEnd_form : NextForm (execMemoryAccessEnd s) := by
  unfold execMemoryAccessEnd
  split
  · exact nextForm_arbitrate (endDirect_form _ hs)
  · exact nextForm_next hs

theorem execConvertedWriteHalfEnd_form : NextForm (execConvertedWriteHalfEnd s) := by
  unfold execConvertedWriteHalfEnd
  split
  · exact nextForm_arbitrate (endConverted_form _ _ hs)
  · exact nextForm_next hs

theorem execVerifyReadHalfEnd_form : NextForm (execVerifyReadHalfEnd s) := by
  unfold execVerifyReadHalfEnd
  split
  · exact nextForm_arbitrate (endVerify_form _ _ hs)
  · exact nextForm_next hs

theorem execFetchBurstLand_form : NextForm (execFetchBurstLand s) := by
  unfold execFetchBurstLand
  split
  · exact nextForm_arbitrate ((landBurst_sameCells _ (portFree s)).form hs)
  · exact nextForm_next hs

theorem execHeadFillBurstLand_form : NextForm (execHeadFillBurstLand s) := by
  unfold execHeadFillBurstLand
  split
  · exact nextForm_arbitrate ((landFill_sameCells _ (portFree s)).form hs)
  · exact nextForm_next hs

theorem execFilterTimerExpiry_form (line : Fin 10) : NextForm (execFilterTimerExpiry line s) := by
  unfold execFilterTimerExpiry
  split
  · exact afterTime_form hs _ (fun t => (filterExpiry_pressOnly _ t).sameCells)
  · exact nextForm_next hs

theorem execPenaltyEnd_form (line : Fin 8) : NextForm (execPenaltyEnd line s) := by
  unfold execPenaltyEnd
  split
  · exact afterTime_form hs _ (fun t => (pressOnly_setPenalty _ 0 t).sameCells)
  · exact nextForm_next hs

theorem freeFrameStep_form : NextForm (freeFrameStep s) :=
  afterTime_form hs _ (fun t => SameCells.trans (t := drawOne t) ⟨rfl, rfl⟩ (frameExpiry_sameCells _ _))

theorem execTimerExpiry_form (k : Fin 4) : NextForm (execTimerExpiry k s) := by
  unfold execTimerExpiry
  split
  · exact freeFrameStep_form hs
  · exact nextForm_next hs

theorem execBoardIntervalExpiry_form : NextForm (execBoardIntervalExpiry s) := by
  unfold execBoardIntervalExpiry
  split
  · exact freeFrameStep_form hs
  · exact nextForm_next hs

theorem execGapTimerExpiry_form : NextForm (execGapTimerExpiry s) := by
  unfold execGapTimerExpiry
  split
  · exact afterTime_form hs _ (fun t => setClock_sameCells _ t)
  · exact nextForm_next hs

/-- Every command keeps memory and shadow in canonical form. -/
theorem exec_form (i : Instr) : NextForm (exec i s) := by
  cases i <;> dsimp only [exec]
  case powerOn => exact execPowerOn_form hs _
  case rstAssert => exact execRstAssert_form hs
  case rstRelease => exact execRstRelease_form hs _
  case sweepWrite => exact execSweepWrite_form hs
  case plainAccess | reportAreaWrite | clipExtentWrite | loadWindowWrite | verifyRead | shadowedWriteArrival =>
    exact arriveAs_form hs _ _
  case controlRegionRead => exact execControlRegionRead_form hs _
  case noLaneWrite => exact execNoLaneWrite_form hs _ _
  case memoryAccessEnd => exact execMemoryAccessEnd_form hs
  case convertedWriteHalfEnd => exact execConvertedWriteHalfEnd_form hs
  case verifyReadHalfEnd => exact execVerifyReadHalfEnd_form hs
  case shadowWrite | rdWrite | lwbWrite | lineModeWrite | polarityWrite | timerPreloadWrite | clockPreferenceWrite |
      boardIntervalWrite | cueLevelEdit => exact mergeStep_form hs _
  case unknownCommand => exact commandStep_form hs _ unknownBody_only
  case fire => exact commandStep_form hs _ fireBody_only
  case release => exact commandStep_form hs _ releaseBody_only
  case lockArm => exact commandStep_form hs _ lockArmCommand_only
  case lockRearm => exact commandStep_form hs _ lockRearmCommand_only
  case lockReset => exact commandStep_form hs _ lockResetCommand_only
  case timerStart => exact commandStep_form hs _ timerStartBody_only
  case timerStop => exact commandStep_form hs _ timerStopBody_only
  case loadOpen => exact commandStep_form hs _ loadOpenCommand_only
  case loadClose => exact commandStep_form hs _ loadCloseBody_commandOnly
  case loadAbort => exact commandStep_form hs _ loadAbortCommand_only
  case clipDiscard => exact commandStep_form hs _ clipDiscardCommand_only
  case pin => exact commandStep_form hs _ pinCommand_only
  case unpin => exact commandStep_form hs _ unpinCommand_only
  case meterClear => exact commandStep_form hs _ meterClearBody_only
  case resultWrite | clampWriteBack | eventRecordWrite | statusBlockWrite | directoryMirrorWrite | voiceBoardQuarterWrite =>
    exact reportStep_form hs _
  case fetchBurstLand => exact execFetchBurstLand_form hs
  case headFillBurstLand => exact execHeadFillBurstLand_form hs
  case lineEdge =>
    exact afterTime_form hs _ (fun t => SameCells.trans (t := setPin _ _ t) ⟨rfl, rfl⟩ (judgedEdge_pressOnly _ _ _ _).sameCells)
  case filterTimerExpiry => exact execFilterTimerExpiry_form hs _
  case penaltyEnd => exact execPenaltyEnd_form hs _
  case timerExpiry => exact execTimerExpiry_form hs _
  case boardIntervalExpiry => exact execBoardIntervalExpiry_form hs
  case frameTimerExpiry => exact afterTime_form hs _ (frameExpiry_sameCells _)
  case wclkEdge => exact afterTime_form hs _ (wclkRise_sameCells _)
  case gapTimerExpiry => exact execGapTimerExpiry_form hs

theorem takeDue_form (d : Due) : NextForm (takeDue d s) := by
  cases d with
  | filter n => exact execFilterTimerExpiry_form hs n
  | penalty n => exact execPenaltyEnd_form hs n
  | frame => exact freeFrameStep_form hs
  | gap => exact execGapTimerExpiry_form hs

theorem chooseDue_form (d : Due) (ds : List Due) : MemoryForm (chooseDue s d ds).2 := by
  cases ds <;> exact hs

theorem idle_form : NextForm (idle s) := by
  unfold idle
  split
  · exact nextForm_next hs
  · rename_i d ds _
    have h := chooseDue_form hs d ds
    generalize chooseDue s d ds = c at h ⊢
    exact takeDue_form h c.1

end

/-- Settles O3: a step is the command at the front of the queue or what an idle part does, and each keeps the form. -/
theorem stepKeepsMemoryForm : Obligations.StepKeepsMemoryForm := by
  intro s t hs h
  unfold step at h
  split at h
  · rename_i c cs _
    have hs' : MemoryForm { s with pending := cs } := hs
    exact exec_form hs' c t h
  · exact idle_form hs t h

end Sys2Proof.Machine
end

section
/-!
PROOF. A write with no lane enabled (O15).
-/

namespace Sys2Proof.Machine

/-- Settles O15: the arrival asks for a free controller port and nothing else. -/
theorem noLaneWriteOnlyCompletes : Obligations.NoLaneWriteOnlyCompletes := by
  intro addr data s h
  change execNoLaneWrite addr data s = _
  rw [execNoLaneWrite, if_pos (by simp [h])]

end Sys2Proof.Machine
end

section
/-!
SUPPORT. The Memory Path: which row of R5's table an access falls in, what an arrival is, and the frames of arrivals and of the ends of the
controller's memory accesses.
-/

namespace Sys2Proof.Machine

/-! ### The grant -/

section
variable (s : State)

@[simp] theorem arbitrate_rst_eq : (arbitrate s).rst = s.rst := arbitrate_rst s
@[simp] theorem arbitrate_crb : (arbitrate s).crb = s.crb := (arbitrate_frame s .settings (by simp)).2
@[simp] theorem arbitrate_sweep : (arbitrate s).sweep = s.sweep := (arbitrate_frame s .sweep (by simp)).1
@[simp] theorem arbitrate_deckClear : (arbitrate s).deckClear = s.deckClear := (arbitrate_frame s .sweep (by simp)).2
@[simp] theorem arbitrate_held : (arbitrate s).held = s.held := (arbitrate_frame s .path (by simp)).1
@[simp] theorem arbitrate_done : (arbitrate s).done = s.done := (arbitrate_frame s .path (by simp)).2.1
@[simp] theorem arbitrate_readData : (arbitrate s).readData = s.readData := (arbitrate_frame s .path (by simp)).2.2
@[simp] theorem arbitrate_mem : (arbitrate s).mem = s.mem := (arbitrate_sameCells s).1
@[simp] theorem arbitrate_shadow : (arbitrate s).shadow = s.shadow := (arbitrate_sameCells s).2
@[simp] theorem arbitrate_session : (arbitrate s).session = s.session := arbitrate_frame s .session (by simp)
@[simp] theorem arbitrate_results : (arbitrate s).results = s.results := arbitrate_frame s .results (by simp)
@[simp] theorem arbitrate_owed : (arbitrate s).owed = s.owed := (arbitrate_frame s .clips (by simp)).2
@[simp] theorem arbitrate_expSlot : (arbitrate s).expSlot = s.expSlot := (arbitrate_frame s .intake (by simp)).1
@[simp] theorem arbitrate_expSeq : (arbitrate s).expSeq = s.expSeq := (arbitrate_frame s .intake (by simp)).2.1
@[simp] theorem arbitrate_lastSeq : (arbitrate s).lastSeq = s.lastSeq := (arbitrate_frame s .intake (by simp)).2.2
@[simp] theorem arbitrate_buses : (arbitrate s).buses = s.buses := arbitrate_frame s .buses (by simp)
@[simp] theorem arbitrate_clock : (arbitrate s).clock = s.clock := arbitrate_frame s .clock (by simp)
@[simp] theorem arbitrate_frameCounter : (arbitrate s).frameCounter = s.frameCounter := arbitrate_frame s .counter (by simp)
@[simp] theorem arbitrate_w : (arbitrate s).w = s.w := (arbitrate_frame s .ring (by simp)).1
@[simp] theorem arbitrate_attn : (arbitrate s).attn = s.attn := (arbitrate_frame s .ring (by simp)).2
@[simp] theorem arbitrate_boardCount : (arbitrate s).boardCount = s.boardCount := arbitrate_frame s .interval (by simp)
@[simp] theorem arbitrate_pending : (arbitrate s).pending = s.pending := (arbitrate_frame s .waiting (by simp)).1

end

/-! ### Raising an event -/

section
variable (k : EventKind) (a b : Nat) (value : Word) (s : State)

@[simp] theorem raiseEvent_held : (raiseEvent k a b value s).held = s.held := by rw [raiseEvent_only]
@[simp] theorem raiseEvent_done : (raiseEvent k a b value s).done = s.done := by rw [raiseEvent_only]
@[simp] theorem raiseEvent_readData : (raiseEvent k a b value s).readData = s.readData := by rw [raiseEvent_only]
@[simp] theorem raiseEvent_session : (raiseEvent k a b value s).session = s.session := by rw [raiseEvent_only]

end

/-! ### Arrivals -/

section
variable (write : Bool) (addr : BitVec 28) (lanes : Lanes) (data : Word) (s : State)

theorem exec_plainAccess :
    exec (.plainAccess write addr lanes data) s = arriveAs (fun k => k == .plain) (accessOf write addr lanes data) s := rfl

theorem exec_reportAreaWrite :
    exec (.reportAreaWrite addr lanes data) s = arriveAs (fun k => k == .report) (accessOf true addr lanes data) s := rfl

theorem exec_clipExtentWrite :
    exec (.clipExtentWrite addr lanes data) s = arriveAs isExtent (accessOf true addr lanes data) s := rfl

theorem exec_loadWindowWrite :
    exec (.loadWindowWrite addr lanes data) s = arriveAs isLoadWrite (accessOf true addr lanes data) s := rfl

theorem exec_verifyRead : exec (.verifyRead addr) s = arriveAs isVerify (accessOf false addr 0 0) s := rfl

theorem exec_shadowedWriteArrival :
    exec (.shadowedWriteArrival addr lanes data) s = arriveAs isShadowed (accessOf true addr lanes data) s := rfl

end

/-- An access that falls in the row a command names arrives. -/
theorem arriveAs_next {p : Arrival → Bool} {a : Access} {s : State} (hheld : s.held = none) (hlane : noLane a = false)
    (hp : p (arrivalOf a s) = true) : arriveAs p a s = .next (arbitrate (arrive a s)) :=
  if_pos (by simp [hheld, hlane, hp])

theorem arrive_unclassified {a : Access} {s : State} (h : unclassified s a.addr = true) :
    arrive a s = { s with held := some ⟨a, none⟩, done := false } := if_pos h

theorem arrive_classified {a : Access} {s : State} (h : unclassified s a.addr = false) :
    arrive a s = serve (arrivalOf a s) a s := by simp [arrive, h]

/-- An access that may be judged on arrival is served as its class has it. -/
theorem arriveAs_served {p : Arrival → Bool} {a : Access} {s : State} {k : Arrival} (h : Arrives a s) (hk : arrivalOf a s = k)
    (hp : p k = true) : arriveAs p a s = .next (arbitrate (serve k a s)) := by
  obtain ⟨hheld, hlane, hcls⟩ := h
  rw [arriveAs_next hheld hlane (by rwa [hk]), arrive_classified hcls, hk]

/-- A read of the region, and a plain access, is held with its class, or without one where RST# or the sweep holds it (R5, R18). -/
theorem arrive_direct {a : Access} {s : State} (h : arrivalOf a s = .plain ∨ arrivalOf a s = .regionRead) :
    arrive a s = { s with held := some ⟨a, if unclassified s a.addr then none else some .direct⟩, done := false } := by
  cases hu : unclassified s a.addr
  · rw [arrive_classified hu]
    rcases h with h | h <;> rw [h] <;> rfl
  · rw [arrive_unclassified hu]
    rfl

/-! ### Frames -/

/-- The frame of an arrival: the controller port, an event, the load session. -/
theorem same_of_arrival {ps : List Part} {s t : State}
    (h : t = { s with
      held := t.held, done := t.done, readData := t.readData, queue := t.queue, lost := t.lost, nextSeq := t.nextSeq,
      session := t.session })
    (hpath : .path ∈ ps) (hq : .queue ∈ ps ∨ t.queue = s.queue ∧ t.lost = s.lost ∧ t.nextSeq = s.nextSeq)
    (hsession : .session ∈ ps ∨ t.session = s.session) : ∀ p, p ∉ ps → Same p s t := by
  intro p hp
  cases p
  case path => exact absurd hpath hp
  case queue => exact hq.resolve_left hp
  case session => exact hsession.resolve_left hp
  case stale =>
    rw [h]
    exact same_refl .stale s
  all_goals
    rw [h]
    simp [Same, Kept, servedVoice, writeBacksLeft, marksLeft, againLeft, CopyLeft, voiceOf]

/-- The frame of an access held for the port. -/
theorem unchangedBut_held (s : State) (x : Option Held) (d : Bool) (w : Word) :
    unchangedBut [.path] s (arbitrate { s with held := x, done := d, readData := w }) :=
  unchangedBut_arbitrated (same_of_arrival rfl (by simp) (.inr ⟨rfl, rfl, rfl⟩) (.inr rfl)) (by simp)

/-- A write dropped at its arrival, with its event: the controller sees it done, and nothing else changes (R8, R11, R12, R26). -/
theorem dropped_served (k : EventKind) (a b : Nat) (value : Word) (s : State) :
    let t := arbitrate (accessDone (raiseEvent k a b value s))
    DoneAt s t ∧ Raises k a b value s t ∧ unchangedBut [.path, .queue] s t := by
  refine ⟨⟨by simp, by simp, by simp⟩, raises_arbitrate (s := s) ⟨rfl, rfl, rfl, rfl, rfl, rfl, rfl⟩ ⟨rfl, rfl, rfl⟩,
    unchangedBut_arbitrated (same_of_arrival ?_ (by simp) (.inl (by simp)) (.inr (by simp))) (by simp)⟩
  unfold accessDone
  rw [raiseEvent_only]

/-- The frame of an access of the controller that ends on the port. -/
theorem same_of_memoryEnd {ps : List Part} {s t : State}
    (h : t = { s with held := t.held, done := t.done, readData := t.readData, port := none, mem := t.mem })
    (hpath : .path ∈ ps) (hport : .port ∈ ps) (hmem : .mem ∈ ps ∨ t.mem = s.mem) : ∀ p, p ∉ ps → Same p s t := by
  intro p hp
  cases p
  case path => exact absurd hpath hp
  case port => exact absurd hport hp
  case mem =>
    intro a
    rw [hmem.resolve_left hp]
  case stale =>
    rw [h]
    intro b _ hb
    cases hb
  all_goals
    rw [h]
    simp [Same, Kept, servedVoice, writeBacksLeft, marksLeft, againLeft, CopyLeft, voiceOf]

/-! ### The access on the port -/

theorem onPort_eq_some {s : State} {a : Access} {c : AccessClass} (h : onPort s = some (a, c)) :
    s.port = some .controller ∧ s.held = some ⟨a, some c⟩ := by
  unfold onPort at h
  split at h
  · rename_i hport hheld
    cases h
    exact ⟨hport, hheld⟩
  · cases h

end Sys2Proof.Machine
end

section
/-!
PROOF. Classes of controller accesses, their arrivals and their ends (O12, O13, O14, O16, O17, O20, O22).
-/

namespace Sys2Proof.Machine

/-! ### Classes (O12) -/

theorem inRegion_iff (s : State) (addr : Nat) :
    inRegion s addr = true ↔ ∃ off, off < 0x10000 ∧ addr = regionBase s.crb + off := by
  simp only [inRegion, Bool.and_eq_true, decide_eq_true_eq]
  unfold regionSize
  constructor
  · rintro ⟨h1, h2⟩
    exact ⟨addr - regionBase s.crb, by omega, by omega⟩
  · rintro ⟨off, h1, rfl⟩
    omega

theorem inWindow_iff (s : State) (addr : Nat) :
    inWindow s addr = true ↔ ∃ off, off < 0x2000000 ∧ addr = lwb s.shadow * 0x2000000 + off := by
  simp only [inWindow, Bool.and_eq_true, decide_eq_true_eq]
  unfold windowBase windowSize
  constructor
  · rintro ⟨h1, h2⟩
    exact ⟨addr - lwb s.shadow * 0x2000000, by omega, by omega⟩
  · rintro ⟨off, h1, rfl⟩
    omega

theorem regionPart_shadowed {off : Nat} (h : off < 0x100 ∨ 0x1000 ≤ off ∧ off < 0x5400) :
    regionPart off = .setup ∨ regionPart off = .deck ∨ regionPart off = .ring := by
  unfold regionPart
  split_ifs <;> first | omega | simp

theorem regionPart_report {off : Nat} (h : 0x8000 ≤ off ∧ off < 0x8600 ∨ 0x8800 ≤ off ∧ off < 0x8900 ∨
    0xA000 ≤ off ∧ off < 0xA800 ∨ 0xC000 ≤ off ∧ off < 0xD000) : regionPart off = .report := by
  unfold regionPart
  split_ifs <;> first | omega | rfl

theorem regionPart_other {off : Nat} (h : 0x100 ≤ off ∧ off < 0x1000 ∨ 0x5400 ≤ off ∧ off < 0x8000 ∨
    0x8600 ≤ off ∧ off < 0x8800 ∨ 0x8900 ≤ off ∧ off < 0xA000 ∨ 0xA800 ≤ off ∧ off < 0xC000 ∨ 0xD000 ≤ off) :
    regionPart off = .other := by
  unfold regionPart
  split_ifs <;> first | omega | rfl

section
variable {a : Access} {s : State} {off : Nat} (hoff : off < 0x10000) (ha : a.addr = regionBase s.crb + off)
include hoff ha

/-- An access in the Control Region is judged by its offset alone. -/
theorem inRegion_of_offset : inRegion s a.addr = true ∧ a.addr - regionBase s.crb = off :=
  ⟨(inRegion_iff s a.addr).mpr ⟨off, hoff, ha⟩, by omega⟩

theorem arrivalOf_shadowed (h : regionPart off = .setup ∨ regionPart off = .deck ∨ regionPart off = .ring) :
    arrivalOf a s = if a.write then .shadowed off else .regionRead := by
  obtain ⟨hr, hsub⟩ := inRegion_of_offset hoff ha
  rcases h with h | h | h <;> simp [arrivalOf, hr, hsub, h]

theorem arrivalOf_report (h : regionPart off = .report) : arrivalOf a s = if a.write then .report else .regionRead := by
  obtain ⟨hr, hsub⟩ := inRegion_of_offset hoff ha
  simp [arrivalOf, hr, hsub, h]

theorem arrivalOf_other (h : regionPart off = .other) : arrivalOf a s = .plain := by
  obtain ⟨hr, hsub⟩ := inRegion_of_offset hoff ha
  simp [arrivalOf, hr, hsub, h]

end

theorem arrivalOf_window {a : Access} {s : State} {off : Nat} (hr : inRegion s a.addr = false) (hoff : off < 0x2000000)
    (ha : a.addr = lwb s.shadow * 0x2000000 + off) :
    arrivalOf a s = if s.session = none then .plain else if a.write then .loadWrite off else .verify off := by
  have hw : inWindow s a.addr = true := (inWindow_iff s a.addr).mpr ⟨off, hoff, ha⟩
  have hsub : a.addr - windowBase (lwb s.shadow) = off := by
    rw [windowBase]
    omega
  simp [arrivalOf, hr, hw, hsub]

section
variable {a : Access} {s : State} (hr : inRegion s a.addr = false) (hw : inWindow s a.addr = false)
include hr hw

theorem arrivalOf_unguarded (h : a.write = false ∨ guardedClip s a = none) : arrivalOf a s = .plain := by
  rcases h with h | h <;> simp [arrivalOf, hr, hw, h]

theorem arrivalOf_guarded {c : Nat} (ha : a.write = true) (h : guardedClip s a = some c) : arrivalOf a s = .extent c := by
  simp [arrivalOf, hr, hw, ha, h]

end

/-- The first number below `n` that a condition holds of. -/
theorem head?_indices_eq_some {n c : Nat} {p : Nat → Bool} :
    (indices n p).head? = some c ↔ c < n ∧ p c = true ∧ ∀ d, d < c → p d = false := by
  rw [indices, List.head?_filter, List.find?_range_eq_some]
  simp only [List.mem_range, Bool.not_eq_true']
  tauto

theorem head?_indices_eq_none {n : Nat} {p : Nat → Bool} : (indices n p).head? = none ↔ ∀ c, c < n → p c = false := by
  simp [indices]

/-- Settles O12: the rows are tried in the order of R5's table, and the offset ranges are those of the map of section 2.1. -/
theorem accessTakesClassOfFirstRow : Obligations.AccessTakesClassOfFirstRow := by
  intro a s
  refine ⟨fun off hoff ha => ⟨fun h => ?_, fun h => ?_, fun h => ?_⟩, fun hr off hoff ha => arrivalOf_window hr hoff ha,
    fun hr hw => ⟨fun h => ?_, fun h hno => ?_, fun c h hc hin hfirst => ?_⟩⟩
  · exact arrivalOf_shadowed hoff ha (regionPart_shadowed h)
  · exact arrivalOf_report hoff ha (regionPart_report h)
  · exact arrivalOf_other hoff ha (regionPart_other h)
  · exact arrivalOf_unguarded hr hw (.inl h)
  · exact arrivalOf_unguarded hr hw (.inr (head?_indices_eq_none.mpr hno))
  · exact arrivalOf_guarded hr hw h (head?_indices_eq_some.mpr ⟨hc, hin, hfirst⟩)

/-! ### Arrivals that are held or dropped (O13, O14) -/

/-- A read in the Control Region is held as a plain access is, whatever part it lies in (R5, R7). -/
theorem arrivalOf_regionRead {a : Access} {s : State} (hw : a.write = false) (hr : inRegion s a.addr = true) :
    arrivalOf a s = .plain ∨ arrivalOf a s = .regionRead := by
  obtain ⟨off, hoff, ha⟩ := (inRegion_iff s a.addr).mp hr
  cases hp : regionPart off
  case other => exact .inl (arrivalOf_other hoff ha hp)
  case report => exact .inr (by simp [arrivalOf_report hoff ha hp, hw])
  all_goals exact .inr (by simp [arrivalOf_shadowed hoff ha (by simp [hp]), hw])

/-- What is held of an access without a verdict, and the frame. -/
theorem direct_held {a : Access} {s : State} (h : arrivalOf a s = .plain ∨ arrivalOf a s = .regionRead) :
    let t := arbitrate (arrive a s)
    t.held = some ⟨a, if unclassified s a.addr then none else some .direct⟩ ∧ t.done = false ∧ t.readData = s.readData ∧
      unchangedBut [.path] s t := by
  rw [arrive_direct h]
  exact ⟨by simp, by simp, by simp, unchangedBut_held s _ false s.readData⟩

/-- Settles O13: both rows hold the access, with its class unless RST# or the sweep keeps it back. -/
theorem plainAccessAndRegionReadAreHeld : Obligations.PlainAccessAndRegionReadAreHeld := by
  constructor
  · intro write addr lanes data s a hheld hlane hk
    exact ⟨_, (exec_plainAccess ..).trans (arriveAs_next hheld hlane (by simp [a, hk])), direct_held (.inl hk)⟩
  · intro addr s a hheld hr
    have hexec : exec (.controlRegionRead addr) s = arriveAs (fun _ => true) a s := if_pos hr
    rw [hexec]
    exact ⟨_, arriveAs_next hheld rfl rfl, direct_held (arrivalOf_regionRead rfl hr)⟩

/-- Settles O14: both rows raise the guard's event and let the write go. -/
theorem guardedWritesAreDropped : Obligations.GuardedWritesAreDropped := by
  intro addr lanes data s a h
  exact ⟨fun hk => ⟨_, (exec_reportAreaWrite ..).trans (arriveAs_served h hk rfl), dropped_served _ _ _ _ s⟩,
    fun c hk => ⟨_, (exec_clipExtentWrite ..).trans (arriveAs_served h hk rfl), dropped_served _ _ _ _ s⟩⟩

/-! ### Ends on the memory port (O16, O20) -/

/-- Settles O16: a write and a read that end on the port. -/
theorem memoryAccessEndsAtMemory : Obligations.MemoryAccessEndsAtMemory := by
  intro a s hs h
  obtain ⟨hport, -⟩ := onPort_eq_some h
  have hexec : exec .memoryAccessEnd s = .next (arbitrate (endDirect a s)) := by
    change execMemoryAccessEnd s = _
    rw [execMemoryAccessEnd, h]
  refine ⟨_, hexec, ?_⟩
  cases hw : a.write
  · have ht : endDirect a s = readDone (readWord s.mem a.addr) (portFree s) := by simp [endDirect, hw]
    rw [ht]
    refine ⟨by simp, by simp, by simp, fun _ => ⟨fun b => by simp, by simp⟩, ?_⟩
    exact unchangedBut_arbitrated (same_of_memoryEnd rfl (by simp) (by simp) (.inr rfl)) (by simp)
  · have ht : endDirect a s = accessDone (portFree { s with mem := writeLanes s.mem a.addr a.lanes a.data }) := by
      simp [endDirect, hw]
    rw [ht]
    refine ⟨by simp, by simp, fun _ => ⟨?_, by simp⟩, by simp, ?_⟩
    · rw [arbitrate_mem]
      exact lanesWritten_writeLanes s.mem _ _ _ hs.1
    · exact unchangedBut_arbitrated (same_of_memoryEnd rfl (by simp) (by simp) (.inl (by simp))) (by simp)

/-- Settles O20: the first half presents the second, the last one completes the access. -/
theorem halvesOfLoadAccessesEnd : Obligations.HalvesOfLoadAccessesEnd := by
  refine ⟨fun a started h hs s hform honport => ?_, fun a j w ws s honport hj => ?_⟩
  · have hexec : exec .convertedWriteHalfEnd s = .next (arbitrate (endConverted a (h :: hs) s)) := by
      change execConvertedWriteHalfEnd s = _
      rw [execConvertedWriteHalfEnd, honport]
    refine ⟨_, hexec, ?_⟩
    have hmem : LanesWritten h.addr h.lanes h.data s.mem (writeLanes s.mem h.addr h.lanes h.data) :=
      lanesWritten_writeLanes s.mem _ _ _ hform.1
    by_cases hlast : hs = []
    · simp only [endConverted, if_pos hlast]
      refine ⟨by simpa using hmem, fun _ => ⟨by simp, by simp, by simp⟩, fun h => absurd hlast h, ?_⟩
      exact unchangedBut_arbitrated (same_of_memoryEnd rfl (by simp) (by simp) (.inl (by simp))) (by simp)
    · simp only [endConverted, if_neg hlast]
      refine ⟨by simpa using hmem, fun h => absurd h hlast, fun _ => ⟨by simp, by simp⟩, ?_⟩
      exact unchangedBut_arbitrated (same_of_memoryEnd rfl (by simp) (by simp) (.inl (by simp))) (by simp)
  · have hexec : exec .verifyReadHalfEnd s = .next (arbitrate (endVerify a j s)) := by
      change execVerifyReadHalfEnd s = _
      rw [execVerifyReadHalfEnd, honport]
    refine ⟨_, hexec, ?_⟩
    intro j'
    have hend : endVerify a j s =
        if ws = [] then readDone (verifyWord j') (portFree s) else { portFree s with held := some ⟨a, some (.verify j')⟩ } := by
      simp only [endVerify, hj, j']
    rw [hend]
    by_cases hlast : ws = []
    · rw [if_pos hlast]
      refine ⟨fun _ => ⟨by simp, by simp, by simp⟩, fun h => absurd hlast h, ?_⟩
      exact unchangedBut_arbitrated (same_of_memoryEnd rfl (by simp) (by simp) (.inr rfl)) (by simp)
    · rw [if_neg hlast]
      refine ⟨fun h => absurd h hlast, fun _ => ⟨by simp, by simp⟩, ?_⟩
      exact unchangedBut_arbitrated (same_of_memoryEnd rfl (by simp) (by simp) (.inr rfl)) (by simp)

/-! ### Accesses of the Load Window (O17) -/

/-- A verify read needs no memory word where it covers no stored frame, and only there (R56). -/
theorem verifyJob_todo_eq_nil (se : Session) (off : Nat) :
    (verifyJob se off).todo = [] ↔ coveredPositions (verifyJob se off) = [] := by
  change verifyWords _ = [] ↔ coveredPositions ⟨se.packing, se.channels, se.base, se.capacity, off, [], []⟩ = []
  unfold verifyWords
  cases coveredPositions ⟨se.packing, se.channels, se.base, se.capacity, off, [], []⟩ <;> simp [List.eraseDups_cons]

/-- Settles O17: the three verdicts on a write in their order, and the two ends of a verify read. -/
theorem loadWindowAccessesAreJudged : Obligations.LoadWindowAccessesAreJudged := by
  constructor
  · intro addr lanes data s se off a h hse hk
    refine ⟨_, (exec_loadWindowWrite ..).trans (arriveAs_served h hk rfl), ?_⟩
    have hserve : serve (.loadWrite off) a s = judgeLoad se off a s := by simp [serve, hse]
    rw [hserve, judgeLoad]
    refine ⟨fun hp => ?_, fun hp ho => ?_, fun hp ho => ?_⟩
    · rw [if_pos (c := isPartial se.packing a.lanes = true) hp]
      exact dropped_served _ _ _ _ s
    · rw [if_neg (by simp [a, accessOf, hp]), if_pos (c := outOfRange se off a.lanes = true) ho]
      exact dropped_served _ _ _ _ s
    · rw [if_neg (by simp [a, accessOf, hp]), if_neg (by simp [a, accessOf, ho])]
      refine ⟨by simp [holdAs, a, accessOf], by simp [holdAs], by simp [holdAs, a, accessOf], ?_⟩
      exact unchangedBut_arbitrated (same_of_arrival rfl (by simp) (.inr ⟨rfl, rfl, rfl⟩) (.inl (by simp))) (by simp [holdAs])
  · intro addr s se off a h hse hk
    refine ⟨_, (exec_verifyRead ..).trans (arriveAs_served h hk rfl), ?_⟩
    have hserve : serve (.verify off) a s = judgeVerify se off a s := by simp [serve, hse]
    rw [hserve, judgeVerify]
    simp only [verifyJob_todo_eq_nil]
    by_cases hc : coveredPositions (verifyJob se off) = []
    · rw [if_pos hc]
      exact ⟨fun _ => ⟨by simp, by simp, by simp⟩, fun h => absurd hc h, unchangedBut_held s none true 0⟩
    · rw [if_neg hc]
      exact ⟨fun h => absurd h hc, fun _ => ⟨by simp [holdAs], by simp [holdAs]⟩, unchangedBut_held s _ false s.readData⟩

/-! ### Shadowed writes (O22) -/

/-- Lanes 0 to 2 are enabled. -/
theorem lanes_and_seven (lanes : Lanes) :
    lanes &&& 7#4 = 7#4 ↔ lanes.getLsbD 0 = true ∧ lanes.getLsbD 1 = true ∧ lanes.getLsbD 2 = true := by
  revert lanes
  decide

/-- The Intake's verdict on a write of the ring, in the ring's own numbers (R92). -/
theorem ringVerdict_eq {off : Nat} (h : regionPart off = .ring) (s : State) (a : Access) :
    ringVerdict s off a =
      if off % 16 = 0 ∧ a.lanes.getLsbD 0 = true ∧ a.lanes.getLsbD 1 = true ∧ a.lanes.getLsbD 2 = true then
        if off = 0x5000 + 16 * s.expSlot ∧ a.data.toNat % 65536 = s.expSeq then .taken else .misplaced
      else .data := by
  have hlow : 0x5000 ≤ off := by
    unfold regionPart at h
    split_ifs at h
    omega
  unfold ringVerdict
  simp only [lanes_and_seven]
  refine if_ctx_congr Iff.rfl (fun hw => ?_) (fun _ => rfl)
  have hslot : (off - ringBase) / 16 = s.expSlot ↔ off = 0x5000 + 16 * s.expSlot := by
    simp only [ringBase]
    omega
  have hseq : (a.data.extractLsb' 0 16).toNat = a.data.toNat % 65536 := by simp
  simp only [hslot, hseq]

/-- A setup write that needs no clamp is held whole (R29). -/
theorem acceptSetup_unclamped {off : Nat} {a : Access} {s : State}
    (hc : clamped s off a.lanes (writeLanes s.shadow off a.lanes a.data) = []) (hl : a.lanes ≠ 0) :
    acceptSetup off a s = holdAs a (.shadowed off a.lanes .data) s := by
  have hfull : a.lanes &&& ~~~ (0 : Lanes) = a.lanes := by
    generalize a.lanes = l
    revert l
    decide
  simp only [acceptSetup, hc, withheld, List.foldl_nil, hfull, if_neg hl]

/-- Settles O22: the parts of the region one by one, and within the Setup Block what is refused and what needs no clamp. -/
theorem shadowedArrivalsAreJudged : Obligations.ShadowedArrivalsAreJudged := by
  intro addr lanes data s off a sh h hk
  refine ⟨_, (exec_shadowedWriteArrival ..).trans (arriveAs_served h hk rfl), ?_⟩
  have hserve : serve (.shadowed off) a s = judgeShadowed off a s := rfl
  rw [hserve, judgeShadowed]
  have hheld : ∀ c, (arbitrate (holdAs a c s)).held = some ⟨a, some c⟩ ∧ (arbitrate (holdAs a c s)).done = false ∧
      unchangedBut [.path] s (arbitrate (holdAs a c s)) := fun c =>
    ⟨by simp [holdAs], by simp [holdAs], unchangedBut_held s _ false s.readData⟩
  refine ⟨fun hp => ?_, fun hp => ?_, fun hp f hf => ?_, fun hp hf hc => ?_⟩
  · rw [hp]
    exact hheld _
  · rw [hp]
    dsimp only
    rw [ringVerdict_eq hp]
    exact hheld _
  · have hf' : refusedField s (writeLanes s.shadow off a.lanes a.data) = some f := hf
    rw [hp]
    dsimp only
    rw [hf']
    exact dropped_served _ _ _ _ s
  · have hf' : refusedField s (writeLanes s.shadow off a.lanes a.data) = none := hf
    have hc' : clamped s off a.lanes (writeLanes s.shadow off a.lanes a.data) = [] := hc
    have hlanes : a.lanes ≠ 0 := by simpa [noLane, a, accessOf] using h.2.1
    rw [hp]
    dsimp only
    rw [hf']
    rw [acceptSetup_unclamped hc' hlanes]
    exact hheld _

end Sys2Proof.Machine
end

section
/-!
PROOF. Power-on (O6, O2): the defaults bring neither a press nor a release, so each line that reads active starts to be filtered, and the
sweep's first write takes the free port.
-/

namespace Sys2Proof.Machine

/-! ### The lines as a reset leaves them -/

theorem bankGet_pinsKept (s : State) (n : Nat) :
    bankGet (pinsKept s) n (Line.released false) = Line.released (lineOf s n).high :=
  bankGet_map (fun l : Line => Line.released l.high) s.lines n (Line.released false)

/-- A line that a reset has left with its pin where it was, once its level has been judged (R103). -/
def startedLine (high : Bool) : Line :=
  if high = false then { Line.released false with filter := .pressing, timer := 12000 } else Line.released true

/-- The shadow has the defaults that the Lines block reads at a reset: the glitch filter, and every line active low (section 2.2). -/
def DefaultLines (sh : Cells) : Prop := glitch sh = 100 ∧ ∀ n, n < 10 → activeHigh sh n = false

theorem defaultLines_defaultSetup (crb : Nat) : DefaultLines (defaultSetup crb) := by
  unfold DefaultLines defaultSetup defaultSetupWords
  split <;> decide

/-- A line that reads active begins to be filtered; no press is taken at once (R102, R103). -/
theorem leadingEdge_started {s : State} {n : Nat} {high : Bool} (h : DefaultLines s.shadow) (hn : n < 10)
    (hl : lineOf s n = Line.released high) :
    (if readsActive s.shadow n (lineOf s n) then leadingEdge n s else s) = setLine n (startedLine high) s := by
  obtain ⟨hg, hp⟩ := h
  cases high
  · simp [readsActive, hl, hp n hn, Line.released, leadingEdge, hg, setFilter, startedLine, Config.lineUnit]
  · have : setLine n (Line.released true) s = s := hl ▸ setLine_self n s
    simp [readsActive, hl, hp n hn, Line.released, startedLine] at this ⊢
    exact this.symm

/-- A pass over lines that a reset has just left, each visited once, writes their records alone. -/
theorem foldl_leadingEdge_started {s : State} {high : Nat → Bool} (h : DefaultLines s.shadow) (ns : List Nat) (hn : ns.Nodup)
    (hns : ∀ n ∈ ns, n < 10) (hl : ∀ n ∈ ns, lineOf s n = Line.released (high n)) :
    let t := ns.foldl (fun t n => if readsActive t.shadow n (lineOf t n) then leadingEdge n t else t) s
    t = { s with lines := t.lines } ∧ ∀ n, n < 10 → lineOf t n = if n ∈ ns then startedLine (high n) else lineOf s n := by
  induction ns generalizing s with
  | nil => exact ⟨rfl, fun n _ => by simp⟩
  | cons k ns ih =>
    obtain ⟨hk, hn⟩ := List.nodup_cons.mp hn
    have hkl : k < 10 := hns k (by simp)
    simp only [List.foldl_cons]
    rw [leadingEdge_started h hkl (hl k (by simp))]
    have hline : ∀ n, n ∈ ns → lineOf (setLine k (startedLine (high k)) s) n = lineOf s n := fun n hmem => by
      rw [lineOf_setLine, if_neg]
      rintro ⟨rfl, -⟩
      exact hk hmem
    obtain ⟨ht, htl⟩ := ih (s := setLine k (startedLine (high k)) s) h hn (fun n hmem => hns n (by simp [hmem]))
      (fun n hmem => (hline n hmem).trans (hl n (by simp [hmem])))
    refine ⟨by rw [ht]; rfl, fun n hlt => ?_⟩
    rw [htl n hlt, lineOf_setLine]
    by_cases hkn : k = n
    · subst hkn
      simp [hk, hkl]
    · simp [hkn, Ne.symm hkn]

/-- The lines behind a reset: those whose pin is low are being filtered, the others are UP (R103). -/
theorem startLines_reset {s : State} {high : Nat → Bool} (h : DefaultLines s.shadow)
    (hl : ∀ n, n < 10 → lineOf s n = Line.released (high n)) :
    startLines s = { s with lines := (startLines s).lines } ∧ ∀ n, n < 10 → lineOf (startLines s) n = startedLine (high n) := by
  obtain ⟨ht, htl⟩ := foldl_leadingEdge_started (high := high) h (List.range 10) List.nodup_range (fun n => List.mem_range.mp)
    (fun n hn => hl n (List.mem_range.mp hn))
  exact ⟨ht, fun n hn => (htl n hn).trans (if_pos (List.mem_range.mpr hn))⟩

/-! ### The sweep at a free port -/

/-- At a free port the sweep comes first (R15, R18). -/
theorem arbitrate_sweeping {s : State} {i off : Nat} {bytes : List Byte} (hport : s.port = none) (hrst : s.rst = false)
    (hs : s.sweep = some i) (hb : sweepBlock s i = some (off, bytes)) :
    arbitrate s = { s with offer := (refreshOffer s).offer, port := some (.sweep (regionAddr s off) bytes false) } := by
  have hr := refreshOffer_only s
  have hreq : requestsPresent (refreshOffer s) = .sweep i :: (requestsPresent (refreshOffer s)).tail := by
    have hsw : (refreshOffer s).sweep = some i := by rw [hr]; exact hs
    simp [requestsPresent, hsw]
  have hfree : ((refreshOffer s).port.isSome || (refreshOffer s).rst) = false := by
    rw [hr]
    simp [hport, hrst]
  have hblock : sweepBlock (refreshOffer s) i = some (off, bytes) := by
    rw [hr]
    exact hb
  simp only [arbitrate, arbitrateAside, hfree, Bool.false_eq_true, if_false]
  rw [hreq]
  simp only [chosen, Bool.false_eq_true, if_false, List.head?_cons, grant, grantSweep, hblock]
  rw [hr]
  rfl

theorem sweepBlock_zero (s : State) : sweepBlock s 0 = some (0, readBytes (defaultSetup s.crb) 0 16) := rfl

/-! ### Power-on -/

/-- The lines judged and the port granted, where the sweep is about to begin (R18, R103). -/
theorem arbitrate_startLines {p : State} {crb : Nat} {high : Nat → Bool} (hd : DefaultLines p.shadow)
    (hl : ∀ n, n < 10 → lineOf p n = Line.released (high n)) (hport : p.port = none) (hrst : p.rst = false)
    (hs : p.sweep = some 0) (hcrb : p.crb = crb) :
    ∃ ls, arbitrate (startLines p) = { p with
        lines := ls
        offer := (refreshOffer { p with lines := ls }).offer
        port := some (.sweep (regionBase crb) (readBytes (defaultSetup crb) 0 16) false) } ∧
      ∀ n, n < 10 → bankGet ls n (Line.released false) = startedLine (high n) := by
  obtain ⟨ht, hstarted⟩ := startLines_reset hd hl
  subst hcrb
  refine ⟨(startLines p).lines, ?_, hstarted⟩
  rw [ht, arbitrate_sweeping (s := { p with lines := (startLines p).lines }) hport hrst hs (sweepBlock_zero _)]
  have haddr : ∀ ls, regionAddr { p with lines := ls } 0 = regionBase p.crb := fun ls => Nat.add_zero _
  rw [haddr]

section
variable (straps : BitVec 4) (s : State)

@[simp] theorem poweredOn_shadow : (poweredOn straps s).shadow = defaultSetup straps.toNat := by dsimp only [poweredOn]
@[simp] theorem poweredOn_crb : (poweredOn straps s).crb = straps.toNat := rfl
@[simp] theorem lineOf_poweredOn (n : Nat) : lineOf (poweredOn straps s) n = Line.released (lineOf s n).high := bankGet_pinsKept s n

/-- The part behind power-on. -/
theorem exec_powerOn :
    ∃ ls, exec (.powerOn straps) s = .next { poweredOn straps s with
        lines := ls
        offer := (refreshOffer { poweredOn straps s with lines := ls }).offer
        port := some (.sweep (regionBase straps.toNat) (readBytes (defaultSetup straps.toNat) 0 16) false) } ∧
      ∀ n, n < 10 → bankGet ls n (Line.released false) = startedLine (lineOf s n).high := by
  have hd : DefaultLines (poweredOn straps s).shadow := by
    rw [poweredOn_shadow]
    exact defaultLines_defaultSetup _
  obtain ⟨ls, ht, hl⟩ := arbitrate_startLines hd (fun n _ => lineOf_poweredOn straps s n) rfl rfl rfl
    (poweredOn_crb straps s)
  exact ⟨ls, congrArg Host.Outcome.next ht, hl⟩

end

/-- Settles O6: the power-on values are read off the state behind the lines' start and the sweep's first grant. -/
theorem powerOnLeavesPowerOnState : Obligations.PowerOnLeavesPowerOnState := by
  intro straps s
  obtain ⟨ls, hexec, hl⟩ := exec_powerOn straps s
  refine ⟨_, hexec, rfl, rfl, ?_, rfl, rfl, rfl, rfl, rfl, rfl, fun c => bankGet_replicate 128 c _,
    fun k => bankGet_replicate 8 k _, fun v => bankGet_replicate 24 v _, fun b => bankGet_replicate 4 b _, rfl, rfl, rfl, rfl, rfl,
    fun n => bankGet_replicate 4 n _, hl, rfl, rfl, rfl, rfl, rfl, rfl, rfl, fun i => bankGet_replicate 5 i _,
    fun c => bankGet_replicate 128 c _, rfl, fun a => rfl, rfl⟩
  simp only [poweredOn_shadow]

/-! ### The reset state (O2) -/

theorem lines_replicate {ls : Vector Line 10} {l d : Line} (h : ∀ n, n < 10 → bankGet ls n d = l) :
    ls = Vector.replicate 10 l := by
  ext n hn
  simpa [bankGet, hn] using h n hn

/-- No slot is FILLING, so nothing is on offer (R69). -/
theorem refreshOffer_none {s : State} (ho : ∀ k, s.offer = some k → slotFilling s k = false) (hs : ∀ k, k < 8 → slotFilling s k = false) :
    (refreshOffer s).offer = none := by
  have h : (indices 8 (slotFilling s)).head? = none := head?_indices_eq_none.mpr hs
  unfold refreshOffer
  extract_lets kept
  have hkept : kept = false := by
    simp only [kept]
    split
    · exact ho _ ‹_›
    · rfl
  simp only [hkept, h, Bool.false_eq_true, if_false]
  split <;> rfl

theorem poweredOn_reset : poweredOn 0 State.reset = { State.reset with port := none } := by
  have hl : pinsKept State.reset = Vector.replicate 10 (Line.released true) := by simp [pinsKept, State.reset, Line.released]
  unfold poweredOn
  rw [hl]
  rfl

/-- Settles O2: every pin of the reset state is high, so power-on leaves each line UP. -/
theorem resetIsPowerOnAndMeetsInvariants : Obligations.ResetIsPowerOnAndMeetsInvariants := by
  refine ⟨?_, ⟨rfl, cellsWf_defaultSetup 0⟩, by simp [IntakeForm, State.reset], by simp [QueueForm, State.reset, numbered]⟩
  obtain ⟨ls, hexec, hl⟩ := exec_powerOn 0 State.reset
  have hlines : ls = Vector.replicate 10 (Line.released true) := lines_replicate (fun n hn => by
    rw [hl n hn, show (lineOf State.reset n).high = true by simp [lineOf, State.reset, bankGet, hn, Line.released]]
    rfl)
  have hoffer : (refreshOffer { poweredOn 0 State.reset with lines := ls }).offer = none :=
    refreshOffer_none (fun _ h => nomatch h) (fun k _ => by
      rw [slotFilling, show slotOf { poweredOn 0 State.reset with lines := ls } k = HeadSlot.blank from bankGet_replicate 8 k _]
      rfl)
  rw [hexec, hoffer, hlines, poweredOn_reset]
  rfl

end Sys2Proof.Machine
end

section
/-!
PROOF. The assertion of RST# (O7).
-/

namespace Sys2Proof.Machine

/-! ### Pins -/

/-- The pins of the lines stand where they stood. -/
def SamePins (s t : State) : Prop := ∀ n, (lineOf t n).high = (lineOf s n).high

theorem SamePins.trans {s t u : State} (h1 : SamePins s t) (h2 : SamePins t u) : SamePins s u :=
  fun n => (h2 n).trans (h1 n)

theorem samePins_of_lines {s t : State} (h : t.lines = s.lines) : SamePins s t := fun n => by rw [lineOf, lineOf, h]

theorem LineKept.samePins {n : Nat} {s t : State} (h : LineKept n s t) : SamePins s t := by
  obtain ⟨⟨held, penalty, hn⟩, hothers⟩ := h
  intro j
  by_cases hj : j = n
  · subst hj
    rw [hn]
  · rw [hothers j hj]

/-- A line's record written with its pin where it was. -/
theorem setLine_samePins {n : Nat} {l : Line} {s : State} (h : l.high = (lineOf s n).high) : SamePins s (setLine n l s) := by
  intro j
  rw [lineOf_setLine]
  split
  · rename_i hj
    rw [h, hj.1]
  · rfl

theorem foldl_samePins {α : Type} {xs : List α} (f : State → α → State) (hf : ∀ s, ∀ a ∈ xs, SamePins s (f s a)) (s : State) :
    SamePins s (xs.foldl f s) := by
  induction xs generalizing s with
  | nil => exact fun _ => rfl
  | cons a xs ih => exact (hf s a (by simp)).trans (ih (fun t b hb => hf t b (by simp [hb])) _)

theorem setFilter_samePins (n : Nat) (f : FilterState) (d : Nat) (s : State) : SamePins s (setFilter n f d s) :=
  setLine_samePins rfl

theorem judgedEdge_samePins {n : Nat} (hn : n < 10) (old new : Bool) (s : State) : SamePins s (judgedEdge n old new s) := by
  have hpress : ∀ f t, SamePins t (takePress n (setFilter n f 0 t)) := fun f t =>
    (setFilter_samePins n f 0 t).trans (takePress_lineKept hn _).samePins
  have hrelease : ∀ f t, SamePins t (takeRelease n (setFilter n f 0 t)) := fun f t =>
    (setFilter_samePins n f 0 t).trans (takeRelease_lineKept hn _).samePins
  unfold judgedEdge
  split
  · exact fun _ => rfl
  · split
    · unfold leadingEdge
      dsimp only
      split
      · split
        · exact hpress .down s
        · exact setFilter_samePins n _ _ s
      · exact setFilter_samePins n _ _ s
      · exact fun _ => rfl
    · unfold trailingEdge
      dsimp only
      split
      · exact setFilter_samePins n _ _ s
      · split
        · exact hrelease .up s
        · exact setFilter_samePins n _ _ s
      · exact fun _ => rfl

theorem lineModeEffect_samePins (old : Cells) (n : Nat) (s : State) : SamePins s (lineModeEffect old n s) := by
  have hpenalty : SamePins s (setPenalty n 0 s) := by
    refine SamePins.trans (t := setLine n { lineOf s n with penalty := penaltyOf 0 } s) (setLine_samePins rfl) ?_
    exact samePins_of_lines (setPenalty_lines n 0 s)
  simp only [lineModeEffect]
  split
  · exact fun _ => rfl
  · split
    · exact hpenalty
    · split
      · exact setLine_samePins rfl
      · exact fun _ => rfl

theorem setClock_lines (c : FrameClock) (s : State) : (setClock c s).lines = s.lines := by rw [setClock_only]

theorem preferenceChanged_lines (s : State) : (preferenceChanged s).lines = s.lines := by
  simp only [preferenceChanged]
  split
  · split
    · rfl
    · exact setClock_lines _ s
    · exact (raiseEvent_lines ..).trans (setClock_lines _ s)
  · rfl

theorem preloadEffect_lines (m : PortMerge) (k : Nat) (s : State) : (preloadEffect m k s).lines = s.lines := by
  unfold preloadEffect
  split <;> rfl

theorem setupEffects_samePins (old : Cells) (m : PortMerge) (s : State) : SamePins s (setupEffects old m s) := by
  unfold setupEffects
  extract_lets s1 s2 s3 s4 s5
  have h1 : SamePins s s1 := foldl_samePins _ (fun t n _ => lineModeEffect_samePins old n t) s
  have h2 : SamePins s1 s2 := foldl_samePins _ (fun t n hn => judgedEdge_samePins (List.mem_range.mp hn) _ _ t) s1
  have h3 : SamePins s2 s3 := foldl_samePins _ (fun t k _ => samePins_of_lines (preloadEffect_lines m k t)) s2
  have h4 : SamePins s3 s4 := by
    simp only [s4]
    split
    · exact fun _ => rfl
    · exact samePins_of_lines (preferenceChanged_lines s3)
  have h5 : SamePins s4 s5 := by
    simp only [s5]
    split <;> exact fun _ => rfl
  have h : SamePins s s5 := (((h1.trans h2).trans h3).trans h4).trans h5
  split <;> exact h

theorem performMerge_samePins (m : PortMerge) (s : State) : SamePins s (performMerge m s) := by
  have hword : SamePins s (mergeWord m s) := fun _ => rfl
  unfold performMerge
  split
  · exact hword.trans (setupEffects_samePins _ m _)
  · exact hword.trans (samePins_of_lines (deckEffects_only _ m _).lines_eq)
  · exact hword.trans (samePins_of_lines (ringEffects_only m _).lines_eq)
  · exact hword

/-- A taken command leaves the pins, and waiting commands, alone. -/
theorem takeTrigger_samePins {body : CommandBody} (hb : BodyOnly body) (m : PortMerge) (s : State) :
    SamePins s (takeTrigger body m s) := by
  unfold takeTrigger
  extract_lets s1
  have h1 : SamePins s s1 := performMerge_samePins m s
  exact h1.trans (samePins_of_lines (hb (commandArgs s1.shadow m.slot) s1).lines_eq)

theorem takeBeforeReset_samePins (s : State) : SamePins s (takeBeforeReset s) := by
  unfold takeBeforeReset
  split
  · split
    · exact takeTrigger_samePins (bodyOf_only _) _ s
    · exact fun _ => rfl
  · exact fun _ => rfl

/-! ### The held access -/

/-- The reset changes nothing but the controller port of what it finds held. -/
theorem heldMet_only (s : State) :
    heldMet s = { s with held := (heldMet s).held, done := (heldMet s).done, readData := (heldMet s).readData } := by
  unfold heldMet
  split
  · rfl
  · rfl
  · split
    · rfl
    · split
      · rfl
      · split <;> rfl
      · rfl

section
variable {s : State} {a : Access}

/-- On the port, it runs to its end without its second half (R20). -/
theorem heldMet_onPort {c : AccessClass} (h : s.held = some ⟨a, some c⟩) (hp : s.port = some .controller) :
    heldMet s = { s with held := some ⟨a, some (firstHalfOnly c)⟩ } := by
  simp only [heldMet, h, if_pos hp]

/-- Its first half done, it is done (R20). -/
theorem heldMet_halfConverted {hs : List HalfWrite} (h : s.held = some ⟨a, some (.converted true hs)⟩)
    (hp : s.port ≠ some .controller) : heldMet s = accessDone s := by
  simp only [heldMet, h, if_neg hp]

theorem heldMet_halfRead {j : VerifyJob} (h : s.held = some ⟨a, some (.verify j)⟩) (hp : s.port ≠ some .controller)
    (hj : j.got ≠ []) : heldMet s = readDone (verifyWord j) s := by
  simp only [heldMet, h, if_neg hp, if_neg hj]

/-- Otherwise it stays held without a class (R20). -/
theorem heldMet_unstarted {c : AccessClass} (h : s.held = some ⟨a, some c⟩) (hp : s.port ≠ some .controller)
    (hc : ∀ hs, c ≠ .converted true hs) (hv : ∀ j, c = .verify j → j.got = []) :
    heldMet s = { s with held := some ⟨a, none⟩ } := by
  simp only [heldMet, h, if_neg hp]
  split
  · exact absurd rfl (hc _)
  · rw [if_pos (hv _ rfl)]
  · rfl

end

/-- Settles O7: where a taken trigger is on the port its command goes first (R100), and leaves the pins of the lines. -/
theorem resetAssertionClearsBlocks : Obligations.ResetAssertionClearsBlocks := by
  intro s hrst
  have hexec : exec .rstAssert s = .next (assertReset (heldMet (takeBeforeReset s))) := if_neg (by simp [hrst])
  refine ⟨_, hexec, rfl, rfl, rfl, rfl, rfl, fun v => bankGet_replicate 24 v _, fun b => bankGet_replicate 4 b _, rfl,
    fun n => bankGet_replicate 4 n _, fun n _ => ?_, rfl, rfl, rfl, rfl, rfl, fun i => bankGet_replicate 5 i _,
    fun c => bankGet_replicate 128 c _, rfl, rfl, fun hno => ?_⟩
  · have hlines : SamePins (takeBeforeReset s) (heldMet (takeBeforeReset s)) := samePins_of_lines (by rw [heldMet_only])
    rw [← takeBeforeReset_samePins s n, ← hlines n]
    exact bankGet_pinsKept _ n
  · have htake : takeBeforeReset s = s := by
      unfold takeBeforeReset
      split
      · exact if_neg (hno _ ‹_›)
      · rfl
    rw [htake]
    have hmet := heldMet_only s
    have hclips : (heldMet s).clips = s.clips := by rw [hmet]
    have hslots : (heldMet s).slots = s.slots := by rw [hmet]
    have hport : (assertReset (heldMet s)).port = portMet s.port := by
      change portMet (heldMet s).port = _
      rw [hmet]
    have hclip : ∀ c, clipOf (heldMet s) c = clipOf s c := fun c => by rw [clipOf, hclips]; rfl
    have hslot : ∀ k, slotOf (heldMet s) k = slotOf s k := fun k => by rw [slotOf, hslots]; rfl
    refine ⟨fun c => ?_, fun k => ?_, ?_, ?_, fun a => ?_, fun a => ?_, ?_, fun b h => ?_, fun b h => ?_, fun k a bs o h => ?_,
      fun a bs o h => ?_, fun h => ?_, fun a c h hp => ?_, fun a hs h hp => ?_, fun a j h hp hj => ?_, fun a c h hp hc hv => ?_⟩
    · have h := bankGet_map (entryMet (heldMet s)) (heldMet s).clips c ClipEntry.blank
      change clipOf (assertReset (heldMet s)) c = entryMet (heldMet s) (clipOf (heldMet s) c) at h
      rw [h, hclip]
      simp only [entryMet, hslot]
      cases (clipOf s c).state <;> simp
    · have h := bankGet_map slotMet (heldMet s).slots k HeadSlot.blank
      change slotOf (assertReset (heldMet s)) k = slotMet (slotOf (heldMet s) k) at h
      rw [h, hslot]
      rfl
    · change (heldMet s).owed ++ owedRetiring (heldMet s) = _
      simp only [owedRetiring, hclip]
      rw [hmet]
      rfl
    · change (heldMet s).clock = s.clock
      rw [hmet]
    · change readByte (heldMet s).mem a = readByte s.mem a
      rw [hmet]
    · change readByte (heldMet s).shadow a = readByte s.shadow a
      rw [hmet]
    · change (heldMet s).deckClear = s.deckClear
      rw [hmet]
    · rw [hport, h]
      rfl
    · rw [hport, h]
      rfl
    · rw [hport, h]
      rfl
    · rw [hport, h]
      rfl
    · rw [hport, h]
      rfl
    · rw [hport, hp, heldMet_onPort h hp]
      refine ⟨rfl, rfl, ?_, ?_, ?_⟩
      · rintro b hs rfl
        rfl
      · rintro j rfl
        rfl
      · rw [h]
        rintro (rfl | ⟨off, l, v, rfl⟩) <;> rfl
    · rw [heldMet_halfConverted h hp]
      exact ⟨rfl, rfl, rfl⟩
    · rw [heldMet_halfRead h hp hj]
      exact ⟨rfl, rfl, rfl⟩
    · rw [heldMet_unstarted h hp hc hv]
      rfl

end Sys2Proof.Machine
end

section
/-!
SUPPORT. The service of a held access: what it can change, and that it is judged against the part as the step leaves it (R18, R20).
-/

namespace Sys2Proof.Machine

/-! ### What an access's service can change -/

theorem handWriteBacks_only (cs : List (ClampField × Nat)) (s : State) :
    cs.foldl handWriteBack s = { s with writeBacks := (cs.foldl handWriteBack s).writeBacks } := by
  induction cs generalizing s with
  | nil => rfl
  | cons f cs ih =>
    have hone : handWriteBack s f = { s with writeBacks := (handWriteBack s f).writeBacks } := by
      simp only [handWriteBack]
      split <;> rfl
    rw [List.foldl_cons, ih, hone]

/-- `t` is `s` but for the controller port, an event, write-backs handed over, the load session. -/
def ServiceOnly (s t : State) : Prop :=
  t = { s with
    held := t.held, done := t.done, readData := t.readData, queue := t.queue, lost := t.lost, nextSeq := t.nextSeq,
    writeBacks := t.writeBacks, session := t.session }

theorem dropped_only (k : EventKind) (a b : Nat) (value : Word) (s : State) :
    ServiceOnly s (accessDone (raiseEvent k a b value s)) := by
  unfold ServiceOnly accessDone
  rw [raiseEvent_only]

theorem serve_only (k : Arrival) (a : Access) (s : State) : ServiceOnly s (serve k a s) := by
  have hheld : ∀ c, ServiceOnly s (holdAs a c s) := fun _ => rfl
  cases k with
  | plain => exact hheld _
  | regionRead => exact hheld _
  | report => exact dropped_only _ _ _ _ s
  | extent c => exact dropped_only _ _ _ _ s
  | shadowed off =>
    simp only [serve, judgeShadowed]
    split
    · split
      · exact dropped_only _ _ _ _ s
      · unfold acceptSetup ServiceOnly
        extract_lets cs s1 lanes
        have h1 : s1 = { s with writeBacks := s1.writeBacks } := handWriteBacks_only cs s
        clear_value s1
        rw [h1]
        split <;> rfl
    · exact hheld _
    · exact hheld _
  | loadWrite off =>
    simp only [serve]
    split
    · unfold judgeLoad
      split
      · exact dropped_only _ _ _ _ s
      · split
        · exact dropped_only _ _ _ _ s
        · rfl
    · exact hheld _
  | verify off =>
    simp only [serve]
    split
    · simp only [judgeVerify]
      split <;> rfl
    · exact hheld _

/-- Only a setup write hands write-backs over. -/
theorem serve_writeBacks {k : Arrival} (hk : ∀ off, k ≠ .shadowed off) (a : Access) (s : State) :
    (serve k a s).writeBacks = s.writeBacks := by
  have hraise : ∀ e x y w, (accessDone (raiseEvent e x y w s)).writeBacks = s.writeBacks := fun e x y w => by
    rw [accessDone_writeBacks, raiseEvent_only]
  cases k with
  | plain => rfl
  | regionRead => rfl
  | report => exact hraise _ _ _ _
  | extent c => exact hraise _ _ _ _
  | shadowed off => exact absurd rfl (hk off)
  | loadWrite off =>
    simp only [serve]
    split
    · unfold judgeLoad
      split
      · exact hraise _ _ _ _
      · split
        · exact hraise _ _ _ _
        · rfl
    · rfl
  | verify off =>
    simp only [serve]
    split
    · simp only [judgeVerify]
      split <;> rfl
    · rfl

/-- Where no session is open none is opened. -/
theorem serve_session_none (k : Arrival) (a : Access) {s : State} (h : s.session = none) : (serve k a s).session = none := by
  cases k with
  | loadWrite off => simp [serve, h, holdAs]
  | verify off => simp [serve, h, holdAs]
  | shadowed off =>
    simp only [serve, judgeShadowed]
    split
    · split
      · simp [h]
      · unfold acceptSetup
        extract_lets cs s1 lanes
        have h1 : s1.session = s.session := by
          simp only [s1]
          rw [handWriteBacks_only]
        clear_value s1
        split <;> simp [holdAs, h1, h]
    · exact h
    · exact h
  | plain => exact h
  | regionRead => exact h
  | report => simp [serve, raiseGuard, h]
  | extent c => simp [serve, raiseGuard, h]

/-! ### Classification reads a few parts of the state alone -/

/-- The row an access falls in, and a window's ban, depend on the straps, the shadow, the session and the clips. -/
structure JudgedAlike (s t : State) : Prop where
  crb : t.crb = s.crb
  shadow : t.shadow = s.shadow
  session : t.session = s.session
  clips : t.clips = s.clips

section
variable {s t : State} (h : JudgedAlike s t)
include h

theorem JudgedAlike.clipOf_eq (c : Nat) : clipOf t c = clipOf s c := by rw [clipOf, h.clips]; rfl

theorem JudgedAlike.inRegion_eq (addr : Nat) : inRegion t addr = inRegion s addr := by rw [inRegion, h.crb]; rfl

theorem JudgedAlike.inWindow_eq (addr : Nat) : inWindow t addr = inWindow s addr := by rw [inWindow, h.shadow]; rfl

theorem JudgedAlike.arrivalOf_eq (a : Access) : arrivalOf a t = arrivalOf a s := by
  simp only [arrivalOf, h.inRegion_eq, h.crb, h.shadow, h.session, h.inWindow_eq, guardedClip, h.clipOf_eq]

theorem JudgedAlike.refusedField_eq (hl : t.lockout = s.lockout) (ht : t.timers = s.timers) (sh : Cells) :
    refusedField t sh = refusedField s sh := by
  have htimer : ∀ k, timerOf t k = timerOf s k := fun k => by rw [timerOf, ht]; rfl
  have hlwb : ∀ w, lwbForbidden t w = lwbForbidden s w := fun w => by
    simp only [lwbForbidden, h.session, h.crb, h.clipOf_eq]
  simp only [refusedField, h.shadow, hl, htimer, hlwb]

theorem JudgedAlike.clamped_eq (hw : t.w = s.w) (off : Nat) (lanes : Lanes) (sh : Cells) :
    clamped t off lanes sh = clamped s off lanes sh := by
  have hspan : ∀ v, inSpan t v = inSpan s v := fun v => by rw [inSpan, h.shadow, hw]; rfl
  simp only [clamped, clampTo, hspan, hw]

end

theorem ringVerdict_congr {s t : State} (h1 : t.expSlot = s.expSlot) (h2 : t.expSeq = s.expSeq) (off : Nat) (a : Access) :
    ringVerdict t off a = ringVerdict s off a := by simp only [ringVerdict, h1, h2]

/-! ### A held access classified -/

theorem classifyHeld_idle {s : State} (h : ∀ a, s.held ≠ some ⟨a, none⟩) : classifyHeld s = s := by
  unfold classifyHeld
  split
  · exact absurd ‹_› (h _)
  · rfl

theorem classifyHeld_waits {s : State} {a : Access} (h : s.held = some ⟨a, none⟩) (hu : unclassified s a.addr = true) :
    classifyHeld s = s := by simp only [classifyHeld, h, hu, if_true]

theorem classifyHeld_serves {s : State} {a : Access} (h : s.held = some ⟨a, none⟩) (hu : unclassified s a.addr = false) :
    classifyHeld s = serve (arrivalOf a s) a s := by simp only [classifyHeld, h, hu, Bool.false_eq_true, if_false]

theorem classifyHeld_only (s : State) : ServiceOnly s (classifyHeld s) := by
  unfold classifyHeld
  split
  · split
    · rfl
    · exact serve_only _ _ s
  · rfl

/-- Behind its service and the grant, a held access stands as `Served` says, judged against the state that the step leaves. -/
theorem served_serve {a : Access} {r s t : State} (hj : JudgedAlike s t)
    (hi : t.expSlot = s.expSlot ∧ t.expSeq = s.expSeq) (hlock : t.lockout = s.lockout) (htimers : t.timers = s.timers)
    (hw : t.w = s.w) (hr : s.readData = r.readData)
    (ht : t.held = (serve (arrivalOf a s) a s).held ∧ t.done = (serve (arrivalOf a s) a s).done ∧
      t.readData = (serve (arrivalOf a s) a s).readData) : Served a r t := by
  obtain ⟨hheld, hdone, hdata⟩ := ht
  unfold Served
  rw [hj.arrivalOf_eq]
  refine ⟨fun hk => ?_, fun hk => ?_, fun off hk => ⟨fun hp => ?_, fun hp => ?_, fun hp => ?_⟩⟩
  · have hserve : serve (arrivalOf a s) a s = holdAs a .direct s := by rcases hk with hk | hk <;> rw [hk] <;> rfl
    rw [hheld, hdone, hserve]
    exact ⟨rfl, rfl⟩
  · unfold DoneAt
    rw [hheld, hdone, hdata]
    rcases hk with hk | ⟨c, hk⟩ <;> rw [hk] <;> simp [serve, raiseGuard, hr]
  · have hserve : serve (.shadowed off) a s = holdAs a (.shadowed off a.lanes .data) s := by simp [serve, judgeShadowed, hp]
    rw [hheld, hdone, hk, hserve]
    exact ⟨rfl, rfl⟩
  · have hserve : serve (.shadowed off) a s = holdAs a (.shadowed off a.lanes (ringVerdict s off a)) s := by
      simp [serve, judgeShadowed, hp]
    rw [hheld, hdone, hk, hserve, ringVerdict_congr hi.1 hi.2]
    exact ⟨rfl, rfl⟩
  · dsimp only
    rw [hj.shadow, hj.refusedField_eq hlock htimers, hj.clamped_eq hw]
    constructor
    · rintro ⟨f, hf⟩
      unfold DoneAt
      rw [hheld, hdone, hdata, hk]
      simp [serve, judgeShadowed, hp, hf, hr]
    · intro hf hc hl
      have hserve : serve (.shadowed off) a s = holdAs a (.shadowed off a.lanes .data) s := by
        simp [serve, judgeShadowed, hp, hf, acceptSetup_unclamped hc hl]
      rw [hheld, hdone, hk, hserve]
      exact ⟨rfl, rfl⟩

/-- What a classification reads of the blocks that it leaves alone. -/
structure StandsAlike (s t : State) : Prop where
  crb : t.crb = s.crb
  shadow : t.shadow = s.shadow
  clips : t.clips = s.clips
  expSlot : t.expSlot = s.expSlot
  expSeq : t.expSeq = s.expSeq
  lockout : t.lockout = s.lockout
  timers : t.timers = s.timers
  w : t.w = s.w

theorem ServiceOnly.standsAlike {s t : State} (h : ServiceOnly s t) : StandsAlike s t := by
  rw [h]
  exact ⟨rfl, rfl, rfl, rfl, rfl, rfl, rfl, rfl⟩

/-- A held access that nothing holds back is served at its classification, where no session is open. -/
theorem served_classifyHeld {a : Access} {q r t : State} (hheld : q.held = some ⟨a, none⟩)
    (hun : unclassified q a.addr = false) (hsession : q.session = none) (hst : StandsAlike q t) (hr : q.readData = r.readData)
    (ht : t.held = (classifyHeld q).held ∧ t.done = (classifyHeld q).done ∧ t.readData = (classifyHeld q).readData ∧
      t.session = (classifyHeld q).session) : Served a r t := by
  rw [classifyHeld_serves hheld hun] at ht
  obtain ⟨h1, h2, h3, h4⟩ := ht
  have hj : JudgedAlike q t := ⟨hst.crb, hst.shadow, (h4.trans (serve_session_none _ a hsession)).trans hsession.symm, hst.clips⟩
  exact served_serve hj ⟨hst.expSlot, hst.expSeq⟩ hst.lockout hst.timers hst.w hr ⟨h1, h2, h3⟩

end Sys2Proof.Machine
end

section
/-!
PROOF. The release of RST# (O8).
-/

namespace Sys2Proof.Machine

/-! ### The reset contents of the shadow -/

theorem readByte_unlisted {m : Cells} {a : Nat} (h : ∀ c ∈ m, c.1 ≠ a) : readByte m a = 0 := by
  induction m with
  | nil => rfl
  | cons c m ih =>
    obtain ⟨a', b⟩ := c
    rw [readByte, if_neg (h (a', b) (by simp))]
    exact ih (fun d hd => h d (by simp [hd]))

theorem readByte_append_left {m m' : Cells} {a : Nat} (h : ∀ c ∈ m', c.1 ≠ a) : readByte (m ++ m') a = readByte m a := by
  induction m with
  | nil => exact readByte_unlisted h
  | cons c m ih =>
    obtain ⟨a', b⟩ := c
    simp only [List.cons_append, readByte, ih]

theorem readByte_append_right {m m' : Cells} {a : Nat} (h : ∀ c ∈ m, c.1 ≠ a) : readByte (m ++ m') a = readByte m' a := by
  induction m with
  | nil => rfl
  | cons c m ih =>
    obtain ⟨a', b⟩ := c
    rw [List.cons_append, readByte, if_neg (h (a', b) (by simp))]
    exact ih (fun d hd => h d (by simp [hd]))

/-- The cells that a test of their addresses keeps read as they did. -/
theorem readByte_filter {p : Nat → Bool} {m : Cells} {a : Nat} (h : p a = true) :
    readByte (m.filter (fun c => p c.1)) a = readByte m a := by
  induction m with
  | nil => rfl
  | cons c m ih =>
    obtain ⟨a', b⟩ := c
    rw [List.filter_cons]
    by_cases ha : a' = a
    · subst ha
      simp [h, readByte]
    · split <;> simp [readByte, ha, ih]

theorem mem_deckCells {m : Cells} {c : Host.Cell} (h : c ∈ deckCells m) : 0x1000 ≤ c.1 ∧ c.1 < 0x5000 := by
  simpa [deckCells] using (List.mem_filter.mp h).2

section
variable (crb : Nat) (sh : Cells) {a : Nat}

theorem resetShadow_setup (h : a < 0x100) : readByte (defaultSetup crb ++ deckCells sh) a = readByte (defaultSetup crb) a :=
  readByte_append_left (fun c hc => by
    have := mem_deckCells hc
    omega)

theorem resetShadow_above (h : 0x100 ≤ a) : readByte (defaultSetup crb ++ deckCells sh) a = readByte (deckCells sh) a :=
  readByte_append_right (fun c hc => by
    have := defaultSetup_below crb c hc
    omega)

theorem resetShadow_deck (h1 : 0x1000 ≤ a) (h2 : a < 0x5000) :
    readByte (defaultSetup crb ++ deckCells sh) a = readByte sh a := by
  rw [resetShadow_above crb sh (by omega)]
  exact readByte_filter (p := fun x => decide (0x1000 ≤ x) && decide (x < 0x5000)) (by simp [h1, h2])

theorem resetShadow_ring (h : 0x5000 ≤ a) : readByte (defaultSetup crb ++ deckCells sh) a = 0 := by
  rw [resetShadow_above crb sh (by omega)]
  exact readByte_unlisted (fun c hc => by
    have := mem_deckCells hc
    omega)

/-- What the Lines block reads of the shadow lies in the Setup Block. -/
theorem defaultLines_resetShadow : DefaultLines (defaultSetup crb ++ deckCells sh) := by
  obtain ⟨hg, hp⟩ := defaultLines_defaultSetup crb
  have hbit : ∀ o i, o < 0x100 → bitAt (defaultSetup crb ++ deckCells sh) o i = bitAt (defaultSetup crb) o i := fun o i h => by
    rw [bitAt, resetShadow_setup crb sh h]
    rfl
  refine ⟨?_, fun n hn => ?_⟩
  · rw [← hg, glitch, byteAt, resetShadow_setup crb sh (by omega)]
    rfl
  · rw [← hp n hn]
    simp only [activeHigh, talkActiveHigh, lineActiveHigh]
    rw [hbit 3 1 (by omega), hbit _ 0 (by omega)]

end

/-! ### The kept clips (R4) -/

theorem bankGet_map_of_fixed {α : Type} {n : Nat} {f : α → α} {d : α} (hf : f d = d) (xs : Vector α n) (i : Nat) :
    bankGet (xs.map f) i d = f (bankGet xs i d) := by
  have h := bankGet_map f xs i d
  rwa [hf] at h

section
variable (straps : BitVec 4) (s : State)

theorem clipOf_releaseReset (c : Nat) :
    clipOf (releaseReset straps s) c = if underReset straps.toNat (clipOf s c) then ClipEntry.blank else clipOf s c :=
  bankGet_map_of_fixed (f := fun e => if underReset straps.toNat e then ClipEntry.blank else e) (ite_self _) s.clips c

theorem slotOf_releaseReset (k : Nat) :
    slotOf (releaseReset straps s) k =
      if (slotOf s k).state ≠ .free ∧ underReset straps.toNat (clipOf s (slotOf s k).clip) = true then HeadSlot.blank
      else slotOf s k := by
  have h := bankGet_map_of_fixed (d := HeadSlot.blank)
    (f := fun h => if h.state != .free && underReset straps.toNat (clipOf s h.clip) then HeadSlot.blank else h) rfl s.slots k
  refine Eq.trans h ?_
  simp only [slotOf, Bool.and_eq_true, bne_iff_ne]
  exact if_congr Iff.rfl rfl rfl

theorem lineOf_releaseReset (n : Nat) : lineOf (releaseReset straps s) n = Line.released (lineOf s n).high := bankGet_pinsKept s n

end

/-! ### The grant behind the release -/

/-- The sweep's first write goes to the port, or waits for it; nothing else changes but the offer. -/
theorem arbitrate_beginning {u : State} (hrst : u.rst = false) (hs : u.sweep = some 0) :
    ∃ o p, arbitrate u = { u with offer := o, port := p } ∧ ∀ x, u.port = some x → p = some x := by
  by_cases hport : u.port = none
  · exact ⟨_, _, arbitrate_sweeping hport hrst hs (sweepBlock_zero u), fun x hx => by simp [hport] at hx⟩
  · exact ⟨_, u.port, arbitrateAside_taken false u hport, fun x hx => hx⟩

theorem arrivalOf_not_shadowed {a : Access} {s : State} (h : inRegion s a.addr = false) (off : Nat) :
    arrivalOf a s ≠ .shadowed off := by
  intro hk
  simp only [arrivalOf, h, Bool.false_eq_true, if_false] at hk
  split_ifs at hk
  split at hk <;> cases hk

/-- A held access waits for the end of the sweep where it lies in the Control Region, and is classified at once where it does not; its
classification touches no write-back then (R18, R20). -/
theorem classifyHeld_sweeping {u : State} {i : Nat} (hs : u.sweep = some i) : (classifyHeld u).writeBacks = u.writeBacks := by
  unfold classifyHeld
  split
  · rename_i a ha
    split
    · rfl
    · rename_i hu
      have hin : inRegion u a.addr = false := (by simpa [unclassified, hs] using hu : _ ∧ _).2
      exact serve_writeBacks (arrivalOf_not_shadowed hin) a u
  · rfl

/-- The release leaves the clock, memory, the deck-clear flag and the controller's access as they were, and has the sweep begin. -/
theorem releaseReset_blocks (straps : BitVec 4) (s : State) :
    let r := releaseReset straps s
    r.rst = false ∧ r.crb = straps.toNat ∧ r.sweep = some 0 ∧ r.deckClear = s.deckClear ∧ r.expSlot = 0 ∧ r.expSeq = 1 ∧ r.lastSeq = 0 ∧
      r.results = [] ∧ r.writeBacks = [] ∧ r.frameCounter = 0 ∧ r.clock = s.clock ∧ r.mem = s.mem ∧ r.held = s.held ∧ r.done = s.done ∧
      r.readData = s.readData ∧ r.session = s.session :=
  ⟨rfl, rfl, rfl, rfl, rfl, rfl, rfl, rfl, rfl, rfl, rfl, rfl, rfl, rfl, rfl, rfl⟩

/-- The state behind the release: the reset contents, the lines as the new shadow has them start, the service of a held access, and the
sweep's first write at a free port. -/
theorem exec_release {straps : BitVec 4} {s : State} (hrst : s.rst = true) :
    ∃ ls o p, let u := classifyHeld { releaseReset straps s with lines := ls }
      (∀ n, n < 10 → bankGet ls n (Line.released false) = startedLine (lineOf s n).high) ∧
      exec (.rstRelease straps) s = .next { u with offer := o, port := p } ∧ ∀ x, s.port = some x → p = some x := by
  have hexec : exec (.rstRelease straps) s = .next (arbitrate (classifyHeld (startLines (releaseReset straps s)))) := if_pos hrst
  obtain ⟨hstart, hlines⟩ := startLines_reset (s := releaseReset straps s) (defaultLines_resetShadow straps.toNat s.shadow)
    (fun n _ => lineOf_releaseReset straps s n)
  rw [hstart] at hexec
  change ∀ n, n < 10 → bankGet (startLines (releaseReset straps s)).lines n (Line.released false) = _ at hlines
  clear hstart
  generalize (startLines (releaseReset straps s)).lines = ls at *
  have hu := classifyHeld_only { releaseReset straps s with lines := ls }
  obtain ⟨o, p, hp, hx⟩ := arbitrate_beginning (u := classifyHeld { releaseReset straps s with lines := ls })
    (by rw [hu]; rfl) (by rw [hu]; rfl)
  refine ⟨_, o, p, hlines, hexec.trans (by rw [hp]), fun x h => hx x ?_⟩
  rw [hu]
  exact h

/-- Settles O8: the blocks of the release are read off, and the held access goes by its classification, before the sweep's first grant. -/
theorem resetReleaseTakesResetContents : Obligations.ResetReleaseTakesResetContents := by
  intro straps s hrst
  obtain ⟨ls, o, p, hlines, hexec, hport⟩ := exec_release (straps := straps) hrst
  have hsetup := fun a => resetShadow_setup straps.toNat s.shadow (a := a)
  have hdeck := fun a => resetShadow_deck straps.toNat s.shadow (a := a)
  have hring := fun a => resetShadow_ring straps.toNat s.shadow (a := a)
  have hclips := clipOf_releaseReset straps s
  have hslots := slotOf_releaseReset straps s
  have hshadow : (releaseReset straps s).shadow = defaultSetup straps.toNat ++ deckCells s.shadow := rfl
  have howed : (releaseReset straps s).owed = s.owed ++ ((List.range 128).filter (fun c => underReset straps.toNat (clipOf s c))).map
      (fun c => ⟨c, 2, (clipOf s c).base⟩) := rfl
  obtain ⟨hrst', hcrb, hsweep, hdeckClear, hslot, hseq, hlast, hresults, hback, hcounter, hclock, hmem, haccess, hdone, hread,
    hsession⟩ := releaseReset_blocks straps s
  generalize releaseReset straps s = r at *
  dsimp only at hexec
  have hu := classifyHeld_only { r with lines := ls }
  have hwb := classifyHeld_sweeping (u := { r with lines := ls }) (i := 0) hsweep
  have hheld : ∀ a, s.held = some ⟨a, none⟩ → { r with lines := ls }.held = some ⟨a, none⟩ := fun a ha => haccess.trans ha
  have hidle := fun h : ∀ a, s.held ≠ some ⟨a, none⟩ => classifyHeld_idle (s := { r with lines := ls }) (by rw [haccess]; exact h)
  have hwaits := fun a ha hin => classifyHeld_waits (s := { r with lines := ls }) (a := a) (hheld a ha) hin
  have hst := hu.standsAlike
  have hserved := fun a ha hin hs => served_classifyHeld (a := a) (q := { r with lines := ls }) (r := s)
    (t := { classifyHeld { r with lines := ls } with offer := o, port := p }) (hheld a ha) hin hs
    ⟨hst.crb, hst.shadow, hst.clips, hst.expSlot, hst.expSeq, hst.lockout, hst.timers, hst.w⟩ hread ⟨rfl, rfl, rfl, rfl⟩
  refine ⟨_, hexec, ?_⟩
  generalize classifyHeld { r with lines := ls } = u at *
  rw [hu]
  refine ⟨hrst', hcrb, ?_, ?_, ?_, hsweep, hdeckClear, hslot, hseq, hlast, hresults, hwb.trans hback, hcounter, hclock, ?_, hclips,
    hslots, howed, ?_, ?_, hport, hlines⟩
  · exact fun a ha => (congrArg (readByte · a) hshadow).trans (hsetup a ha)
  · exact fun a h h' => (congrArg (readByte · a) hshadow).trans (hdeck a h h')
  · exact fun a h _ => (congrArg (readByte · a) hshadow).trans (hring a h)
  · exact fun a => congrArg (readByte · a) hmem
  · intro a ha hsess
    have hun : unclassified { r with lines := ls } a.addr = inRegion r a.addr := by
      simp only [unclassified, hrst', hsweep, Option.isSome_some, Bool.true_and, Bool.false_or]
      rfl
    refine ⟨fun hin => ?_, fun hin => ?_⟩
    · rw [hwaits a ha (hun.trans hin)]
      exact ⟨haccess, hdone⟩
    · rw [← hu]
      exact hserved a ha (hun.trans hin) (hsession.trans hsess)
  · intro h
    simp only [Same, Kept]
    rw [hidle h]
    exact ⟨haccess, hdone, hread⟩

end Sys2Proof.Machine
end

section
/-!
PROOF. The writes of the sweep before its last (O9): what a write of the part leaves (R24), and who is granted the port behind one (R18).
-/

namespace Sys2Proof.Machine

/-! ### A write of the part ends -/

/-- A write into the Control Region reaches memory at its address, and the shadow at its offset where the word is shadowed; one that a
reset met reaches the shadow under RST# alone (R24, R33). -/
theorem partWrite_region (off : Nat) (bytes : List Byte) (orphan : Bool) (s : State) :
    partWrite (regionAddr s off) bytes orphan s = { s with
      port := none
      mem := writeBytes s.mem (regionAddr s off) bytes
      shadow := if off < 0x5400 ∧ (orphan = true → s.rst = true) then writeBytes s.shadow off bytes else s.shadow } := by
  have hoff : regionAddr s off - regionBase s.crb = off := by simp [regionAddr]
  have hle : regionBase s.crb ≤ regionAddr s off := by simp [regionAddr]
  unfold partWrite portFree
  simp only [hoff, hle, decide_true, Bool.true_and]
  congr 1
  cases orphan <;> simp

section
variable {s : State} (hs : MemoryForm s) (off : Nat) (bytes : List Byte) (orphan : Bool)
include hs

theorem partWrite_mem (addr : Nat) : BytesWritten addr bytes s.mem (partWrite addr bytes orphan s).mem :=
  bytesWritten_writeBytes bytes s.mem addr hs.1

theorem partWrite_shadow (hoff : off < 0x5400) (ho : orphan = true → s.rst = true) :
    BytesWritten off bytes s.shadow (partWrite (regionAddr s off) bytes orphan s).shadow := by
  rw [partWrite_region]
  dsimp only
  rw [if_pos ⟨hoff, ho⟩]
  exact bytesWritten_writeBytes bytes s.shadow off hs.2

omit hs in
theorem partWrite_shadow_of_above (hoff : 0x5400 ≤ off) :
    (partWrite (regionAddr s off) bytes orphan s).shadow = s.shadow := by
  rw [partWrite_region]
  exact if_neg (by omega)

end

/-- The frame of a write of the part that ends: memory, shadow, the port, and what the part does behind it. -/
theorem unchangedBut_partWrite {extra : List Part} {off : Nat} {bytes : List Byte} {orphan : Bool} {s u : State} (aside : Bool)
    (h : u = { partWrite (regionAddr s off) bytes orphan s with
      sweep := u.sweep, results := u.results, mirrorFlags := u.mirrorFlags, mirrorAgain := u.mirrorAgain, attn := u.attn,
      boardCount := u.boardCount, boardCopy := u.boardCopy })
    (hsweep : .sweep ∈ extra ∨ u.sweep = s.sweep) (hresults : .results ∈ extra ∨ u.results = s.results)
    (hmirror : .mirror ∈ extra ∨ u.mirrorFlags = s.mirrorFlags ∧ u.mirrorAgain = s.mirrorAgain)
    (hring : .ring ∈ extra ∨ u.attn = s.attn) (hinterval : .interval ∈ extra ∨ u.boardCount = s.boardCount)
    (hcopy : .copy ∈ extra ∨ u.boardCopy = s.boardCopy) :
    unchangedBut ([.port, .mem, .shadow] ++ extra) s (arbitrateAside aside u) := by
  have hport : u.port = none := by
    rw [h]
    rfl
  refine unchangedBut_arbitrate aside (fun p hp => ?_) (by simp [hport])
  obtain ⟨hpp, hpm, hps, hpe⟩ : p ≠ .port ∧ p ≠ .mem ∧ p ≠ .shadow ∧ p ∉ extra := by
    simpa [not_or] using hp
  cases p
  case port => contradiction
  case mem => contradiction
  case shadow => contradiction
  case stale =>
    intro b _ hb
    exact absurd (hport.symm.trans hb) (by simp)
  case sweep => exact ⟨hsweep.resolve_left hpe, by rw [h]; rfl⟩
  case results => exact hresults.resolve_left hpe
  case mirror => exact hmirror.resolve_left hpe
  case ring => exact ⟨by rw [h]; rfl, hring.resolve_left hpe⟩
  case interval => exact hinterval.resolve_left hpe
  case copy => exact hcopy.resolve_left hpe
  all_goals
    rw [h, partWrite_region]
    simp [Same, Kept, servedVoice, writeBacksLeft, voiceOf, marksLeft]

/-! ### The grant while the sweep runs -/

/-- The Report Writer presents nothing while the sweep runs (R35). -/
theorem reportRequest_sweeping {s : State} {i : Nat} (h : s.sweep = some i) : reportRequest s = none := by
  simp [reportRequest, h]

/-- Urgency is a matter of the voices alone. -/
theorem fetchUrgent_congr {s t : State} (h : t.voices = s.voices) : fetchUrgent t = fetchUrgent s := by
  have hv : ∀ v, voiceOf t v = voiceOf s v := fun v => by rw [voiceOf, h]; rfl
  have hless : fetchLess t = fetchLess s := by
    funext v w
    simp only [fetchLess, hv]
  have hreq : requesters t = requesters s := by simp only [requesters, hv]
  simp only [fetchUrgent, fetchRequest, hless, hreq]
  cases bestOf (fetchLess s) (requesters s) with
  | some v => simp only [hv]
  | none => cases s.offer <;> cases t.offer <;> rfl

/-- While the sweep runs it stands before the Fetcher and the controller, and the Report Writer presents nothing. -/
theorem requestsPresent_sweeping {s : State} {i : Nat} (h : s.sweep = some i) :
    requestsPresent s = .sweep i :: ((if fetchUrgent s then (fetchRequest s).map Requester.fetcher else none).toList
      ++ (if controllerRequests s then [.controller] else [])
      ++ (if fetchUrgent s then none else (fetchRequest s).map Requester.fetcher).toList) := by
  simp [requestsPresent, h, reportRequest_sweeping h]

/-- A free port behind a write of the sweep goes to the controller, where it has an access and no voice is urgent (R18). -/
theorem arbitrateAside_controller {u : State} {i : Nat} (hport : u.port = none) (hrst : u.rst = false) (hs : u.sweep = some i)
    (hf : fetchUrgent u = false) (hc : controllerRequests u = true) : (arbitrateAside true u).port = some .controller := by
  have hr := refreshOffer_only u
  have hf' : fetchUrgent (refreshOffer u) = false := (fetchUrgent_congr (by rw [hr])).trans hf
  have hc' : controllerRequests (refreshOffer u) = true := by rw [hr]; exact hc
  have hreq := requestsPresent_sweeping (s := refreshOffer u) (i := i) (by rw [hr]; exact hs)
  have hfree : ((refreshOffer u).port.isSome || (refreshOffer u).rst) = false := by
    rw [hr]
    simp [hport, hrst]
  simp only [arbitrateAside, hfree, Bool.false_eq_true, if_false, hreq, hf', hc']
  simp [chosen, isSweep, grant]

/-- With nothing else present the sweep goes on at once. -/
theorem arbitrateAside_alone {u : State} {i off : Nat} {bytes : List Byte} (hport : u.port = none) (hrst : u.rst = false)
    (hs : u.sweep = some i) (hb : sweepBlock u i = some (off, bytes)) (hc : controllerRequests u = false)
    (hv : ∀ v, requests (voiceOf u v) = false) (hk : ∀ k, slotFilling u k = false) :
    (arbitrateAside true u).port = some (.sweep (regionAddr u off) bytes false) := by
  have hr := refreshOffer_only u
  have hnone : fetchRequest (refreshOffer u) = none := by
    have hreq : requesters (refreshOffer u) = [] := by
      rw [hr]
      simp [requesters, indices, voiceOf] at hv ⊢
      simp [hv]
    simp [fetchRequest, hreq, bestOf, refreshOffer_none (fun k _ => hk k) (fun k _ => hk k)]
  have hc' : controllerRequests (refreshOffer u) = false := by rw [hr]; exact hc
  have hb' : sweepBlock (refreshOffer u) i = some (off, bytes) := by rw [hr]; exact hb
  have hreq := requestsPresent_sweeping (s := refreshOffer u) (i := i) (by rw [hr]; exact hs)
  have hfree : ((refreshOffer u).port.isSome || (refreshOffer u).rst) = false := by
    rw [hr]
    simp [hport, hrst]
  simp only [arbitrateAside, hfree, Bool.false_eq_true, if_false, hreq, hnone, hc', Option.map_none, ite_self]
  simp [chosen, isSweep, grant, grantSweep, hb']
  rw [hr]
  rfl

/-! ### A write of the sweep -/

theorem exec_sweepWrite {s : State} {i addr : Nat} {bytes : List Byte} (hs : s.sweep = some i)
    (hport : s.port = some (.sweep addr bytes false)) (hb : (sweepBlock s (i + 1)).isSome = true) :
    exec .sweepWrite s = .next (arbitrateAside true { partWrite addr bytes false s with sweep := some (i + 1) }) := by
  have hb' : (sweepBlock (partWrite addr bytes false s) (i + 1)).isSome = true := hb
  have hs' : (partWrite addr bytes false s).sweep = some i := hs
  change execSweepWrite s = _
  simp only [execSweepWrite, hport, Bool.false_eq_true, if_false, sweepWriteEnds, hs', hb', if_true]

end Sys2Proof.Machine

namespace Sys2Proof
open Machine

/-- Settles O9: the block's write, and the grant that stands aside for the controller. -/
theorem sweepWriteEnds : Obligations.SweepWriteEnds := by
  intro s i off off' bytes bytes' hform hs hport hnext
  refine ⟨_, exec_sweepWrite hs hport (by rw [hnext]; rfl), ?_⟩
  have hmem := partWrite_mem hform bytes false (regionAddr s off)
  have hshadow := fun h => partWrite_shadow hform off bytes false h (by simp)
  have habove := partWrite_shadow_of_above (s := s) off bytes false
  have hframe := unchangedBut_partWrite (extra := [.sweep]) (off := off) (bytes := bytes) (orphan := false) (s := s)
    (u := { partWrite (regionAddr s off) bytes false s with sweep := some (i + 1) }) true rfl
    (.inl (by simp)) (.inr rfl) (.inr ⟨rfl, rfl⟩) (.inr rfl) (.inr rfl) (.inr rfl)
  set u := { partWrite (regionAddr s off) bytes false s with sweep := some (i + 1) } with hu
  have hcells := arbitrateAside_sameCells true u
  have hu' : unchangedBut [] u (arbitrateAside true u) := unchangedBut_arbitrate true (fun p _ => same_refl p u) (by simp)
  obtain ⟨hsweep, hdeck⟩ := hu' .sweep (by simp)
  refine ⟨hsweep, hdeck, ?_, fun h => ?_, fun h a => ?_, fun hrst hf hc => ?_, fun hrst hc hv hk => ?_,
    unchangedBut_mono (by simp) (by simp) hframe⟩
  · rw [hcells.1]
    exact hmem
  · rw [hcells.2]
    exact hshadow h
  · rw [hcells.2]
    exact congrArg (readByte · a) (habove h)
  · exact arbitrateAside_controller rfl hrst rfl ((fetchUrgent_congr rfl).trans hf) hc
  · exact arbitrateAside_alone (u := u) rfl hrst rfl hnext hc hv hk

end Sys2Proof
end

section
/-!
PROOF. The end of the sweep (O10): its first event goes into the empty queue, the CLIP_EMPTY events owed go behind it, and what the
classification of a held access raises goes behind those.
-/

namespace Sys2Proof.Machine

/-! ### Events that take no merge -/

/-- Where no record in the queue is of a merging kind, whatever is raised goes behind them all. -/
theorem raiseEvent_prefix_of_unmerged {s : State} (h : ∀ r ∈ s.queue, r.kind.merges = false) (k : EventKind) (a b : Nat) (value : Word) :
    s.queue <+: (raiseEvent k a b value s).queue := by
  cases hk : k.merges with
  | false => exact raiseEvent_queue_prefix hk a b value s
  | true =>
    have hnew : ∀ r ∈ (splitQueue s).2, sameSubject k (BitVec.ofNat 16 a) r = false := fun r hr => by
      have hmem : r ∈ s.queue := by
        unfold splitQueue at hr
        split at hr
        · exact List.mem_of_mem_drop hr
        · exact hr
      have hne : r.kind ≠ k := fun e => by
        have := h r hmem
        rw [e, hk] at this
        cases this
      simp [sameSubject, hne]
    have hany : (splitQueue s).2.any (sameSubject k (BitVec.ofNat 16 a)) = false := by
      rw [List.any_eq_false]
      exact fun r hr => by simp [hnew r hr]
    simp only [raiseEvent, hany, Bool.and_false, Bool.false_eq_true, if_false]
    split_ifs <;> simp [loseEvent, appendEvent]

theorem serve_prefix_of_unmerged {s : State} (h : ∀ r ∈ s.queue, r.kind.merges = false) (k : Arrival) (a : Access) :
    s.queue <+: (serve k a s).queue := by
  have hraise : ∀ e x y w, s.queue <+: (accessDone (raiseEvent e x y w s)).queue := fun e x y w =>
    raiseEvent_prefix_of_unmerged h e x y w
  have hrefl := List.prefix_refl s.queue
  cases k with
  | plain => exact hrefl
  | regionRead => exact hrefl
  | report => exact hraise _ _ _ _
  | extent c => exact hraise _ _ _ _
  | shadowed off =>
    simp only [serve, judgeShadowed]
    split
    · split
      · exact hraise _ _ _ _
      · unfold acceptSetup
        extract_lets cs s1 lanes
        have h1 : s1.queue = s.queue := by
          simp only [s1]
          rw [handWriteBacks_only]
        clear_value s1
        split <;> exact h1 ▸ List.prefix_refl _
    · exact hrefl
    · exact hrefl
  | loadWrite off =>
    simp only [serve]
    split
    · unfold judgeLoad
      split
      · exact hraise _ _ _ _
      · split
        · exact hraise _ _ _ _
        · exact hrefl
    · exact hrefl
  | verify off =>
    simp only [serve]
    split
    · simp only [judgeVerify]
      split <;> exact hrefl
    · exact hrefl

theorem classifyHeld_prefix_of_unmerged {s : State} (h : ∀ r ∈ s.queue, r.kind.merges = false) :
    s.queue <+: (classifyHeld s).queue := by
  unfold classifyHeld
  split
  · split
    · exact List.prefix_refl _
    · exact serve_prefix_of_unmerged h _ _
  · exact List.prefix_refl _

/-! ### A run of CLIP_EMPTY events (R75) -/

/-- The record of a CLIP_EMPTY that is owed. -/
def emptyRecord (seq : BitVec 16) (stamp : BitVec 32) (o : OwedEmpty) : EventRecord :=
  ⟨seq, .clipEmpty, 0, stamp, BitVec.ofNat 16 o.clip, BitVec.ofNat 16 o.cause, BitVec.ofNat 32 o.base⟩

/-- The CLIP_EMPTY events of a list are raised in turn. -/
def raiseRun (os : List OwedEmpty) (s : State) : State :=
  os.foldl (fun t o => raiseEvent .clipEmpty o.clip o.cause (BitVec.ofNat 32 o.base) t) s

theorem raiseRun_only (os : List OwedEmpty) (s : State) :
    raiseRun os s = { s with queue := (raiseRun os s).queue, lost := (raiseRun os s).lost, nextSeq := (raiseRun os s).nextSeq } := by
  induction os generalizing s with
  | nil => rfl
  | cons o os ih =>
    have hcons : raiseRun (o :: os) s = raiseRun os (raiseEvent .clipEmpty o.clip o.cause (BitVec.ofNat 32 o.base) s) := rfl
    have hrun := ih (raiseEvent .clipEmpty o.clip o.cause (BitVec.ofNat 32 o.base) s)
    rw [hcons]
    generalize raiseRun os (raiseEvent .clipEmpty o.clip o.cause (BitVec.ofNat 32 o.base) s) = t at *
    rw [raiseEvent_only] at hrun
    exact hrun

/-- A CLIP_EMPTY goes behind the queue while there is room, and is counted as lost where there is none (R173, R174). -/
theorem raise_clipEmpty {s : State} (hrst : s.rst = false) (hs : s.sweep = none) (o : OwedEmpty) :
    raiseEvent .clipEmpty o.clip o.cause (BitVec.ofNat 32 o.base) s =
      if s.queue.length < 16 then
        { s with queue := s.queue ++ [emptyRecord s.nextSeq s.frameCounter o], nextSeq := s.nextSeq + 1 }
      else { s with lost := min 65535 (s.lost + 1) } := by
  unfold raiseEvent
  rw [if_neg (by simp [hrst]), if_neg (by simp [hs])]
  simp only [EventKind.merges, Bool.false_and, Bool.false_eq_true, if_false]
  rfl

/-- What a run leaves of the queue: its events in turn behind what stood there, with consecutive sequence numbers, as far as the queue
holds them; the others are counted as lost. -/
theorem raiseRun_queue (os : List OwedEmpty) {s : State} (hrst : s.rst = false) (hs : s.sweep = none) (hq : s.queue.length ≤ 16)
    (hlost : s.lost ≤ 65535) :
    s.queue <+: (raiseRun os s).queue ∧ (raiseRun os s).queue.length = min 16 (s.queue.length + os.length) ∧
      (raiseRun os s).lost = min 65535 (s.lost + (s.queue.length + os.length - 16)) ∧
      (∀ r ∈ (raiseRun os s).queue, r ∈ s.queue ∨ r.kind = .clipEmpty) ∧
      ∀ j o, s.queue.length + j < 16 → os[j]? = some o →
        (raiseRun os s).queue[s.queue.length + j]? = some (emptyRecord (s.nextSeq + BitVec.ofNat 16 j) s.frameCounter o) := by
  induction os generalizing s with
  | nil =>
    refine ⟨List.prefix_refl _, ?_, ?_, fun r hr => .inl hr, fun j o _ h => by simp at h⟩
    · change s.queue.length = _
      simp [hq]
    · change s.lost = _
      simp only [List.length_nil]
      omega
  | cons o os ih =>
    change s.queue <+: (raiseRun os (raiseEvent _ _ _ _ s)).queue ∧ (raiseRun os (raiseEvent _ _ _ _ s)).queue.length = _ ∧
      (raiseRun os (raiseEvent _ _ _ _ s)).lost = _ ∧ (∀ r ∈ (raiseRun os (raiseEvent _ _ _ _ s)).queue, _) ∧
      ∀ j o', _ → _ → (raiseRun os (raiseEvent _ _ _ _ s)).queue[_]? = _
    rw [raise_clipEmpty hrst hs]
    by_cases hroom : s.queue.length < 16
    · rw [if_pos hroom]
      obtain ⟨hp, hl, hc, hr, hj⟩ := ih (s := { s with
        queue := s.queue ++ [emptyRecord s.nextSeq s.frameCounter o], nextSeq := s.nextSeq + 1 }) hrst hs (by simpa using hroom) hlost
      dsimp only at hp hl hc hr hj
      rw [List.length_append, List.length_singleton] at hl hc hj
      refine ⟨(List.prefix_append _ _).trans hp, ?_, ?_, fun r hmem => ?_, fun j o' h hget => ?_⟩
      · rw [hl, List.length_cons]
        omega
      · rw [hc, List.length_cons]
        omega
      · rcases hr r hmem with h | h
        · rcases List.mem_append.mp h with h | h
          · exact .inl h
          · rw [List.mem_singleton.mp h]
            exact .inr rfl
        · exact .inr h
      · cases j with
        | zero =>
          simp only [List.getElem?_cons_zero, Option.some.injEq] at hget
          obtain ⟨l, hl⟩ := hp
          rw [← hl]
          simp [hget, emptyRecord]
        | succ j =>
          have := hj j o' (by omega) (by simpa using hget)
          have hseq : s.nextSeq + 1 + BitVec.ofNat 16 j = s.nextSeq + BitVec.ofNat 16 (j + 1) := by
            rw [BitVec.add_assoc, Nat.add_comm j, BitVec.ofNat_add]
            rfl
          rw [show s.queue.length + (j + 1) = s.queue.length + 1 + j by omega, this, hseq]
    · rw [if_neg hroom]
      obtain ⟨hp, hl, hc, hr, hj⟩ := ih (s := { s with lost := min 65535 (s.lost + 1) }) hrst hs hq (Nat.min_le_left _ _)
      dsimp only at hp hl hc hr hj
      refine ⟨hp, ?_, ?_, hr, fun j o' h => by omega⟩
      · rw [hl, List.length_cons]
        omega
      · rw [hc, List.length_cons]
        omega

/-! ### The Report Writer's grant -/

/-- A report write among the requests is the one that the Report Writer presents. -/
theorem reportRequest_of_mem {s : State} {k : ReportKind} (h : Requester.report k ∈ requestsPresent s) : reportRequest s = some k := by
  simp only [requestsPresent, List.mem_append, Option.mem_toList] at h
  rcases h with ((((h | h) | h) | h) | h) | h
  · simp at h
  · split at h <;> simp at h
  · split at h
    · simpa using h
    · cases h
  · split at h <;> simp at h
  · split at h <;> simp at h
  · split at h
    · cases h
    · simpa using h

/-- A report write that a grant puts on a free port is the one presented. -/
theorem arbitrate_report {u : State} (hport : u.port = none) {k : ReportKind} {a : Nat} {bs : List Byte} {o : Bool}
    (h : (arbitrate u).port = some (.report k a bs o)) : reportRequest u = some k := by
  have hr := refreshOffer_only u
  have hfree : (refreshOffer u).port = none := by rw [hr]; exact hport
  have hreq : reportRequest (refreshOffer u) = reportRequest u := by
    rw [hr]
    rfl
  clear hr
  simp only [arbitrate, arbitrateAside] at h
  split at h
  · simp [hfree] at h
  · split at h
    · rename_i r hchosen
      rcases r with i | (v | k') | k' | _
      · simp only [grant, grantSweep] at h
        split at h <;> simp [hfree] at h
      · simp [grant, grantVoice] at h
      · simp [grant, grantFill] at h
      · obtain ⟨rfl, -⟩ : k' = k ∧ _ := by simpa [grant, grantReport] using h
        exact hreq ▸ reportRequest_of_mem (chosen_mem hchosen)
      · simp [grant] at h
    · simp [hfree] at h

theorem boardWrite_board {s : State} {k : ReportKind} (h : boardWrite s = some k) : ∃ v q, k = .board v q := by
  unfold boardWrite at h
  split at h
  · exact ⟨_, _, (Option.some.inj h).symm⟩
  · obtain ⟨v, -, hv⟩ := Option.map_eq_some_iff.mp h
    exact ⟨v, 0, hv.symm⟩

/-- A Status Block write presented is that of the lowest block marked (R177). -/
theorem lowestMark_of_reportRequest {s : State} {i : Nat} (h : reportRequest s = some (.status i)) : lowestMark s = some i := by
  unfold reportRequest at h
  split at h
  · cases h
  split at h
  · cases h
  split at h
  · cases h
  split at h
  · cases h
  split at h
  · cases h
  split at h
  · simp_all
  split at h
  · cases h
  · obtain ⟨v, q, hk⟩ := boardWrite_board h
    cases hk

/-- With every block of the Status Block marked, the grant takes the mark of block 0 alone (R179). -/
theorem arbitrate_marks {u : State} (hport : u.port = none) (hm : u.marks = Vector.replicate 5 true) {j : Nat} (h1 : 1 ≤ j) (h5 : j < 5) :
    bankGet (arbitrate u).marks j false = true := by
  have hall : ∀ i, i < 5 → bankGet u.marks i false = true := fun i hi => by simp [bankGet, hm, hi]
  have hmarks := arbitrate_frame u .marks (by simp)
  simp only [granted, hport, true_or, if_true, Kept] at hmarks
  rw [hmarks]
  unfold marksLeft
  split
  · rename_i i a bs o hg
    have hlow : lowestMark u = some 0 := by
      simp [lowestMark, indices, List.range_succ_eq_map, hall]
    have hi : i = 0 := by
      have hi := lowestMark_of_reportRequest (arbitrate_report hport hg)
      rw [hlow] at hi
      exact (Option.some.inj hi).symm
    rw [bankGet_bankSet, if_neg (by omega)]
    exact hall j h5
  · exact hall j h5

/-! ### The end of the sweep -/

theorem exec_lastSweepWrite {s : State} {i addr : Nat} {bytes : List Byte} (hs : s.sweep = some i)
    (hport : s.port = some (.sweep addr bytes false)) (hb : sweepBlock s (i + 1) = none) :
    exec .sweepWrite s = .next (arbitrate (endSweep (partWrite addr bytes false s))) := by
  have hb' : (sweepBlock (partWrite addr bytes false s) (i + 1)).isSome = false := by
    change (sweepBlock s (i + 1)).isSome = false
    rw [hb]
    rfl
  have hs' : (partWrite addr bytes false s).sweep = some i := hs
  change execSweepWrite s = _
  simp only [execSweepWrite, hport, Bool.false_eq_true, if_false, sweepWriteEnds, hs', hb']

/-- The CLIP_EMPTY events owed, lowest clip number first. -/
def owedRun (s : State) : List OwedEmpty := (List.range 128).flatMap (fun c => s.owed.filter (fun o => o.clip == c))

/-- The first record of the run (R36). -/
def firstRecord (s : State) : EventRecord :=
  ⟨s.nextSeq, if s.deckClear then .powerUp else .lineReset, 0, s.frameCounter, BitVec.ofNat 16 s.crb, BitVec.ofNat 16 (storedClips s), 0⟩

/-- The part as the sweep's end leaves it before a held access is classified: the first event of the run in the empty queue, then the
CLIP_EMPTY events owed. -/
def sweepEnded (s : State) : State :=
  raiseRun (owedRun s) { s with
    sweep := none, deckClear := false, owed := [], marks := Vector.replicate 5 true, nextSeq := s.nextSeq + 1
    queue := [firstRecord s] }

theorem endSweep_eq {s : State} (hrst : s.rst = false) (hq : s.queue = []) : endSweep s = classifyHeld (sweepEnded s) := by
  have hraise : ∀ k : EventKind, k.merges = false → raiseEvent k s.crb (storedClips s) 0 { s with sweep := none, deckClear := false } =
      { s with
        sweep := none, deckClear := false, nextSeq := s.nextSeq + 1
        queue := [⟨s.nextSeq, k, 0, s.frameCounter, BitVec.ofNat 16 s.crb, BitVec.ofNat 16 (storedClips s), 0⟩] } := fun k hk => by
    unfold raiseEvent
    rw [if_neg (by simp [hrst]), if_neg (by simp), hk]
    simp [hq, appendEvent, Config.queueCapacity]
  have hkind : (if s.deckClear then EventKind.powerUp else .lineReset).merges = false := by split <;> rfl
  unfold endSweep
  extract_lets kind s1
  rw [hraise kind hkind]
  rfl

theorem sweepEnded_queue {s : State} (hrst : s.rst = false) (hlost : s.lost ≤ 65535) :
    (sweepEnded s).queue.head? = some (firstRecord s) ∧ (sweepEnded s).queue.length = 1 + min 15 (owedRun s).length ∧
      (sweepEnded s).lost = min 65535 (s.lost + ((owedRun s).length - 15)) ∧
      (∀ r ∈ (sweepEnded s).queue, r.kind.merges = false) ∧
      ∀ j o, j < 15 → (owedRun s)[j]? = some o →
        (sweepEnded s).queue[j + 1]? = some (emptyRecord (s.nextSeq + BitVec.ofNat 16 (j + 1)) s.frameCounter o) := by
  obtain ⟨⟨l, hp⟩, hl, hc, hr, hj⟩ := raiseRun_queue (owedRun s) (s := { s with
    sweep := none, deckClear := false, owed := [], marks := Vector.replicate 5 true, nextSeq := s.nextSeq + 1
    queue := [firstRecord s] }) hrst rfl (by simp) hlost
  change _ = (sweepEnded s).queue at hp
  change (sweepEnded s).queue.length = min 16 (1 + _) at hl
  change (sweepEnded s).lost = min 65535 (s.lost + (1 + _ - 16)) at hc
  refine ⟨by rw [← hp]; rfl, by omega, by rw [hc]; congr 2; omega, fun r hmem => ?_, fun j o hlt hget => ?_⟩
  · rcases hr r hmem with h | h
    · rw [List.mem_singleton.mp h]
      simp only [firstRecord]
      split <;> rfl
    · rw [h]
      rfl
  · have hseq : s.nextSeq + 1 + BitVec.ofNat 16 j = s.nextSeq + BitVec.ofNat 16 (j + 1) := by
      rw [BitVec.add_assoc, Nat.add_comm j, BitVec.ofNat_add]
      rfl
    have := hj j o (by simp; omega) hget
    rw [Nat.add_comm j 1]
    refine this.trans ?_
    dsimp only
    rw [hseq, Nat.add_comm j 1]

/-- What the sweep's end leaves but for the queue. -/
theorem sweepEnded_only (s : State) :
    sweepEnded s = { s with
      sweep := none, deckClear := false, owed := [], marks := Vector.replicate 5 true
      queue := (sweepEnded s).queue, lost := (sweepEnded s).lost, nextSeq := (sweepEnded s).nextSeq } := raiseRun_only _ _

end Sys2Proof.Machine

namespace Sys2Proof
open Machine

/-- Settles O10: the run of events in the empty queue, and the held access classified behind it. -/
theorem sweepEndRaisesFirstEvent : Obligations.SweepEndRaisesFirstEvent := by
  intro s i off bytes hform hqueue hrst hs hport hlast
  refine ⟨_, exec_lastSweepWrite hs hport hlast, ?_⟩
  obtain ⟨-, -, hlost, hempty⟩ := hqueue
  obtain ⟨hq, -⟩ := hempty (.inr (by rw [hs]; rfl))
  have hmem := partWrite_mem hform bytes false (regionAddr s off)
  have hshadow := fun h => partWrite_shadow hform off bytes false h (by simp)
  have habove := partWrite_shadow_of_above (s := s) off bytes false
  rw [endSweep_eq (s := partWrite (regionAddr s off) bytes false s) hrst hq]
  have hw := partWrite_region off bytes false s
  generalize partWrite (regionAddr s off) bytes false s = w at *
  have hwrst : w.rst = false := by rw [hw]; exact hrst
  have hwlost : w.lost = s.lost := by rw [hw]
  have hrun : owedRun w = owedRun s := by rw [hw]; rfl
  have hfirst : firstRecord w = firstRecord s := by rw [hw]; rfl
  have hseq : w.nextSeq = s.nextSeq := by rw [hw]
  have hstamp : w.frameCounter = s.frameCounter := by rw [hw]
  have hheld : w.held = s.held := by rw [hw]
  have hread : w.readData = s.readData := by rw [hw]
  have hsession : w.session = s.session := by rw [hw]
  have hfree : w.port = none := by rw [hw]
  obtain ⟨hhead, hlen, hcount, hmerges, hget⟩ := sweepEnded_queue hwrst (hwlost ▸ hlost)
  have honly := sweepEnded_only w
  have hu := classifyHeld_only (sweepEnded w)
  have hprefix := classifyHeld_prefix_of_unmerged hmerges
  have hcells : SameCells w (classifyHeld (sweepEnded w)) := by
    refine SameCells.trans ?_ (classifyHeld_sameCells _)
    rw [honly]
    exact ⟨rfl, rfl⟩
  have hmarks : (classifyHeld (sweepEnded w)).marks = Vector.replicate 5 true :=
    (congrArg State.marks hu).trans (congrArg State.marks honly)
  have hport' : (classifyHeld (sweepEnded w)).port = none :=
    (congrArg State.port hu).trans ((congrArg State.port honly).trans hfree)
  have hst : StandsAlike (sweepEnded w) (arbitrate (classifyHeld (sweepEnded w))) := by
    have h := hu.standsAlike
    exact ⟨by simp [h.crb], by simp [h.shadow], by simp [h.clips], by simp [h.expSlot], by simp [h.expSeq], by simp [h.lockout],
      by simp [h.timers], by simp [h.w]⟩
  refine ⟨?_, ?_, ?_, ?_, fun h => ?_, fun h a => ?_, ?_, ?_, fun a ha hnone => ?_, fun j h1 h5 => arbitrate_marks hport' hmarks h1 h5⟩
  · rw [arbitrate_sweep]
    exact (congrArg State.sweep hu).trans (congrArg State.sweep honly)
  · rw [arbitrate_deckClear]
    exact (congrArg State.deckClear hu).trans (congrArg State.deckClear honly)
  · rw [arbitrate_owed]
    exact (congrArg State.owed hu).trans (congrArg State.owed honly)
  · rw [arbitrate_mem, hcells.1]
    exact hmem
  · rw [arbitrate_shadow, hcells.2]
    exact hshadow h
  · rw [arbitrate_shadow, hcells.2, habove h]
  · rw [arbitrate_queue]
    obtain ⟨l, hl⟩ := hprefix
    rw [← hl, List.head?_append, hhead, hfirst]
    rfl
  · rw [arbitrate_queue, arbitrate_lost]
    refine ⟨fun j o hj ho => ?_, fun hnone => ?_⟩
    · have hj' := hget j o hj (hrun ▸ ho)
      rw [hseq, hstamp] at hj'
      obtain ⟨l, hl⟩ := hprefix
      rw [← hl, List.getElem?_append_left (List.getElem?_eq_some_iff.mp hj').1]
      exact hj'
    · have hidle : ∀ a, (sweepEnded w).held ≠ some ⟨a, none⟩ := fun a ha => by
        rw [honly] at ha
        exact absurd ((hheld.symm.trans ha).symm.trans hnone) (by simp)
      rw [classifyHeld_idle hidle, hlen, hcount, hrun, hwlost]
      exact ⟨rfl, rfl⟩
  · have hh : (sweepEnded w).held = some ⟨a, none⟩ := (congrArg State.held honly).trans (hheld.trans ha)
    have hun : unclassified (sweepEnded w) a.addr = false := by
      have h1 : (sweepEnded w).rst = false := (congrArg State.rst honly).trans hwrst
      have h2 : (sweepEnded w).sweep = none := congrArg State.sweep honly
      simp [unclassified, h1, h2]
    exact served_classifyHeld hh hun ((congrArg State.session honly).trans (hsession.trans hnone)) hst
      ((congrArg State.readData honly).trans hread) ⟨by simp, by simp, by simp, by simp⟩

end Sys2Proof
end

section
/-!
PROOF. The merge of a shadowed write (O26): the word's own write is what every row has in common, and what the owners of its fields do
leaves it alone.
-/

namespace Sys2Proof.Machine

/-! ### The rows of merges -/

/-- Every row of a merge is the one step, each with its own condition. -/
theorem exec_of_mergeRows {i : Instr} {p : PortMerge → State → Bool} (h : (i, p) ∈ mergeRows) (s : State) :
    exec i s = mergeStep p s := by
  simp only [mergeRows, List.mem_cons, Prod.mk.injEq, List.not_mem_nil, or_false] at h
  rcases h with ⟨rfl, rfl⟩ | ⟨rfl, rfl⟩ | ⟨rfl, rfl⟩ | ⟨rfl, rfl⟩ | ⟨rfl, rfl⟩ | ⟨rfl, rfl⟩ | ⟨rfl, rfl⟩ | ⟨rfl, rfl⟩ | ⟨rfl, rfl⟩ <;> rfl

section
variable {s : State} {m : PortMerge} {i : Instr} {p : PortMerge → State → Bool}

theorem exec_merge (hrow : (i, p) ∈ mergeRows) (hp : p m s = true) (hm : OnPortToMerge s m) :
    exec i s = .next (arbitrate (endMerge m s)) := by
  obtain ⟨hport, hv⟩ := hm
  rw [exec_of_mergeRows hrow]
  simp only [mergeStep, hport]
  exact if_pos ⟨hv, hp⟩

theorem exec_merges (hrow : (i, p) ∈ mergeRows) (hp : p m s = true) (hm : Merges s m) :
    exec i s = .next (arbitrate (performMerge m s)) := by
  rw [exec_merge hrow hp hm.1, endMerge_of_merges hm]

/-! ### The word's own write -/

theorem writtenLanes_eq (hv : m.verdict ≠ .taken) : m.writtenLanes = m.lanes := if_neg hv

theorem writtenData_eq (hv : m.verdict ≠ .taken) : m.writtenData = m.access.data := if_neg hv

theorem performMerge_port (m : PortMerge) (s : State) : (performMerge m s).port = none := by
  rcases (performMerge_effectsOnly m s).2 with h | ⟨b, hb, -⟩
  · exact h
  · cases hb

theorem lanesWritten_mergedShadow (hs : MemoryForm s) (hv : m.verdict ≠ .taken) :
    LanesWritten m.off m.lanes m.access.data s.shadow (mergedShadow m s.shadow) := by
  rw [mergedShadow, writtenLanes_eq hv, writtenData_eq hv]
  exact lanesWritten_writeLanes _ _ _ _ hs.2

theorem lanesWritten_mergedMem (hs : MemoryForm s) (hv : m.verdict ≠ .taken) :
    LanesWritten m.access.addr m.lanes m.access.data s.mem (writeLanes s.mem m.access.addr m.writtenLanes m.writtenData) := by
  rw [writtenLanes_eq hv, writtenData_eq hv]
  exact lanesWritten_writeLanes _ _ _ _ hs.1

/-- Behind the merge and the grant: the lanes are in memory and in the shadow, the write-backs of the fields written are gone, the
controller sees its access done (R25, R30). -/
theorem merged_performMerge (hs : MemoryForm s) (hv : m.verdict ≠ .taken) : Merged m s (arbitrate (performMerge m s)) := by
  have hfree := performMerge_port m s
  have honly := (performMerge_effectsOnly m s).1
  have hback := arbitrate_frame (performMerge m s) .writeBacks (by simp)
  simp only [granted, hfree, true_or, if_true, Kept] at hback
  refine ⟨?_, ?_, ?_, ?_, ?_, ?_⟩
  · rw [arbitrate_mem, honly]
    exact lanesWritten_mergedMem hs hv
  · rw [arbitrate_shadow, honly]
    exact lanesWritten_mergedShadow hs hv
  · rw [hback, honly]
    rfl
  · rw [arbitrate_held, honly]
    rfl
  · rw [arbitrate_done, honly]
    rfl
  · rw [arbitrate_readData, honly]
    rfl

theorem performMerge_results (m : PortMerge) (s : State) :
    (performMerge m s).results = if m.isSlotWord then s.results.filter (fun r => r.1 != m.slot) else s.results := by
  rw [(performMerge_effectsOnly m s).1]
  rfl

/-- Settles O26: the word's own write, whatever its row, or memory alone for one that outlasts a reset. -/
theorem acceptedWritesMerge : Obligations.AcceptedWritesMerge := by
  intro s m i p hs hrow hp
  refine ⟨fun hm => ⟨_, exec_merges hrow hp hm, merged_performMerge hs hm.1.2, ?_⟩, fun hm => ⟨_, exec_merge hrow hp hm.1, ?_⟩⟩
  · have honly := (performMerge_effectsOnly m s).1
    rw [arbitrate_results, performMerge_results]
    simp only [Same, Kept, arbitrate_rst_eq, arbitrate_crb, arbitrate_sweep, arbitrate_deckClear, arbitrate_session, arbitrate_expSlot,
      arbitrate_expSeq, arbitrate_lastSeq, arbitrate_frameCounter, arbitrate_buses]
    rw [honly]
    exact ⟨trivial, ⟨rfl, rfl⟩, ⟨rfl, rfl⟩, rfl, ⟨rfl, rfl, rfl⟩, rfl, rfl⟩
  · rw [endMerge_of_outlasts hm]
    have hfree : (memoryWord m s).port = none := rfl
    refine ⟨?_, ⟨?_, ?_, ?_⟩, unchangedBut_arbitrated (same_of_memoryEnd rfl (by simp) (by simp) (.inl (by simp))) (by simp [hfree])⟩
    · rw [arbitrate_mem]
      exact lanesWritten_mergedMem hs hm.1.2
    · rw [arbitrate_held]
      rfl
    · rw [arbitrate_done]
      rfl
    · rw [arbitrate_readData]
      rfl

end

end Sys2Proof.Machine
end

section
/-!
PROOF. The Setup Block's fields with owners (O29): which owners a word of the block reaches, and what they do at the merge.
-/

namespace Sys2Proof.Machine

/-! ### The lanes of a field -/

theorem getLsbD_fieldLanes (off foff width i : Nat) :
    (fieldLanes off foff width).getLsbD i = (decide (i < 4) && (decide (foff ≤ off + i) && decide (off + i < foff + width))) := by
  unfold fieldLanes
  rw [BitVec.getLsbD_ofNat, testBit_bitSet]
  cases decide (i < 4) <;> simp

theorem lanes_ne_zero_iff (l : Lanes) : l ≠ 0 ↔ ∃ i, i < 4 ∧ l.getLsbD i = true := by
  constructor
  · intro h
    by_contra hno
    refine h (BitVec.eq_of_getLsbD_eq fun i hi => ?_)
    have hi' : ¬ l.getLsbD i = true := fun hl => hno ⟨i, hi, hl⟩
    simp [Bool.not_eq_true _ ▸ hi']
  · rintro ⟨i, -, hl⟩ rfl
    simp at hl

/-- A write touches a field where one of its lanes holds a byte of it. -/
theorem touches_iff (off : Nat) (lanes : Lanes) (foff width : Nat) :
    touches off lanes foff width = true ↔ ∃ i, i < 4 ∧ lanes.getLsbD i = true ∧ foff ≤ off + i ∧ off + i < foff + width := by
  rw [touches, bne_iff_ne, lanes_ne_zero_iff]
  refine exists_congr fun i => and_congr_right fun hi => ?_
  rw [BitVec.getLsbD_and, getLsbD_fieldLanes]
  simp [hi]

theorem touches_disjoint {off : Nat} (lanes : Lanes) {foff width : Nat} (h : off + 4 ≤ foff ∨ foff + width ≤ off) :
    touches off lanes foff width = false := by
  rw [Bool.eq_false_iff]
  intro ht
  obtain ⟨i, hi, -, h1, h2⟩ := (touches_iff ..).mp ht
  omega

/-! ### Bytes that a merge leaves -/

section
variable {s : State} {m : PortMerge}

theorem mergedShadow_lane (hs : MemoryForm s) (hv : m.verdict ≠ .taken) {i : Nat} (hi : i < 4) (hl : m.lanes.getLsbD i = true) :
    readByte (mergedShadow m s.shadow) (m.off + i) = laneOf m.access.data i := by
  rw [lanesWritten_mergedShadow hs hv (m.off + i), if_pos ⟨by omega, by omega, by simpa using hl⟩]
  simp

theorem mergedShadow_withheld (hs : MemoryForm s) (hv : m.verdict ≠ .taken) {i : Nat} (hl : ¬ m.lanes.getLsbD i = true) :
    readByte (mergedShadow m s.shadow) (m.off + i) = readByte s.shadow (m.off + i) := by
  rw [lanesWritten_mergedShadow hs hv (m.off + i), if_neg]
  rintro ⟨-, -, h⟩
  exact hl (by simpa using h)

theorem mergedShadow_outside (hs : MemoryForm s) (hv : m.verdict ≠ .taken) {b : Nat} (hb : b < m.off ∨ m.off + 4 ≤ b) :
    readByte (mergedShadow m s.shadow) b = readByte s.shadow b := by
  rw [lanesWritten_mergedShadow hs hv b, if_neg]
  omega

/-- A word outside the line configuration leaves the mode of every buzzer line. -/
theorem lineMode_mergedShadow (hs : MemoryForm s) (hv : m.verdict ≠ .taken) (ho : m.off + 4 ≤ 0x10 ∨ 0x30 ≤ m.off) {n : Nat} (hn : n < 8) :
    lineMode (mergedShadow m s.shadow) n = lineMode s.shadow n := by
  have : byteAt (mergedShadow m s.shadow) (0x10 + 4 * n) = byteAt s.shadow (0x10 + 4 * n) :=
    congrArg BitVec.toNat (mergedShadow_outside hs hv (by omega))
  simp only [lineMode, lineModeCode, this]

/-- A word that is neither the first of the block nor in the line configuration leaves every polarity and the clock preference. -/
theorem polarities_mergedShadow (hs : MemoryForm s) (hv : m.verdict ≠ .taken) (ho : m.off = 4 ∨ 0x30 ≤ m.off) :
    (∀ n, n < 10 → activeHigh (mergedShadow m s.shadow) n = activeHigh s.shadow n) ∧
      preferInternal (mergedShadow m s.shadow) = preferInternal s.shadow := by
  have hbit : ∀ b i, b < m.off ∨ m.off + 4 ≤ b → bitAt (mergedShadow m s.shadow) b i = bitAt s.shadow b i := fun b i hb => by
    simp only [bitAt, mergedShadow_outside hs hv hb]
  refine ⟨fun n hn => ?_, hbit _ _ (by omega)⟩
  unfold activeHigh
  split
  · rfl
  · split
    · exact hbit _ _ (by omega)
    · rename_i h8 h9
      simp only [panicLine, talkLine] at h8 h9
      exact hbit _ _ (by omega)

end

/-! ### The owners that a merge reaches -/

theorem foldl_eq_self {α : Type} {f : State → α → State} {xs : List α} {s : State} (h : ∀ a ∈ xs, f s a = s) : xs.foldl f s = s := by
  induction xs with
  | nil => rfl
  | cons a xs ih =>
    rw [List.foldl_cons, h a (by simp)]
    exact ih (fun b hb => h b (by simp [hb]))

/-- What the owners of Rd and of the board interval do (R176, R178). -/
def ownersAct (m : PortMerge) (s : State) : State :=
  let t := if m.writes 0x04 1 then judgeAttn s else s
  if m.writes 0x06 2 then restartBoard t else t

/-- A merge that changes no mode, no polarity and no preference reaches the cue timers, Rd and the board interval alone (R32). -/
theorem setupEffects_of_same {old : Cells} {m : PortMerge} {s : State} (hmode : ∀ n, n < 8 → lineMode s.shadow n = lineMode old n)
    (hpol : ∀ n, n < 10 → activeHigh s.shadow n = activeHigh old n) (hpref : preferInternal s.shadow = preferInternal old) :
    setupEffects old m s = ownersAct m (eachTimer (preloadEffect m) s) := by
  have hmodes : (List.range 8).foldl (fun t n => lineModeEffect old n t) s = s := foldl_eq_self fun n hn => by
    simp [lineModeEffect, hmode n (List.mem_range.mp hn)]
  have hpols : (List.range 10).foldl (fun t n => polarityEffect old n t) s = s := foldl_eq_self fun n hn => by
    simp [polarityEffect, judgedEdge, readsActive, hpol n (List.mem_range.mp hn)]
  have hshadow : (eachTimer (preloadEffect m) s).shadow = s.shadow := by
    rw [(eachTimer_pressOnly (preloadEffect_pressOnly m) s).1]
  unfold setupEffects
  simp only [hmodes, hpols, hshadow, hpref, if_true]
  rfl

/-- A merge that writes no preload leaves the cue timers. -/
theorem eachTimer_preload_none {m : PortMerge} (s : State) (h : ∀ k, k < 4 → m.writes (0x34 + 8 * k) 3 = false) :
    eachTimer (preloadEffect m) s = s :=
  foldl_eq_self fun k hk => by simp [preloadEffect, h k (List.mem_range.mp hk)]

/-- One that writes the preload of a timer reaches that timer alone. -/
theorem eachTimer_preload_one {m : PortMerge} (s : State) {k : Nat} (hk : k < 4)
    (h : ∀ j, j < 4 → j ≠ k → m.writes (0x34 + 8 * j) 3 = false) :
    eachTimer (preloadEffect m) s = preloadEffect m k s := by
  have hskip : ∀ j t, j < 4 → j ≠ k → preloadEffect m j t = t := fun j t hj hne => by simp [preloadEffect, h j hj hne]
  simp only [eachTimer, List.range_succ_eq_map, List.range_zero, List.map_nil, List.map_cons, List.foldl_cons, List.foldl_nil]
  interval_cases k <;> simp [hskip]

/-! ### The frame of such a merge -/

section
variable {s : State} {m : PortMerge}

theorem regionPart_setup {off : Nat} (h : off < 0x100) : regionPart off = .setup := if_pos h

/-- A merge in the Setup Block changes the word's own parts and what its owners act on. -/
theorem unchangedBut_setupMerge {extra : List Part} {u : State} (hoff : m.off < 0x100)
    (h : u = { mergeWord m s with timers := u.timers, attn := u.attn, boardCount := u.boardCount })
    (htimers : .timers ∈ extra ∨ u.timers = s.timers) (hring : .ring ∈ extra ∨ u.attn = s.attn)
    (hinterval : .interval ∈ extra ∨ u.boardCount = s.boardCount) : unchangedBut (mergeParts ++ extra) s (arbitrate u) := by
  have hport : u.port = none := by
    rw [h]
    rfl
  refine unchangedBut_arbitrated (fun p hp => ?_) (by simp [hport, mergeParts])
  obtain ⟨hpath, hpp, hmem, hshadow, hback, hpe⟩ :
      p ≠ .path ∧ p ≠ .port ∧ p ≠ .mem ∧ p ≠ .shadow ∧ p ≠ .writeBacks ∧ p ∉ extra := by
    simpa [mergeParts, not_or] using hp
  cases p
  case path => contradiction
  case port => contradiction
  case mem => contradiction
  case shadow => contradiction
  case writeBacks => contradiction
  case stale =>
    intro b _ hb
    exact absurd (hport.symm.trans hb) (by simp)
  case timers => exact htimers.resolve_left hpe
  case ring => exact ⟨by rw [h]; rfl, hring.resolve_left hpe⟩
  case interval => exact hinterval.resolve_left hpe
  case results =>
    rw [h]
    simp [Same, Kept, mergeWord, portFree, PortMerge.isSlotWord, regionPart_setup hoff]
  all_goals
    rw [h]
    simp [Same, Kept, mergeWord, portFree, servedVoice, voiceOf, againLeft, marksLeft, CopyLeft]

/-- The effects of a merge that reaches the cue timers, Rd and the board interval alone. -/
theorem performMerge_setup (hs : MemoryForm s) (hv : m.verdict ≠ .taken) (hoff : m.off < 0x100)
    (hmode : m.off + 4 ≤ 0x10 ∨ 0x30 ≤ m.off) (hpol : ∀ n, n < 10 → activeHigh (mergedShadow m s.shadow) n = activeHigh s.shadow n)
    (hpref : preferInternal (mergedShadow m s.shadow) = preferInternal s.shadow) :
    performMerge m s = ownersAct m (eachTimer (preloadEffect m) (mergeWord m s)) := by
  simp only [performMerge, regionPart_setup hoff]
  exact setupEffects_of_same (fun n hn => lineMode_mergedShadow hs hv hmode hn) hpol hpref

/-- The word of Rd and the board interval: no cue timer, and the two owners. -/
theorem performMerge_rdWord (hs : MemoryForm s) (hv : m.verdict ≠ .taken) (hoff : m.off = 0x04) :
    performMerge m s = ownersAct m (mergeWord m s) := by
  obtain ⟨hpol, hpref⟩ := polarities_mergedShadow hs hv (.inl hoff)
  rw [performMerge_setup hs hv (by omega) (by omega) hpol hpref,
    eachTimer_preload_none _ (fun k _ => touches_disjoint _ (by omega))]

theorem ownersAct_only (m : PortMerge) (s : State) :
    ownersAct m s = { s with
      attn := if m.writes 0x04 1 then !s.rst && decide (s.w ≠ rd s.shadow) else s.attn
      boardCount := if m.writes 0x06 2 then 0 else s.boardCount } := by
  unfold ownersAct
  split <;> split <;> rfl

/-- The merge of the word of Rd and the board interval: each owner acts where the word's lanes hold its field, and nothing else does. -/
theorem rdWord_merged (hs : MemoryForm s) (hv : m.verdict ≠ .taken) (hoff : m.off = 0x04) :
    let t := arbitrate (performMerge m s)
    t.shadow = mergedShadow m s.shadow ∧ t.w = s.w ∧ t.attn = (if m.writes 0x04 1 then !s.rst && decide (s.w ≠ rd t.shadow) else s.attn) ∧
      t.boardCount = (if m.writes 0x06 2 then 0 else s.boardCount) ∧ unchangedBut (mergeParts ++ [.ring, .interval]) s t := by
  have hown := (performMerge_rdWord hs hv hoff).trans (ownersAct_only m _)
  have hframe := unchangedBut_setupMerge (m := m) (s := s) (extra := [.ring, .interval]) (u := performMerge m s) (by omega)
    (by rw [hown]) (.inr (by rw [hown]; rfl)) (.inl (by simp)) (.inl (by simp))
  dsimp only
  refine ⟨?_, ?_, ?_, ?_, hframe⟩
  · rw [arbitrate_shadow, hown]
    rfl
  · rw [arbitrate_w, hown]
    rfl
  · rw [arbitrate_attn, arbitrate_shadow, hown]
    rfl
  · rw [arbitrate_boardCount, hown]
    rfl

theorem writes_of_lane (hv : m.verdict ≠ .taken) {i foff width : Nat} (hi : i < 4) (hl : m.lanes.getLsbD i = true)
    (h : foff ≤ m.off + i ∧ m.off + i < foff + width) : m.writes foff width = true := by
  rw [PortMerge.writes, writtenLanes_eq hv, touches_iff]
  exact ⟨i, hi, hl, h⟩

/-- The board interval takes the bytes of the lanes written, one or both. -/
theorem boardInterval_mergedShadow (hs : MemoryForm s) (hv : m.verdict ≠ .taken) (hoff : m.off = 0x04) :
    boardInterval (mergedShadow m s.shadow) =
      (if m.lanes.getLsbD 2 = true then (laneOf m.access.data 2).toNat else boardInterval s.shadow % 256) +
      256 * (if m.lanes.getLsbD 3 = true then (laneOf m.access.data 3).toNat else boardInterval s.shadow / 256) := by
  have hle : ∀ sh, boardInterval sh = (readByte sh 0x06).toNat + 256 * (readByte sh 0x07).toNat := fun sh => by
    simp [boardInterval, readLe]
  have hlane : ∀ i, i < 4 → readByte (mergedShadow m s.shadow) (m.off + i) =
      if m.lanes.getLsbD i = true then laneOf m.access.data i else readByte s.shadow (m.off + i) := fun i hi => by
    split
    · exact mergedShadow_lane hs hv hi ‹_›
    · exact mergedShadow_withheld hs hv ‹_›
  have hlow := (readByte s.shadow 0x06).isLt
  rw [hoff] at hlane
  rw [hle, hle, hlane 2 (by omega), hlane 3 (by omega)]
  have hmod : ((readByte s.shadow 6).toNat + 256 * (readByte s.shadow 7).toNat) % 256 = (readByte s.shadow 6).toNat := by omega
  have hdiv : ((readByte s.shadow 6).toNat + 256 * (readByte s.shadow 7).toNat) / 256 = (readByte s.shadow 7).toNat := by omega
  rw [hmod, hdiv]
  split <;> split <;> rfl

/-- A write of LWB that changes no polarity and no clock preference has no other owner act. -/
theorem performMerge_lwbWord (hs : MemoryForm s) (hv : m.verdict ≠ .taken) (hoff : m.off = 0x00)
    (hpref : isPreferenceWrite m s = false) (hpol : isPolarityWrite m s = false) : performMerge m s = mergeWord m s := by
  have hpol' : ∀ n, n < 10 → activeHigh (mergedShadow m s.shadow) n = activeHigh s.shadow n := fun n hn => by
    have := List.any_eq_false.mp hpol n (List.mem_range.mpr hn)
    exact (by simpa using this : activeHigh s.shadow n = _).symm
  have hpref' : preferInternal (mergedShadow m s.shadow) = preferInternal s.shadow := by
    exact (by simpa [isPreferenceWrite] using hpref : preferInternal s.shadow = _).symm
  have hno : ∀ foff width, 4 ≤ foff → m.writes foff width = false := fun foff width h => touches_disjoint _ (by omega)
  rw [performMerge_setup hs hv (by omega) (by omega) hpol' hpref', eachTimer_preload_none _ (fun k _ => hno _ _ (by omega)),
    ownersAct_only, hno _ _ (by omega), hno _ _ (by omega)]
  rfl

/-- A write of a timer's preload reaches that timer alone (R31). -/
theorem performMerge_preloadWord (hs : MemoryForm s) (hv : m.verdict ≠ .taken) {k : Nat} (hk : k < 4) (hoff : m.off = 0x34 + 8 * k) :
    performMerge m s = preloadEffect m k (mergeWord m s) := by
  obtain ⟨hpol, hpref⟩ := polarities_mergedShadow hs hv (.inr (by omega))
  have hno : ∀ foff width, foff + width ≤ m.off → m.writes foff width = false := fun foff width h => touches_disjoint _ (by omega)
  rw [performMerge_setup hs hv (by omega) (by omega) hpol hpref,
    eachTimer_preload_one _ hk (fun j _ hj => touches_disjoint _ (by omega)), ownersAct_only, hno _ _ (by omega), hno _ _ (by omega)]
  rfl

/-- A stopped timer is loaded with the merged preload; a running one keeps its count (R31). -/
theorem preloadEffect_merged (hoff : m.off < 0x100) {k : Nat} (hk : k < 4) (hw : m.writes (0x34 + 8 * k) 3 = true) :
    let t := arbitrate (preloadEffect m k (mergeWord m s))
    timerOf t k = (if (timerOf s k).phase = .stopped then ⟨.stopped, timerPreload t.shadow k⟩ else timerOf s k) ∧
      (∀ j, j ≠ k → timerOf t j = timerOf s j) ∧ unchangedBut (mergeParts ++ [.timers]) s t := by
  have hsame : ∀ j, timerOf (mergeWord m s) j = timerOf s j := fun _ => rfl
  dsimp only
  unfold preloadEffect
  by_cases hstop : (timerOf s k).phase = .stopped
  · rw [if_pos ⟨hw, hstop⟩, if_pos hstop]
    refine ⟨?_, fun j hj => ?_, unchangedBut_setupMerge (m := m) hoff rfl (.inl (by simp)) (.inr rfl) (.inr rfl)⟩
    · rw [timerOf_arbitrate, timerOf_setTimer, if_pos ⟨rfl, hk⟩, arbitrate_shadow]
      rfl
    · rw [timerOf_arbitrate, timerOf_setTimer, if_neg (fun h => hj h.1.symm), hsame]
  · rw [if_neg (fun h => hstop h.2), if_neg hstop]
    exact ⟨by rw [timerOf_arbitrate, hsame], fun j _ => by rw [timerOf_arbitrate, hsame],
      unchangedBut_setupMerge (m := m) hoff rfl (.inl (by simp)) (.inr rfl) (.inr rfl)⟩

end

/-- Settles O29: each field's word reaches its own owners alone. -/
theorem fieldsWithOwnersTakeEffectAtMerge : Obligations.FieldsWithOwnersTakeEffectAtMerge := by
  refine ⟨fun s m hs hm hoff hl => ?_, fun s m hs hm hoff hl => ?_, fun s m hs hm hoff hl => ?_, fun s m k hs hm hk hoff hw => ?_⟩
  · have hv := hm.1.2
    have hw : m.writes 0x04 1 = true := writes_of_lane hv (i := 0) (by omega) hl (by omega)
    obtain ⟨hshadow, hwi, hattn, -, hframe⟩ := rdWord_merged hs hv hoff
    have hrd : rd (mergedShadow m s.shadow) = laneOf m.access.data 0 := by
      have := mergedShadow_lane hs hv (i := 0) (by omega) hl
      rwa [hoff] at this
    refine ⟨_, exec_merges (i := .rdWrite) (p := isRdWrite) (by simp [mergeRows]) (by simp [isRdWrite, hw]) hm, ?_, hwi, ?_, hframe⟩
    · rw [hshadow, hrd]
    · rw [hattn, hw, if_pos rfl, hshadow, hrd]
  · have hv := hm.1.2
    have hw : m.writes 0x06 2 = true := by
      rcases hl with hl | hl
      · exact writes_of_lane hv (by omega) hl (by omega)
      · exact writes_of_lane hv (by omega) hl (by omega)
    obtain ⟨hshadow, -, -, hcount, hframe⟩ := rdWord_merged hs hv hoff
    refine ⟨_, exec_merges (i := .boardIntervalWrite) (p := isIntervalWrite) (by simp [mergeRows]) hw hm, ?_, ?_, hframe⟩
    · rw [hshadow]
      exact boardInterval_mergedShadow hs hv hoff
    · rw [hcount, hw, if_pos rfl]
  · have hv := hm.1.2
    have hw : m.writes 0x01 1 = true := writes_of_lane hv (i := 1) (by omega) hl (by omega)
    refine ⟨_, exec_merges (i := .lwbWrite) (p := isLwbWrite) (by simp [mergeRows]) hw hm, ?_, fun hpref hpol => ?_⟩
    · have hlane := mergedShadow_lane hs hv (i := 1) (by omega) hl
      rw [hoff] at hlane
      rw [arbitrate_shadow, (performMerge_effectsOnly m s).1]
      exact congrArg (fun b : Byte => b.toNat % 8) hlane
    · rw [performMerge_lwbWord hs hv hoff hpref hpol]
      exact unchangedBut_mono (by simp) (by simp) (unchangedBut_setupMerge (m := m) (s := s) (extra := []) (u := mergeWord m s)
        (by omega) rfl (.inr rfl) (.inr rfl) (.inr rfl))
  · have hv := hm.1.2
    rw [hoff] at hw
    have hrow : isPreloadWrite m s = true := List.any_eq_true.mpr ⟨k, List.mem_range.mpr hk, hw⟩
    refine ⟨_, exec_merges (i := .timerPreloadWrite) (p := isPreloadWrite) (by simp [mergeRows]) hrow hm,
      merged_performMerge hs hv, ?_⟩
    obtain ⟨htimer, hother, hframe⟩ := preloadEffect_merged (s := s) (m := m) (by omega) hk hw
    rw [performMerge_preloadWord hs hv hk hoff]
    exact ⟨htimer, hother, hframe⟩

end Sys2Proof.Machine
end

section
/-!
PROOF. The ends of the Report Writer's writes (O47): the bytes in memory and shadow, and what each kind does behind its write.
-/

namespace Sys2Proof.Machine

/-! ### The rows -/

section
variable {s : State} {i : Instr} {k : ReportKind} {addr : Nat} {bytes : List Byte} {orphan : Bool}

theorem reportStep_of_port {p : ReportKind → Bool} (hport : s.port = some (.report k addr bytes orphan)) (hp : p k = true) :
    reportStep p s = .next (arbitrate (if orphan then partWrite addr bytes orphan s
      else reportWritten k (partWrite addr bytes orphan s))) := by
  simp only [reportStep, hport, hp, if_true]

/-- Each row ends the write of its own kind. -/
theorem exec_reportWrite (hport : s.port = some (.report k addr bytes orphan))
    (hrow : (∃ j, i = .resultWrite ∧ k = .result j) ∨ (∃ f, i = .clampWriteBack ∧ k = .clamp f) ∨
      (∃ b, i = .statusBlockWrite ∧ k = .status b) ∨ (∃ c, i = .directoryMirrorWrite ∧ k = .mirror c) ∨
      (∃ v q, i = .voiceBoardQuarterWrite ∧ k = .board v q)) :
    exec i s = .next (arbitrate (if orphan then partWrite addr bytes orphan s
      else reportWritten k (partWrite addr bytes orphan s))) := by
  rcases hrow with ⟨j, rfl, rfl⟩ | ⟨f, rfl, rfl⟩ | ⟨b, rfl, rfl⟩ | ⟨c, rfl, rfl⟩ | ⟨v, q, rfl, rfl⟩
  · exact reportStep_of_port (p := isResult) hport rfl
  · exact reportStep_of_port (p := isClamp) hport rfl
  · exact reportStep_of_port (p := isStatus) hport rfl
  · exact reportStep_of_port (p := isMirror) hport rfl
  · exact reportStep_of_port (p := isBoard) hport rfl

end

/-! ### What each kind does behind its write -/

section
variable (s : State)

theorem clampWritten_other {f : Nat} (h4 : f ≠ 0x04) (h6 : f ≠ 0x06) : clampWritten f s = s := by
  rw [clampWritten, if_neg h4, if_neg h6]

end

/-- A quarter that is presented is the one the voice records stand at (R178). -/
theorem boardWrite_of_reportRequest {s : State} {v q : Nat} (h : reportRequest s = some (.board v q)) :
    boardWrite s = some (.board v q) := by
  unfold reportRequest at h
  split at h
  · cases h
  split at h
  · cases h
  split at h
  · cases h
  split at h
  · cases h
  split at h
  · cases h
  split at h
  · cases h
  split at h
  · cases h
  · exact h

/-- A copy whose next quarter is not the first stays through the grant. -/
theorem arbitrate_boardCopy {u : State} (hport : u.port = none) {c : BoardCopy} (hc : u.boardCopy = some c) (hn : c.next ≠ 0) :
    (arbitrate u).boardCopy = some c := by
  have hcopy := arbitrate_frame u .copy (by simp)
  simp only [granted, hport, true_or, if_true, Kept] at hcopy
  unfold CopyLeft at hcopy
  split at hcopy
  · rename_i v a bs o hg
    have h := boardWrite_of_reportRequest (arbitrate_report hport hg)
    simp only [boardWrite, hc, Option.some.injEq, ReportKind.board.injEq] at h
    exact absurd h.2 hn
  · rw [hcopy, hc]

/-- The mirror's flags stay through the grant. -/
theorem arbitrate_mirrorFlags (u : State) : (arbitrate u).mirrorFlags = u.mirrorFlags := (arbitrate_frame u .mirror (by simp)).1

theorem arbitrate_mirrorAgain {u : State} (h : u.mirrorAgain = false) : (arbitrate u).mirrorAgain = false := by
  have hm := (arbitrate_frame u .mirror (by simp)).2
  rw [hm, h]
  unfold againLeft
  split <;> rfl

/-- A change of a mirrored entry sets its flag, and is remembered while the entry's write is on the port (R63). -/
theorem setClip_mirror (c : Nat) (e : ClipEntry) (s : State) (hc : c < 128) :
    bankGet (setClip c e s).mirrorFlags c false = true ∧
      ∀ a bs, s.port = some (.report (.mirror c) a bs false) → (setClip c e s).mirrorAgain = true := by
  refine ⟨?_, fun a bs h => ?_⟩
  · change bankGet (bankSet s.mirrorFlags c true) c false = true
    rw [bankGet_bankSet, if_pos ⟨rfl, hc⟩]
  · change (s.mirrorAgain || mirrorOnPort s c) = true
    simp [mirrorOnPort, h]

section
variable (s : State) (off : Nat) (bytes : List Byte)

/-- The frame of a result write. -/
theorem unchangedBut_resultWritten (j : Nat) : unchangedBut [.port, .mem, .shadow, .results] s
    (arbitrate (reportWritten (.result j) (partWrite (regionAddr s off) bytes false s))) :=
  unchangedBut_partWrite (extra := [.results]) false rfl (.inr rfl) (.inl (by simp)) (.inr ⟨rfl, rfl⟩) (.inr rfl) (.inr rfl) (.inr rfl)

theorem unchangedBut_rdWritten : unchangedBut [.port, .mem, .shadow, .ring] s
    (arbitrate (reportWritten (.clamp 0x04) (partWrite (regionAddr s off) bytes false s))) :=
  unchangedBut_partWrite (extra := [.ring]) false rfl (.inr rfl) (.inr rfl) (.inr ⟨rfl, rfl⟩) (.inl (by simp)) (.inr rfl) (.inr rfl)

theorem unchangedBut_intervalWritten : unchangedBut [.port, .mem, .shadow, .interval] s
    (arbitrate (reportWritten (.clamp 0x06) (partWrite (regionAddr s off) bytes false s))) :=
  unchangedBut_partWrite (extra := [.interval]) false rfl (.inr rfl) (.inr rfl) (.inr ⟨rfl, rfl⟩) (.inr rfl) (.inl (by simp)) (.inr rfl)

theorem unchangedBut_mirrorWritten (c : Nat) : unchangedBut [.port, .mem, .shadow, .mirror] s
    (arbitrate (reportWritten (.mirror c) (partWrite (regionAddr s off) bytes false s))) :=
  unchangedBut_partWrite (extra := [.mirror]) false rfl (.inr rfl) (.inr rfl) (.inl (by simp)) (.inr rfl) (.inr rfl) (.inr rfl)

theorem unchangedBut_quarterWritten (v q : Nat) : unchangedBut [.port, .mem, .shadow, .copy] s
    (arbitrate (reportWritten (.board v q) (partWrite (regionAddr s off) bytes false s))) :=
  unchangedBut_partWrite (extra := [.copy]) false rfl (.inr rfl) (.inr rfl) (.inr ⟨rfl, rfl⟩) (.inr rfl) (.inr rfl) (.inl (by simp))

/-- A write behind which nothing of the part follows. -/
theorem unchangedBut_written (orphan : Bool) : unchangedBut [.port, .mem, .shadow] s
    (arbitrate (partWrite (regionAddr s off) bytes orphan s)) :=
  unchangedBut_partWrite (extra := []) false rfl (.inr rfl) (.inr rfl) (.inr ⟨rfl, rfl⟩) (.inr rfl) (.inr rfl) (.inr rfl)

/-- The flag of the entry written is cleared unless the entry has changed since the grant; no other flag moves (R63). -/
theorem mirrorWritten_flags {c : Nat} (hc : c < 128) :
    let t := arbitrate (mirrorWritten c s)
    bankGet t.mirrorFlags c false = (bankGet s.mirrorFlags c false && s.mirrorAgain) ∧ t.mirrorAgain = false ∧
      ∀ d, d ≠ c → bankGet t.mirrorFlags d false = bankGet s.mirrorFlags d false := by
  have hflags : (arbitrate (mirrorWritten c s)).mirrorFlags =
      bankSet s.mirrorFlags c (bankGet s.mirrorFlags c false && s.mirrorAgain) := arbitrate_mirrorFlags _
  refine ⟨?_, arbitrate_mirrorAgain rfl, fun d hd => ?_⟩
  · rw [hflags, bankGet_bankSet, if_pos ⟨rfl, hc⟩]
  · rw [hflags, bankGet_bankSet, if_neg (fun h => hd h.1.symm)]

/-- The next quarter is due behind a quarter, and another voice's copy behind the last (R178). -/
theorem quarterWritten_copy {q : Nat} (hport : s.port = none) :
    let t := arbitrate (quarterWritten q s)
    (∀ c, q < 3 → s.boardCopy = some c → t.boardCopy = some { c with next := q + 1 }) ∧ (3 ≤ q → CopyLeft t.port none t.boardCopy) := by
  refine ⟨fun c hq hc => arbitrate_boardCopy (u := quarterWritten q s) hport ?_ (Nat.succ_ne_zero q), fun hq => ?_⟩
  · change (if q < 3 then s.boardCopy.map _ else none) = _
    rw [if_pos hq, hc]
    rfl
  · have hnone : (quarterWritten q s).boardCopy = none := if_neg (by omega)
    have hcopy := arbitrate_frame (quarterWritten q s) .copy (by simp)
    have hfree : (quarterWritten q s).port = none := hport
    simp only [granted, hfree, true_or, if_true, Kept, hnone] at hcopy
    exact hcopy

end

/-- Settles O47: the bytes as for every write of the part, and each kind's own end. -/
theorem reportWritesReachMemoryAndShadow : Obligations.ReportWritesReachMemoryAndShadow := by
  refine ⟨fun c e s hc => setClip_mirror c e s hc, fun s i k off bytes orphan hs hport hrow => ⟨_, exec_reportWrite hport hrow, ?_⟩⟩
  have hk : k ≠ .event := by
    rcases hrow with ⟨_, -, rfl⟩ | ⟨_, -, rfl⟩ | ⟨_, -, rfl⟩ | ⟨_, -, rfl⟩ | ⟨_, _, -, rfl⟩ <;> simp
  clear hrow
  have hmem := partWrite_mem hs bytes orphan (regionAddr s off)
  have hshadow := partWrite_shadow hs off bytes orphan
  have hcells : SameCells (partWrite (regionAddr s off) bytes orphan s) (arbitrate (if orphan then partWrite (regionAddr s off) bytes orphan s
      else reportWritten k (partWrite (regionAddr s off) bytes orphan s))) := by
    refine SameCells.trans ?_ (arbitrate_sameCells _)
    split
    · exact SameCells.refl _
    · exact reportWritten_sameCells k _
  have hkept : (orphan = true ∧ s.rst = false) ∨ 0x5400 ≤ off → (partWrite (regionAddr s off) bytes orphan s).shadow = s.shadow := by
    rw [partWrite_region]
    rintro (⟨ho, hr⟩ | h)
    · exact if_neg (by simp [ho, hr])
    · exact if_neg (by omega)
  refine ⟨?_, fun hreach hoff => ?_, fun hout a => ?_, ?_, ?_⟩
  · rw [hcells.1]
    exact hmem
  · rw [hcells.2]
    exact hshadow hoff (fun ho => hreach.resolve_left (by simp [ho]))
  · rw [hcells.2, hkept hout]
  · rintro rfl
    exact unchangedBut_written s off bytes true
  · rintro rfl
    simp only [Bool.false_eq_true, if_false]
    refine ⟨?_, ?_, ?_, ?_, ?_, ?_, ?_, ?_⟩
    · rintro j rfl
      exact ⟨arbitrate_results _, unchangedBut_resultWritten s off bytes j⟩
    · rintro f rfl
      refine ⟨?_, ?_, fun h4 h6 => ?_⟩
      · rintro rfl
        exact ⟨arbitrate_w _, by rw [arbitrate_attn, arbitrate_shadow]; rfl, unchangedBut_rdWritten s off bytes⟩
      · rintro rfl
        exact ⟨arbitrate_boardCount _, unchangedBut_intervalWritten s off bytes⟩
      · rw [reportWritten, clampWritten_other _ h4 h6]
        exact unchangedBut_written s off bytes false
    · rintro b rfl
      exact unchangedBut_written s off bytes false
    · rintro c rfl
      exact unchangedBut_mirrorWritten s off bytes c
    · rintro v q rfl
      exact unchangedBut_quarterWritten s off bytes v q
    · rintro c rfl hc
      exact mirrorWritten_flags (partWrite (regionAddr s off) bytes false s) hc
    · rintro v q c rfl hq hc
      exact (quarterWritten_copy (partWrite (regionAddr s off) bytes false s) rfl).1 c hq hc
    · rintro v q rfl hq
      exact (quarterWritten_copy (partWrite (regionAddr s off) bytes false s) rfl).2 hq

end Sys2Proof.Machine
end

section
/-!
PROOF. The grant of a free port by place (O52): which request stands first in the list, who the fetch arbiter and the Head Store put
forward, and what the Report Writer presents.
-/

namespace Sys2Proof.Machine

/-! ### The first of a list by a rank -/

/-- In a rising list, an element that goes before every earlier one and that no later one goes before is the first by the rank. -/
theorem foldl_firstBy_eq {less : Nat → Nat → Bool} {v : Nat} (xs : List Nat) (a : Nat) (hsorted : (a :: xs).Pairwise (· < ·))
    (hv : v ∈ a :: xs) (hearly : ∀ w ∈ a :: xs, w < v → less v w = true) (hlate : ∀ w ∈ a :: xs, v < w → less w v = false) :
    xs.foldl (firstBy less) a = v := by
  induction xs generalizing a with
  | nil => exact (List.mem_singleton.mp hv).symm
  | cons x xs ih =>
    obtain ⟨hax, hxs⟩ := List.pairwise_cons.mp hsorted
    obtain ⟨hx, hrest⟩ := List.pairwise_cons.mp hxs
    have hlt : a < x := hax x (by simp)
    rw [List.foldl_cons]
    have hstep : firstBy less a x = a ∧ v ≠ x ∨ firstBy less a x = x ∧ v ≠ a := by
      unfold firstBy
      by_cases hva : v = a
      · subst hva
        exact .inl ⟨by simp [hlate x (by simp) hlt], by omega⟩
      · by_cases hvx : v = x
        · subst hvx
          exact .inr ⟨by simp [hearly a (by simp) hlt], hva⟩
        · split
          · exact .inr ⟨rfl, hva⟩
          · exact .inl ⟨rfl, hvx⟩
    have hmem : ∀ w, w = a ∨ w = x → ∀ u ∈ w :: xs, u ∈ a :: x :: xs := fun w hw u hu => by
      rcases List.mem_cons.mp hu with rfl | h
      · rcases hw with rfl | rfl <;> simp
      · simp [h]
    rcases hstep with ⟨he, hne⟩ | ⟨he, hne⟩ <;> rw [he]
    · refine ih a (List.pairwise_cons.mpr ⟨fun w hw => hax w (by simp [hw]), hrest⟩) ?_
        (fun w hw => hearly w (hmem a (.inl rfl) w hw)) (fun w hw => hlate w (hmem a (.inl rfl) w hw))
      simpa [hne] using hv
    · refine ih x (List.pairwise_cons.mpr ⟨hx, hrest⟩) ?_
        (fun w hw => hearly w (hmem x (.inr rfl) w hw)) (fun w hw => hlate w (hmem x (.inr rfl) w hw))
      simpa [hne] using hv

theorem indices_sorted (n : Nat) (p : Nat → Bool) : (indices n p).Pairwise (· < ·) :=
  List.Pairwise.filter _ List.pairwise_lt_range

theorem mem_requesters {s : State} {v : Nat} : v ∈ requesters s ↔ v < 24 ∧ requests (voiceOf s v) = true := by
  simp [requesters, indices]

/-! ### What the Fetcher presents -/

section
variable {s : State} {v : Nat}

/-- The voice that stands first is the one the fetch arbiter puts forward (R146). -/
theorem bestOf_requesters (h : FirstRequester s v) : bestOf (fetchLess s) (requesters s) = some v := by
  obtain ⟨hv, hreq, hfirst⟩ := h
  have hmem : v ∈ requesters s := mem_requesters.mpr ⟨hv, hreq⟩
  have hbefore : ∀ w ∈ requesters s, w < v → fetchLess s v w = true := fun w hw hlt => by
    obtain ⟨hw24, hwreq⟩ := mem_requesters.mp hw
    simp only [fetchLess]
    rcases hfirst w hw24 (by omega) hwreq with ⟨h1, h2⟩ | ⟨h1, h2⟩
    · simp [h1, h2]
    · rw [if_pos h1]
      exact decide_eq_true (h2.resolve_right (by omega))
  have hbehind : ∀ w ∈ requesters s, v < w → fetchLess s w v = false := fun w hw hlt => by
    obtain ⟨hw24, hwreq⟩ := mem_requesters.mp hw
    simp only [fetchLess]
    rcases hfirst w hw24 (by omega) hwreq with ⟨h1, h2⟩ | ⟨h1, h2⟩
    · simp [h1, h2]
    · rw [if_pos h1.symm]
      exact decide_eq_false (by omega)
  have hsorted : (requesters s).Pairwise (· < ·) := indices_sorted _ _
  cases hx : requesters s with
  | nil => simp [hx] at hmem
  | cons a xs =>
    rw [hx] at hmem hbefore hbehind hsorted
    exact congrArg some (foldl_firstBy_eq xs a hsorted hmem hbefore hbehind)

theorem fetchRequest_of_first (h : FirstRequester s v) : fetchRequest s = some (.voice v) := by
  simp only [fetchRequest, bestOf_requesters h]

theorem fetchUrgent_of_first (h : FirstRequester s v) : fetchUrgent s = urgent (voiceOf s v) := by
  simp only [fetchUrgent, fetchRequest_of_first h]

theorem fetchRequest_of_none (h : ∀ v, v < 24 → requests (voiceOf s v) = false) : fetchRequest s = s.offer.map .fill := by
  have hnil : requesters s = [] := by
    rw [List.eq_nil_iff_forall_not_mem]
    intro w hw
    obtain ⟨h1, h2⟩ := mem_requesters.mp hw
    simp [h w h1] at h2
  simp only [fetchRequest, hnil, bestOf]

theorem fetchUrgent_of_noneUrgent (h : NoneUrgent s) : fetchUrgent s = false := by
  unfold fetchUrgent
  split
  · rename_i v hv
    have hmem : v ∈ requesters s := by
      simp only [fetchRequest] at hv
      split at hv
      · rename_i w hb
        obtain rfl : w = v := by simpa using hv
        unfold bestOf at hb
        split at hb
        · cases hb
        · rename_i a xs hx
          rw [hx, ← Option.some.inj hb]
          exact foldl_firstBy_mem _ _ _
      · simp at hv
    obtain ⟨h1, h2⟩ := mem_requesters.mp hmem
    exact h v h1 h2
  · rfl

end

/-! ### Who stands first (R15) -/

section
variable {s : State}

/-- The grant of a free port goes to the first request present. -/
theorem arbitrate_grants (hport : s.port = none) (hrst : s.rst = false) {r : Requester}
    (h : (requestsPresent (refreshOffer s)).head? = some r) : arbitrate s = grant r (refreshOffer s) := by
  have hr := refreshOffer_only s
  have hfree : ((refreshOffer s).port.isSome || (refreshOffer s).rst) = false := by
    rw [hr]
    simp [hport, hrst]
  simp only [arbitrate, arbitrateAside, hfree, chosen, h, Bool.false_eq_true, if_false]

theorem head_urgent (hs : s.sweep = none) (hu : fetchUrgent s = true) {f : FetchRequest} (hf : fetchRequest s = some f) :
    (requestsPresent s).head? = some (.fetcher f) := by
  simp [requestsPresent, hs, hu, hf]

theorem head_pressing (hs : s.sweep = none) (hu : fetchUrgent s = false) (hq : queuePressing s = true) {k : ReportKind}
    (hk : reportRequest s = some k) : (requestsPresent s).head? = some (.report k) := by
  simp [requestsPresent, hs, hu, hq, hk]

theorem head_controller (hs : s.sweep = none) (hu : fetchUrgent s = false) (hq : queuePressing s = false)
    (hc : controllerRequests s = true) : (requestsPresent s).head? = some .controller := by
  simp [requestsPresent, hs, hu, hq, hc]

theorem head_fetcher (hs : s.sweep = none) (hu : fetchUrgent s = false) (hq : queuePressing s = false)
    (hc : controllerRequests s = false) {f : FetchRequest} (hf : fetchRequest s = some f) :
    (requestsPresent s).head? = some (.fetcher f) := by
  simp [requestsPresent, hs, hu, hq, hc, hf]

theorem head_report (hs : s.sweep = none) (hf : fetchRequest s = none) (hq : queuePressing s = false)
    (hc : controllerRequests s = false) {k : ReportKind} (hk : reportRequest s = some k) :
    (requestsPresent s).head? = some (.report k) := by
  simp [requestsPresent, hs, hq, hc, hf, hk]

end

/-! ### What the Report Writer presents (R177) -/

section
variable {s : State}

theorem queuePressing_iff : queuePressing s = true ↔ 12 ≤ s.queue.length := decide_eq_true_iff

theorem ringHasRoom_iff : ringHasRoom s = true ↔ s.w + 1 ≠ rd s.shadow := decide_eq_true_iff

theorem eventReady_of_head {r : EventRecord} (hr : s.queue.head? = some r) (hroom : s.w + 1 ≠ rd s.shadow) : eventReady s = true := by
  have hne : s.queue.isEmpty = false := by
    cases hq : s.queue with
    | nil => simp [hq] at hr
    | cons a as => rfl
  simp [eventReady, hne, ringHasRoom_iff.mpr hroom]

theorem eventReady_none (h : s.queue = [] ∨ ¬ s.w + 1 ≠ rd s.shadow) : eventReady s = false := by
  rcases h with h | h
  · simp [eventReady, h]
  · have hroom : ringHasRoom s = false := decide_eq_false h
    simp [eventReady, hroom]

theorem reportRequest_pressing (hs : s.sweep = none) (he : eventReady s = true) (hq : 12 ≤ s.queue.length) :
    reportRequest s = some .event := by
  simp [reportRequest, hs, he, queuePressing_iff.mpr hq]

/-- The event record does not stand before all others: too few are pending, or the ring has no room. -/
def Calm (s : State) : Prop := (eventReady s && queuePressing s) = false

theorem calm_of_not_pressing (h : ¬ (12 ≤ s.queue.length ∧ s.w + 1 ≠ rd s.shadow)) : Calm s := by
  unfold Calm
  rw [Bool.and_eq_false_iff]
  by_cases hq : 12 ≤ s.queue.length
  · exact .inl (eventReady_none (.inr fun hroom => h ⟨hq, hroom⟩))
  · exact .inr (decide_eq_false hq)

theorem reportRequest_result (hs : s.sweep = none) (hc : Calm s) {k : Nat} {c : ResultCode} {rs : List (Nat × ResultCode)}
    (hr : s.results = (k, c) :: rs) : reportRequest s = some (.result k) := by
  simp [reportRequest, hs, hr, show (eventReady s && queuePressing s) = false from hc]

theorem reportRequest_clamp (hs : s.sweep = none) (hc : Calm s) (hr : s.results = []) {off : Nat}
    (hb : lowestWriteBack s = some off) : reportRequest s = some (.clamp off) := by
  simp [reportRequest, hs, hr, hb, show (eventReady s && queuePressing s) = false from hc]

theorem reportRequest_event (hs : s.sweep = none) (hr : s.results = []) (hb : s.writeBacks = []) (he : eventReady s = true) :
    reportRequest s = some .event := by
  simp [reportRequest, hs, hr, hb, lowestWriteBack, he]

/-- Behind results, write-backs and events stand the marked blocks, then the mirror, then the voice records. -/
structure LowPlaces (s : State) : Prop where
  sweep : s.sweep = none
  results : s.results = []
  writeBacks : s.writeBacks = []
  event : eventReady s = false

theorem reportRequest_status (h : LowPlaces s) {i : Nat} (hi : lowestMark s = some i) : reportRequest s = some (.status i) := by
  simp [reportRequest, h.sweep, h.results, h.writeBacks, lowestWriteBack, h.event, hi]

theorem reportRequest_mirror (h : LowPlaces s) (hm : lowestMark s = none) {c : Nat} (hc : lowestMirror s = some c) :
    reportRequest s = some (.mirror c) := by
  simp [reportRequest, h.sweep, h.results, h.writeBacks, lowestWriteBack, h.event, hm, hc]

theorem reportRequest_board (h : LowPlaces s) (hm : lowestMark s = none) (hc : lowestMirror s = none) :
    reportRequest s = boardWrite s := by
  simp [reportRequest, h.sweep, h.results, h.writeBacks, lowestWriteBack, h.event, hm, hc]

theorem lowestWriteBack_eq {b : WriteBack} (hmem : b ∈ s.writeBacks) (hlow : ∀ x, x ∈ s.writeBacks → b.off ≤ x.off) :
    lowestWriteBack s = some b.off := by
  rw [lowestWriteBack, List.min?_eq_some_iff]
  refine ⟨List.mem_map.mpr ⟨b, hmem, rfl⟩, fun x hx => ?_⟩
  obtain ⟨c, hc, rfl⟩ := List.mem_map.mp hx
  exact hlow c hc

/-! ### The Report Writer's grant -/

/-- A report write granted stands on the port with its place and bytes. -/
theorem grantReport_port (k : ReportKind) (s : State) (o : Option Nat) :
    (grantReport k { s with offer := o }).port = some (.report k (regionAddr s (reportBytes s k).1) (reportBytes s k).2 false) := by
  cases k <;> rfl

theorem eventBytes_of_head {r : EventRecord} (hr : s.queue.head? = some r) :
    reportBytes s .event = (0xC000 + 16 * s.w.toNat, eventBytes r) := by
  simp [reportBytes, hr, eventBase]

/-- A port that goes to what the Report Writer presents goes by R177's orders. -/
theorem reportGranted_of {o : Option Nat} {t : State} (hs : s.sweep = none)
    (h : ∀ k, reportRequest s = some k → t = grantReport k { s with offer := o }) : ReportGranted s t := by
  have hport : ∀ k, reportRequest s = some k →
      t.port = some (.report k (regionAddr s (reportBytes s k).1) (reportBytes s k).2 false) := fun k hk => by
    rw [h k hk, grantReport_port]
  unfold ReportGranted
  refine ⟨fun r hp hr => ?_, fun hp => ?_⟩
  · obtain ⟨hq, hroom⟩ := hp
    rw [hport _ (reportRequest_pressing hs (eventReady_of_head hr hroom) hq), eventBytes_of_head hr]
  · have hc := calm_of_not_pressing hp
    refine ⟨fun k c rs hr => ?_, fun b hr hfind hlow => ?_, fun r hr hb hhead hroom => ?_, fun hr hb hno => ?_⟩
    · rw [hport _ (reportRequest_result hs hc hr)]
      simp [reportBytes, hr, slotOffset, ringBase]
    · rw [hport _ (reportRequest_clamp hs hc hr (lowestWriteBack_eq (List.mem_of_find?_eq_some hfind) hlow))]
      simp [reportBytes, writeBackAt, hfind, writeBackValue]
    · rw [hport _ (reportRequest_event hs hr hb (eventReady_of_head hhead hroom)), eventBytes_of_head hhead]
    · have hlow : LowPlaces s := ⟨hs, hr, hb, eventReady_none hno⟩
      refine ⟨fun i hi hm hbelow => ?_, fun hm => ?_⟩
      · have hk := reportRequest_status hlow (head?_indices_eq_some.mpr ⟨hi, hm, hbelow⟩)
        refine ⟨hport _ hk, ?_⟩
        rw [h _ hk]
        change bankGet (bankSet s.marks i false) i false = false
        rw [bankGet_bankSet, if_pos ⟨rfl, hi⟩]
      · have hm' : lowestMark s = none := head?_indices_eq_none.mpr hm
        refine ⟨fun c hc' hf hbelow => ?_, fun hf => ?_⟩
        · have hk := reportRequest_mirror hlow hm' (head?_indices_eq_some.mpr ⟨hc', hf, hbelow⟩)
          refine ⟨hport _ hk, ?_⟩
          rw [h _ hk]
          exact ⟨hf, rfl⟩
        · have hboard := reportRequest_board hlow hm' (head?_indices_eq_none.mpr hf)
          refine ⟨fun v hcopy hv hflag hbelow => ?_, fun c hcopy hnext => ?_⟩
          · have hfirst : (indices 24 (fun v => (voiceOf s v).boardFlag)).head? = some v := head?_indices_eq_some.mpr ⟨hv, hflag, hbelow⟩
            have hk : reportRequest s = some (.board v 0) := by
              rw [hboard]
              simp [boardWrite, hcopy, hfirst]
            refine ⟨?_, ?_, ?_⟩
            · rw [hport _ hk]
              simp [reportBytes, hcopy, quarterOf, boardBase]
            · rw [h _ hk]
              change (voiceOf (setVoice v { voiceOf s v with boardFlag := false } s) v).boardFlag = false
              rw [voiceOf_setVoice, if_pos ⟨rfl, hv⟩]
            · rw [h _ hk]
              rfl
          · obtain ⟨q, hq⟩ := Nat.exists_eq_succ_of_ne_zero (Nat.one_le_iff_ne_zero.mp hnext)
            have hk : reportRequest s = some (.board c.voice c.next) := by
              rw [hboard]
              simp [boardWrite, hcopy]
            refine ⟨?_, ?_⟩
            · rw [hport _ hk]
              simp [reportBytes, hcopy, quarterOf, boardBase]
            · rw [h _ hk, hq]
              exact ⟨rfl, fun _ => rfl⟩

/-! ### The offer of the Head Store (R69) -/

/-- An offer of a slot that is still FILLING stands. -/
theorem refreshOffer_stands {k : Nat} (ho : s.offer = some k) (hk : (slotOf s k).state = .filling) : (refreshOffer s).offer = some k := by
  simp [refreshOffer, ho, slotFilling, hk]

/-- Where none stands, the lowest FILLING slot is offered. -/
theorem refreshOffer_lowest (hport : s.port = none) (hno : ∀ j, s.offer = some j → (slotOf s j).state ≠ .filling) {k : Nat} (hk : k < 8)
    (hf : (slotOf s k).state = .filling) (hbelow : ∀ j, j < k → (slotOf s j).state ≠ .filling) : (refreshOffer s).offer = some k := by
  have hfirst : (indices 8 (slotFilling s)).head? = some k :=
    head?_indices_eq_some.mpr ⟨hk, by simp [slotFilling, hf], fun j hj => by simp [slotFilling, hbelow j hj]⟩
  have hfill : fillInFlight s = false := by simp [fillInFlight, hport]
  unfold refreshOffer
  extract_lets kept
  have hkept : kept = false := by
    simp only [kept]
    split
    · simp [slotFilling, hno _ ‹_›]
    · rfl
  simp only [hkept, hfill, hfirst, Bool.false_eq_true, if_false]

theorem refreshOffer_nothing (h : ∀ k, k < 8 → (slotOf s k).state ≠ .filling) : (refreshOffer s).offer = none := by
  have hall : ∀ k, slotFilling s k = false := fun k => by
    by_cases hk : k < 8
    · simp [slotFilling, h k hk]
    · simp [slotFilling, slotOf_beyond s hk, HeadSlot.blank]
  exact refreshOffer_none (fun k _ => hall k) (fun k _ => hall k)

end

/-- Settles O52: in each case the request named stands first in the list of those present. -/
theorem portIsGrantedByPlace : Obligations.PortIsGrantedByPlace := by
  intro s hport hrst
  extract_lets t burstOf fillOf
  obtain ⟨o, ho⟩ : ∃ o, o = (refreshOffer s).offer := ⟨_, rfl⟩
  have hoffer : refreshOffer s = { s with offer := o } := by rw [ho, ← refreshOffer_only]
  have hgrant : ∀ r, (requestsPresent { s with offer := o }).head? = some r → t = grant r { s with offer := o } := fun r h => by
    rw [← hoffer] at h ⊢
    exact arbitrate_grants hport hrst h
  have hburst : ∀ v, t = grantVoice v { s with offer := o } → burstOf v := fun v ht => by
    simp only [burstOf]
    rw [ht]
    exact ⟨rfl, rfl, _, rfl, rfl⟩
  have hfill : ∀ k, t = grantFill k { s with offer := o } → fillOf k := fun k ht => by
    simp only [fillOf]
    rw [ht]
    refine ⟨?_, rfl⟩
    have haddr : (clipOf s (slotOf s k).clip).base + (slotOf s k).fillPos * (clipOf s (slotOf s k).clip).channels * 2 =
        (clipOf s (slotOf s k).clip).base + 2 * (clipOf s (slotOf s k).clip).channels * (slotOf s k).fillPos := by ring
    rw [← haddr]
    rfl
  have hcalm : s.queue.length < 12 → queuePressing s = false := fun h => decide_eq_false (by simpa [Config.queueUrgent] using h)
  have hidle : (∀ v, v < 24 → requests (voiceOf s v) = false) →
      fetchUrgent { s with offer := o } = false ∧ fetchRequest { s with offer := o } = o.map .fill := fun h =>
    ⟨fetchUrgent_of_noneUrgent (fun v hv hr => absurd ((h v hv).symm.trans hr) (by simp)),
      fetchRequest_of_none (s := { s with offer := o }) h⟩
  have hsweep : s.sweep = none → State.sweep { s with offer := o } = none := id
  refine ⟨arbitrate_frame s, fun i off bytes hs hb => ?_, fun hs => ⟨fun v hv hu => ?_, fun hu hq => ?_, fun hu hq hc => ?_,
    fun v hu hq hc hv => ?_, fun hq hc hno => ⟨fun k hk hf => ?_, fun k hnone hk hf hbelow => ?_⟩, fun honly => ?_⟩⟩
  · exact congrArg State.port (arbitrate_sweeping hport hrst hs hb)
  · have hv' : FirstRequester { s with offer := o } v := hv
    exact hburst v (hgrant _ (head_urgent (hsweep hs) ((fetchUrgent_of_first hv').trans hu) (fetchRequest_of_first hv')))
  · exact reportGranted_of hs fun k hk =>
      hgrant _ (head_pressing (hsweep hs) (fetchUrgent_of_noneUrgent hu) (queuePressing_iff.mpr hq) hk)
  · exact congrArg State.port (hgrant _ (head_controller (hsweep hs) (fetchUrgent_of_noneUrgent hu) (hcalm hq) hc))
  · have hv' : FirstRequester { s with offer := o } v := hv
    exact hburst v (hgrant _ (head_fetcher (hsweep hs) (fetchUrgent_of_noneUrgent hu) (hcalm hq) hc (fetchRequest_of_first hv')))
  · obtain ⟨hu, hreq⟩ := hidle hno
    rw [ho.trans (refreshOffer_stands hk hf)] at hreq hu hgrant hfill hsweep
    exact hfill k (hgrant _ (head_fetcher (hsweep hs) hu (hcalm hq) hc hreq))
  · obtain ⟨hu, hreq⟩ := hidle hno
    rw [ho.trans (refreshOffer_lowest hport hnone hk hf hbelow)] at hreq hu hgrant hfill hsweep
    exact hfill k (hgrant _ (head_fetcher (hsweep hs) hu (hcalm hq) hc hreq))
  · obtain ⟨hno, hk, hc, hq⟩ := honly
    obtain ⟨-, hreq⟩ := hidle hno
    rw [ho.trans (refreshOffer_nothing hk)] at hreq hgrant hsweep
    exact reportGranted_of hs fun k hk => hgrant _ (head_report (hsweep hs) hreq (hcalm hq) hc hk)

end Sys2Proof.Machine
end

section
/-!
SUPPORT. The form of the pending queue through events, the Voice Engine, presses and grants: each operation that does not end a write
of the queue leaves the records alone or raises events one after the other.
-/

namespace Sys2Proof.Machine

/-! ### Consecutive numbers -/

theorem numbered_drop_one {rs : List EventRecord} {next : BitVec 16} (h : numbered rs next) : numbered (rs.drop 1) next := by
  cases rs with
  | nil => exact h
  | cons r rs => exact h.2

/-- A record with the next number keeps a queue numbered. -/
theorem numbered_append {rs : List EventRecord} {next : BitVec 16} (h : numbered rs next) {r : EventRecord} (hr : r.seq = next) :
    numbered (rs ++ [r]) (next + 1) := by
  induction rs with
  | nil =>
    refine ⟨?_, trivial⟩
    rw [hr]
    change next = next + 1#16 - 1#16
    bv_omega
  | cons q rs ih =>
    refine ⟨?_, ih h.2⟩
    have hlen : (rs.append [r]).length = rs.length + 1 := List.length_append
    rw [h.1, hlen, BitVec.ofNat_add (rs.length + 1) 1]
    bv_omega

/-- Only the numbers of the records count. -/
theorem numbered_of_seqs {rs qs : List EventRecord} {next : BitVec 16} (h : numbered rs next)
    (hseq : qs.map EventRecord.seq = rs.map EventRecord.seq) : numbered qs next := by
  induction rs generalizing qs with
  | nil =>
    rw [List.map_nil, List.map_eq_nil_iff] at hseq
    rw [hseq]
    exact h
  | cons r rs ih =>
    cases qs with
    | nil => cases hseq
    | cons q qs =>
      obtain ⟨hq, hqs⟩ := List.cons_eq_cons.mp hseq
      have hlen : qs.length = rs.length := by simpa using congrArg List.length hqs
      exact ⟨by rw [hq, h.1, hlen], ih h.2 hqs⟩

theorem bumpFirst_seqs (k : EventKind) (a : BitVec 16) (rs : List EventRecord) :
    (bumpFirst k a rs).map EventRecord.seq = rs.map EventRecord.seq := by
  induction rs with
  | nil => rfl
  | cons r rs ih =>
    rw [bumpFirst]
    split
    · rfl
    · exact congrArg (r.seq :: ·) ih

/-! ### Keeping the form -/

/-- From a pending queue in form at `s`, that of `t` is in form. -/
def KeepsQueue (s t : State) : Prop := QueueForm s → QueueForm t

theorem KeepsQueue.refl (s : State) : KeepsQueue s s := id

theorem KeepsQueue.trans {s t u : State} (h1 : KeepsQueue s t) (h2 : KeepsQueue t u) : KeepsQueue s u := h2 ∘ h1

theorem foldl_keepsQueue {α : Type} (f : State → α → State) (hf : ∀ s a, KeepsQueue s (f s a)) (xs : List α) (s : State) :
    KeepsQueue s (xs.foldl f s) := by
  induction xs generalizing s with
  | nil => exact KeepsQueue.refl s
  | cons a xs ih => exact (hf s a).trans (ih (f s a))

/-- A step that leaves the queue and the resets alone keeps the form, if it puts no write of the Report Writer on the port. -/
theorem keepsQueue_of_quiet {s t : State} (hq : t.queue = s.queue ∧ t.lost = s.lost ∧ t.nextSeq = s.nextSeq)
    (hr : t.rst = s.rst ∧ t.sweep = s.sweep) (hp : PortStands s t) : KeepsQueue s t := by
  obtain ⟨hqueue, hlost, hnext⟩ := hq
  obtain ⟨hrst, hsweep⟩ := hr
  rintro ⟨hlen, hnum, hcount, hquiet⟩
  rw [QueueForm, hqueue, hlost, hnext, hrst, hsweep]
  refine ⟨hlen, hnum, hcount, fun h => ⟨(hquiet h).1, fun k a bs => ?_⟩⟩
  rcases hp with hp | ⟨b, -, hp⟩ <;> rw [hp]
  · exact (hquiet h).2 k a bs
  · simp

theorem loseEvent_keepsQueue (s : State) : KeepsQueue s (loseEvent s) := fun ⟨hlen, hnum, _, hquiet⟩ =>
  ⟨hlen, hnum, Nat.min_le_left _ _, hquiet⟩

/-- An event raised keeps the form: it is dropped, counted, merged into a record, or put behind the others with the next number
(R173). -/
theorem raiseEvent_keepsQueue (k : EventKind) (a b : Nat) (value : Word) (s : State) :
    KeepsQueue s (raiseEvent k a b value s) := by
  unfold raiseEvent
  split
  · exact KeepsQueue.refl s
  split
  · exact loseEvent_keepsQueue s
  rename_i hrst hsweep
  have hidle : ¬ (s.rst = true ∨ s.sweep.isSome = true) := by simp [hrst, hsweep]
  have hsplit : (splitQueue s).1 ++ (splitQueue s).2 = s.queue := by
    unfold splitQueue
    split
    · exact List.take_append_drop 1 s.queue
    · rfl
  generalize splitQueue s = parts at hsplit ⊢
  obtain ⟨granted, waiting⟩ := parts
  dsimp only at hsplit ⊢
  split
  · rintro ⟨hlen, hnum, hcount, -⟩
    have hseqs : (granted ++ bumpFirst k (BitVec.ofNat 16 a) waiting).map EventRecord.seq = s.queue.map EventRecord.seq := by
      rw [← hsplit, List.map_append, List.map_append, bumpFirst_seqs]
    refine ⟨?_, numbered_of_seqs hnum hseqs, hcount, fun h => absurd h hidle⟩
    have hlength := congrArg List.length hseqs
    rw [List.length_map, List.length_map] at hlength
    exact hlength.trans_le hlen
  split
  · rename_i hroom
    rintro ⟨-, hnum, hcount, -⟩
    refine ⟨?_, numbered_append hnum rfl, hcount, fun h => absurd h hidle⟩
    rw [appendEvent_queue, List.length_append]
    exact hroom
  · exact loseEvent_keepsQueue s

/-! ### The Voice Engine -/

theorem setVoice_keepsQueue (v : Nat) (x : Voice) (s : State) : KeepsQueue s (setVoice v x s) := id

theorem setLine_keepsQueue (n : Nat) (l : Line) (s : State) : KeepsQueue s (setLine n l s) := id

theorem setHeldCue_keepsQueue (n : Nat) (cue : Option Nat) (s : State) : KeepsQueue s (setHeldCue n cue s) := id

theorem setFilter_keepsQueue (n : Nat) (f : FilterState) (d : Nat) (s : State) : KeepsQueue s (setFilter n f d s) := id

theorem dropReader_keepsQueue (k : Nat) (s : State) : KeepsQueue s (dropReader k s) := by
  simp only [dropReader]
  split <;> exact id

theorem leaveSlot_keepsQueue (v : Nat) (s : State) : KeepsQueue s (leaveSlot v s) := by
  simp only [leaveSlot]
  split
  · exact (setVoice_keepsQueue v _ s).trans (dropReader_keepsQueue _ _)
  · exact KeepsQueue.refl s

theorem staleBurst_keepsQueue (v : Nat) (s : State) : KeepsQueue s (staleBurst v s) := by
  have hport : PortStands s (staleBurst v s) := (staleBurst_only v s).2
  revert hport
  unfold staleBurst
  split
  · split <;> exact keepsQueue_of_quiet ⟨rfl, rfl, rfl⟩ ⟨rfl, rfl⟩
  · exact fun _ => KeepsQueue.refl s

theorem emptyFifo_keepsQueue (v : Nat) (s : State) : KeepsQueue s (emptyFifo v s) :=
  (setVoice_keepsQueue v _ s).trans (staleBurst_keepsQueue v _)

theorem lowerUse_keepsQueue (c : Nat) (s : State) : KeepsQueue s (lowerUse c s) := by
  simp only [lowerUse]
  split
  · exact raiseEvent_keepsQueue _ _ _ _ (setClip c _ s)
  · exact id

theorem endVoice_keepsQueue (v : Nat) (reason : EndReason) (s : State) : KeepsQueue s (endVoice v reason s) :=
  ((((setVoice_keepsQueue v _ s).trans (leaveSlot_keepsQueue v _)).trans (emptyFifo_keepsQueue v _)).trans
    (raiseEvent_keepsQueue _ _ _ _ _)).trans (lowerUse_keepsQueue _ _)

theorem beginFall_keepsQueue (v len : Nat) (reason : EndReason) (s : State) : KeepsQueue s (beginFall v len reason s) := by
  simp only [beginFall]
  split
  · exact endVoice_keepsQueue v reason s
  · exact id

theorem releaseVoice_keepsQueue (len : Voice → Option Nat) (f c : EndReason) (v : Nat) (s : State) :
    KeepsQueue s (releaseVoice len f c v s) := by
  simp only [releaseVoice]
  split
  · split
    · exact KeepsQueue.refl s
    · exact endVoice_keepsQueue v c s
  · split
    · exact KeepsQueue.refl s
    · exact endVoice_keepsQueue v f s
    · exact beginFall_keepsQueue v _ f s
    · exact beginFall_keepsQueue v _ f s
    · exact KeepsQueue.refl s

theorem eachVoice_keepsQueue (p : Nat → Voice → Bool) {f : Nat → State → State} (hf : ∀ v s, KeepsQueue s (f v s)) (s : State) :
    KeepsQueue s (eachVoice p f s) := by
  refine foldl_keepsQueue _ (fun t v => ?_) _ s
  split
  · exact hf v t
  · exact KeepsQueue.refl t

theorem releaseAll_keepsQueue (p : Nat → Voice → Bool) (len : Voice → Option Nat) (f c : EndReason) (s : State) :
    KeepsQueue s (eachVoice p (releaseVoice len f c) s) := eachVoice_keepsQueue p (releaseVoice_keepsQueue len f c) s

theorem retriggerStep_keepsQueue (cue : Nat) (c : CueRecord) (s : State) : KeepsQueue s (retriggerStep cue c s) := by
  unfold retriggerStep
  split
  · exact eachVoice_keepsQueue _ (fun v => endVoice_keepsQueue v .restarted) s
  · exact KeepsQueue.refl s

theorem chokeStep_keepsQueue (cue : Nat) (c : CueRecord) (s : State) : KeepsQueue s (chokeStep cue c s) := by
  unfold chokeStep
  split
  · exact KeepsQueue.refl s
  · exact eachVoice_keepsQueue _ (fun v t => releaseVoice_keepsQueue _ _ _ v t) s

theorem joinSlot_keepsQueue (head : Option Nat) (s : State) : KeepsQueue s (joinSlot head s) := by
  cases head <;> exact id

theorem setUp_keepsQueue (f : Fire) (c : CueRecord) (r : Resolved) (v : Nat) (s : State) : KeepsQueue s (setUp f c r v s) := by
  unfold setUp
  extract_lets head s1 s2 s3
  have h1 : KeepsQueue s s1 := (setVoice_keepsQueue v _ s).trans (staleBurst_keepsQueue v _)
  have h2 : KeepsQueue s s2 := h1.trans (KeepsQueue.trans (t := raiseUse c.clip s1) id (joinSlot_keepsQueue head _))
  have h3 : KeepsQueue s s3 := by
    simp only [s3]
    split
    · exact h2
    · exact h2.trans (raiseEvent_keepsQueue _ _ _ _ s2)
  exact h3.trans (raiseEvent_keepsQueue _ _ _ _ s3)

theorem processFire_keepsQueue (f : Fire) (s : State) : KeepsQueue s (processFire f s).1 := by
  unfold processFire
  extract_lets c r s1
  have h : KeepsQueue s s1 := (retriggerStep_keepsQueue f.cue c s).trans (chokeStep_keepsQueue f.cue c _)
  split
  · exact KeepsQueue.refl s
  split
  · exact KeepsQueue.refl s
  split
  · exact h
  · rename_i v steal _
    refine h.trans (KeepsQueue.trans (t := if steal then endVoice v .stolen (drawOne s1) else drawOne s1) ?_
      (setUp_keepsQueue f c r v _))
    split
    · exact endVoice_keepsQueue v .stolen (drawOne s1)
    · exact id

theorem fireReported_keepsQueue (f : Fire) (s : State) : KeepsQueue s (fireReported f s) := by
  simp only [fireReported]
  split
  · exact processFire_keepsQueue f s
  · exact (processFire_keepsQueue f s).trans (raiseEvent_keepsQueue _ _ _ _ _)

/-! ### Presses and releases -/

theorem setPenalty_keepsQueue (n u : Nat) (s : State) : KeepsQueue s (setPenalty n u s) := by
  rw [setPenalty_only]
  exact id

theorem setLockout_keepsQueue (lo : Lockout) (s : State) : KeepsQueue s (setLockout lo s) := by
  rw [setLockout_only]
  exact id

theorem setClock_keepsQueue (c : FrameClock) (s : State) : KeepsQueue s (setClock c s) := by
  rw [setClock_only]
  exact id

theorem eachTimer_keepsQueue {f : Nat → State → State} (hf : ∀ i s, ∃ x, f i s = setTimer i x s) (s : State) :
    KeepsQueue s (eachTimer f s) := by
  refine foldl_keepsQueue _ (fun t i => ?_) _ s
  obtain ⟨x, hx⟩ := hf i t
  rw [hx]
  exact id

theorem lockoutPress_keepsQueue (n : Nat) (s : State) : KeepsQueue s (lockoutPress n s) := by
  simp only [lockoutPress]
  split
  · exact (setPenalty_keepsQueue n _ s).trans (raiseEvent_keepsQueue _ _ _ _ _)
  · split
    · exact KeepsQueue.refl s
    · exact (((setLockout_keepsQueue _ s).trans (raiseEvent_keepsQueue _ _ _ _ _)).trans (fireReported_keepsQueue _ _)).trans
        (eachTimer_keepsQueue (fun i t => ⟨_, winStart_eq i t⟩) _)
  · split
    · exact KeepsQueue.refl s
    · split
      · exact KeepsQueue.refl s
      · exact (setLockout_keepsQueue _ s).trans (raiseEvent_keepsQueue _ _ _ _ _)

theorem panicPress_keepsQueue (s : State) : KeepsQueue s (panicPress s) :=
  ((raiseEvent_keepsQueue _ _ _ _ s).trans (eachTimer_keepsQueue (fun i t => ⟨_, stopTimer_eq i t⟩) _)).trans
    (releaseAll_keepsQueue _ _ .panic .panic _)

theorem takePress_keepsQueue (n : Nat) (s : State) : KeepsQueue s (takePress n s) := by
  unfold takePress
  split
  · exact panicPress_keepsQueue s
  split
  · exact KeepsQueue.refl s
  split
  · exact KeepsQueue.refl s
  · exact lockoutPress_keepsQueue n s
  · exact fireReported_keepsQueue _ s
  · exact (setHeldCue_keepsQueue n _ s).trans (fireReported_keepsQueue _ _)
  · exact eachTimer_keepsQueue (fun i t => ⟨_, holdPress_eq n i t⟩) s

theorem takeRelease_keepsQueue (n : Nat) (s : State) : KeepsQueue s (takeRelease n s) := by
  unfold takeRelease
  split
  · exact raiseEvent_keepsQueue _ _ _ _ s
  split
  · exact KeepsQueue.refl s
  split
  · exact KeepsQueue.refl s
  · exact KeepsQueue.refl s
  · exact KeepsQueue.refl s
  · split
    · exact (releaseAll_keepsQueue _ _ .released .cut s).trans (setHeldCue_keepsQueue n none _)
    · exact KeepsQueue.refl s
  · exact eachTimer_keepsQueue (fun i t => ⟨_, holdRelease_eq n i t⟩) s

theorem leadingEdge_keepsQueue (n : Nat) (s : State) : KeepsQueue s (leadingEdge n s) := by
  simp only [leadingEdge]
  split
  · split
    · exact (setFilter_keepsQueue n .down 0 s).trans (takePress_keepsQueue n _)
    · exact id
  · exact id
  · exact KeepsQueue.refl s

theorem trailingEdge_keepsQueue (n : Nat) (s : State) : KeepsQueue s (trailingEdge n s) := by
  simp only [trailingEdge]
  split
  · exact id
  · split
    · exact (setFilter_keepsQueue n .up 0 s).trans (takeRelease_keepsQueue n _)
    · exact id
  · exact KeepsQueue.refl s

theorem judgedEdge_keepsQueue (n : Nat) (old new : Bool) (s : State) : KeepsQueue s (judgedEdge n old new s) := by
  unfold judgedEdge
  split
  · exact KeepsQueue.refl s
  · split
    · exact leadingEdge_keepsQueue n s
    · exact trailingEdge_keepsQueue n s

theorem filterExpiry_keepsQueue (n : Nat) (s : State) : KeepsQueue s (filterExpiry n s) := by
  unfold filterExpiry
  split
  · exact (setFilter_keepsQueue n .down 0 s).trans (takePress_keepsQueue n _)
  · exact (setFilter_keepsQueue n .up 0 s).trans (takeRelease_keepsQueue n _)
  · exact KeepsQueue.refl s

theorem startLines_keepsQueue (s : State) : KeepsQueue s (startLines s) := by
  refine foldl_keepsQueue _ (fun t n => ?_) _ s
  split
  · exact leadingEdge_keepsQueue n t
  · exact KeepsQueue.refl t

/-! ### The grant -/

/-- A grant puts a write of the Report Writer on the port with no sweep running, and takes nothing of the queue. -/
theorem grant_keepsQueue {r : Requester} {s : State} (hr : r ∈ requestsPresent s) (hrst : s.rst = false) :
    KeepsQueue s (grant r s) := by
  rintro ⟨hlen, hnum, hcount, hquiet⟩
  rcases r with i | (v | k) | k | _
  · simp only [grant, grantSweep]
    split
    · exact ⟨hlen, hnum, hcount, fun h => ⟨(hquiet h).1, by simp⟩⟩
    · exact ⟨hlen, hnum, hcount, hquiet⟩
  · exact ⟨hlen, hnum, hcount, fun h => ⟨(hquiet h).1, by simp [grant, grantVoice]⟩⟩
  · exact ⟨hlen, hnum, hcount, fun h => ⟨(hquiet h).1, by simp [grant, grantFill]⟩⟩
  · have hsweep : s.sweep = none := by
      cases hs : s.sweep with
      | none => rfl
      | some i => exact absurd ((reportRequest_sweeping hs).symm.trans (reportRequest_of_mem hr)) (by simp)
    have hidle : ¬ (s.rst = true ∨ s.sweep.isSome = true) := by simp [hrst, hsweep]
    rcases k with _ | slot | off | i | c | ⟨v, _ | q⟩ <;> exact ⟨hlen, hnum, hcount, fun h => absurd h hidle⟩
  · exact ⟨hlen, hnum, hcount, fun h => ⟨(hquiet h).1, by simp [grant]⟩⟩

theorem arbitrateAside_keepsQueue (aside : Bool) (s : State) : KeepsQueue s (arbitrateAside aside s) := by
  have h : KeepsQueue s (refreshOffer s) := by
    rw [refreshOffer_only]
    exact id
  simp only [arbitrateAside]
  split
  · exact h
  · rename_i hfree
    have hrst : (refreshOffer s).rst = false := (by simpa using hfree : _ ∧ _).2
    split
    · rename_i r hr
      exact h.trans (grant_keepsQueue (chosen_mem hr) hrst)
    · exact h

theorem arbitrate_keepsQueue (s : State) : KeepsQueue s (arbitrate s) := arbitrateAside_keepsQueue false s

end Sys2Proof.Machine
end

section
/-!
PROOF. The pending queue stays in its form (O5): merges and commands, frame events, accesses, the writes of the part, the resets, and
so every command.
-/

namespace Sys2Proof.Machine

/-! ### Merges and commands -/

/-- A step that leaves the queue and the resets alone and frees the port keeps the form. -/
theorem keepsQueue_of_free {s t : State} (hq : t.queue = s.queue ∧ t.lost = s.lost ∧ t.nextSeq = s.nextSeq)
    (hr : t.rst = s.rst ∧ t.sweep = s.sweep) (hp : t.port = none) : KeepsQueue s t := by
  obtain ⟨hqueue, hlost, hnext⟩ := hq
  obtain ⟨hrst, hsweep⟩ := hr
  rintro ⟨hlen, hnum, hcount, hquiet⟩
  rw [QueueForm, hqueue, hlost, hnext, hrst, hsweep, hp]
  exact ⟨hlen, hnum, hcount, fun h => ⟨(hquiet h).1, by simp⟩⟩

theorem preferenceChanged_keepsQueue (s : State) : KeepsQueue s (preferenceChanged s) := by
  simp only [preferenceChanged]
  split
  · split
    · exact KeepsQueue.refl s
    · exact setClock_keepsQueue _ s
    · exact (setClock_keepsQueue _ s).trans (raiseEvent_keepsQueue _ _ _ _ _)
  · exact KeepsQueue.refl s

theorem lineModeEffect_keepsQueue (old : Cells) (n : Nat) (s : State) : KeepsQueue s (lineModeEffect old n s) := by
  simp only [lineModeEffect]
  split
  · exact KeepsQueue.refl s
  · split
    · exact setPenalty_keepsQueue n 0 s
    · split
      · exact setHeldCue_keepsQueue n none s
      · exact KeepsQueue.refl s

theorem preloadEffect_keepsQueue (m : PortMerge) (i : Nat) (s : State) : KeepsQueue s (preloadEffect m i s) := by
  unfold preloadEffect
  split <;> exact id

theorem setupEffects_keepsQueue (old : Cells) (m : PortMerge) (s : State) : KeepsQueue s (setupEffects old m s) := by
  unfold setupEffects
  extract_lets s1 s2 s3 s4 s5
  have h1 : KeepsQueue s s1 := foldl_keepsQueue _ (fun t n => lineModeEffect_keepsQueue old n t) _ s
  have h2 : KeepsQueue s s2 := h1.trans (foldl_keepsQueue _ (fun t n => judgedEdge_keepsQueue n _ _ t) _ s1)
  have h3 : KeepsQueue s s3 := h2.trans (foldl_keepsQueue _ (fun t i => preloadEffect_keepsQueue m i t) _ s2)
  have h4 : KeepsQueue s s4 := by
    simp only [s4]
    split
    · exact h3
    · exact h3.trans (preferenceChanged_keepsQueue s3)
  have h5 : KeepsQueue s s5 := by
    simp only [s5]
    split
    · exact h4.trans (u := judgeAttn s4) id
    · exact h4
  split
  · exact h5.trans (u := restartBoard s5) id
  · exact h5

theorem deckEffects_keepsQueue (old : Cells) (m : PortMerge) (s : State) : KeepsQueue s (deckEffects old m s) := by
  unfold deckEffects
  split
  · exact KeepsQueue.refl s
  · exact eachVoice_keepsQueue _ (fun v t => setVoice_keepsQueue v _ t) s

theorem ringEffects_keepsQueue (m : PortMerge) (s : State) : KeepsQueue s (ringEffects m s) := by
  unfold ringEffects
  split
  · exact raiseEvent_keepsQueue _ _ _ _ s
  · exact KeepsQueue.refl s

theorem performMerge_keepsQueue (m : PortMerge) (s : State) : KeepsQueue s (performMerge m s) := by
  have h : KeepsQueue s (mergeWord m s) := keepsQueue_of_free ⟨rfl, rfl, rfl⟩ ⟨rfl, rfl⟩ rfl
  unfold performMerge
  split
  · exact h.trans (setupEffects_keepsQueue _ m _)
  · exact h.trans (deckEffects_keepsQueue _ m _)
  · exact h.trans (ringEffects_keepsQueue m _)
  · exact h

theorem endMerge_keepsQueue (m : PortMerge) (s : State) : KeepsQueue s (endMerge m s) := by
  unfold endMerge
  split
  · exact keepsQueue_of_free ⟨rfl, rfl, rfl⟩ ⟨rfl, rfl⟩ rfl
  · exact performMerge_keepsQueue m s

/-- A command body that keeps the form. -/
def BodyKeepsQueue (body : CommandBody) : Prop := ∀ a s, KeepsQueue s (body a s).1

/-- One whose arguments are checked first. -/
theorem bodyKeepsQueue_ite {bad : CommandArgs → State → Prop} [∀ a s, Decidable (bad a s)] {code : ResultCode} {body : CommandBody}
    (h : BodyKeepsQueue body) : BodyKeepsQueue (fun a s => if bad a s then refuseWith code s else body a s) := by
  intro a s
  dsimp only
  split
  · exact KeepsQueue.refl s
  · exact h a s

theorem eachWinLeave_keepsQueue (s : State) : KeepsQueue s (eachTimer winLeave s) := by
  refine foldl_keepsQueue _ (fun t i => ?_) _ s
  simp only [winLeave]
  split <;> exact id

theorem lockArmBody_keepsQueue (s : State) : KeepsQueue s (lockArmBody s).1 := by
  simp only [lockArmBody]
  split
  · exact setLockout_keepsQueue _ s
  · exact KeepsQueue.refl s

theorem lockRearmBody_keepsQueue (s : State) : KeepsQueue s (lockRearmBody s).1 := by
  unfold lockRearmBody
  extract_lets lo barred
  split
  · dsimp only
    exact (setLockout_keepsQueue _ s).trans (eachWinLeave_keepsQueue _)
  · exact KeepsQueue.refl s

theorem lockResetBody_keepsQueue (s : State) : KeepsQueue s (lockResetBody s).1 := by
  unfold lockResetBody
  extract_lets lo s1
  have h : KeepsQueue s s1 := setLockout_keepsQueue _ s
  split
  · exact KeepsQueue.refl s
  · dsimp only
    split
    · exact h.trans (eachWinLeave_keepsQueue s1)
    · exact h

theorem startTimer_keepsQueue (k : Nat) (s : State) : KeepsQueue s (startTimer k s) := by
  simp only [startTimer]
  split <;> exact id

theorem stopTimer_keepsQueue (k : Nat) (s : State) : KeepsQueue s (stopTimer k s) := by
  rw [stopTimer_eq]
  exact id

theorem loadOpenBody_keepsQueue (a : CommandArgs) : ∀ s, KeepsQueue s (loadOpenBody a s).1 := by
  intro s
  simp only [loadOpenBody]
  split
  · exact KeepsQueue.refl s
  split
  · exact KeepsQueue.refl s
  split
  · exact KeepsQueue.refl s
  split <;> exact id

theorem loadCloseBody_keepsQueue : BodyKeepsQueue loadCloseBody := by
  intro a s
  simp only [loadCloseBody]
  split
  · exact KeepsQueue.refl s
  split
  · exact KeepsQueue.refl s
  · exact KeepsQueue.trans (t := { setClip _ _ s with session := none }) id (raiseEvent_keepsQueue _ _ _ _ _)

theorem loadAbortBody_keepsQueue (s : State) : KeepsQueue s (loadAbortBody s).1 := by
  unfold loadAbortBody
  split <;> exact id

theorem unpinSlot_keepsQueue (k : Nat) (s : State) : KeepsQueue s (unpinSlot k s) := by
  simp only [unpinSlot]
  split
  · exact id
  · split <;> exact id
  · exact KeepsQueue.refl s

theorem unpinClip_keepsQueue (c : Nat) (s : State) : KeepsQueue s (unpinClip c s) := by
  unfold unpinClip
  split
  · exact unpinSlot_keepsQueue _ s
  · exact KeepsQueue.refl s

theorem clipDiscardBody_keepsQueue (c : Nat) (s : State) : KeepsQueue s (clipDiscardBody c s).1 := by
  simp only [clipDiscardBody]
  split
  · exact KeepsQueue.refl s
  · exact KeepsQueue.refl s
  · exact KeepsQueue.refl s
  · split <;> exact (unpinClip_keepsQueue c s).trans (u := setClip c _ (unpinClip c s)) id

theorem pinBody_keepsQueue (c : Nat) (s : State) : KeepsQueue s (pinBody c s).1 := by
  simp only [pinBody]
  split
  · exact KeepsQueue.refl s
  split
  · exact KeepsQueue.refl s
  split <;> exact id

theorem unpinBody_keepsQueue (c : Nat) (s : State) : KeepsQueue s (unpinBody c s).1 := by
  simp only [unpinBody]
  split
  · split
    · exact KeepsQueue.refl s
    · exact unpinSlot_keepsQueue _ s
  · exact KeepsQueue.refl s

theorem clearMeters_keepsQueue (mask : BitVec 4) (s : State) : KeepsQueue s (clearMeters mask s) := by
  refine foldl_keepsQueue _ (fun t b => ?_) _ s
  split <;> exact id

theorem fireBody_keepsQueue : BodyKeepsQueue fireBody := fun _ s => processFire_keepsQueue _ s

theorem releaseBody_keepsQueue : BodyKeepsQueue releaseBody :=
  bodyKeepsQueue_ite (body := fun _ _ => (_, .done)) fun _ s => releaseAll_keepsQueue _ _ .released .cut s

theorem timerStartBody_keepsQueue : BodyKeepsQueue timerStartBody :=
  bodyKeepsQueue_ite (body := fun _ _ => (_, .done)) fun _ s => startTimer_keepsQueue _ s

theorem timerStopBody_keepsQueue : BodyKeepsQueue timerStopBody :=
  bodyKeepsQueue_ite (body := fun _ _ => (_, .done)) fun _ s => stopTimer_keepsQueue _ s

theorem loadOpenCommand_keepsQueue : BodyKeepsQueue loadOpenCommand := bodyKeepsQueue_ite loadOpenBody_keepsQueue

theorem clipDiscardCommand_keepsQueue : BodyKeepsQueue clipDiscardCommand :=
  bodyKeepsQueue_ite fun _ s => clipDiscardBody_keepsQueue _ s

theorem pinCommand_keepsQueue : BodyKeepsQueue pinCommand := bodyKeepsQueue_ite fun _ s => pinBody_keepsQueue _ s

theorem unpinCommand_keepsQueue : BodyKeepsQueue unpinCommand := bodyKeepsQueue_ite fun _ s => unpinBody_keepsQueue _ s

theorem takeTrigger_keepsQueue {body : CommandBody} (hb : BodyKeepsQueue body) (m : PortMerge) (s : State) :
    KeepsQueue s (takeTrigger body m s) := by
  unfold takeTrigger
  extract_lets s1
  have h : KeepsQueue s s1 := (performMerge_keepsQueue m s).trans (u := advanceIntake (performMerge m s)) id
  exact h.trans (hb (commandArgs s1.shadow m.slot) s1)

/-! ### Frame events -/

theorem handOver_keepsQueue (v : Nat) (s : State) : KeepsQueue s (handOver v s) := by
  simp only [handOver]
  split
  · exact leaveSlot_keepsQueue v s
  · exact KeepsQueue.refl s

theorem resync_keepsQueue (v : Nat) (s : State) : KeepsQueue s (resync v s) :=
  (emptyFifo_keepsQueue v s).trans (setVoice_keepsQueue v _ _)

theorem voiceFrame_keepsQueue (v : Nat) (r : FrameRun) : KeepsQueue r.state (voiceFrame v r).state := by
  unfold voiceFrame
  extract_lets x0 x1 src x2 l rt s2 s3 s4 s5 x5 fallOver
  split
  · have h3 : KeepsQueue r.state s3 := by
      simp only [s3]
      split
      · exact (setVoice_keepsQueue v x2 _).trans (raiseEvent_keepsQueue _ _ _ _ _)
      · exact setVoice_keepsQueue v x2 _
    have h5 : KeepsQueue r.state s5 := by
      have h4 : KeepsQueue r.state s4 := (h3.trans (setVoice_keepsQueue v _ s3)).trans (handOver_keepsQueue v _)
      simp only [s5]
      split
      · exact h4.trans (resync_keepsQueue v s4)
      · exact h4
    split
    · exact h5
    · exact h5.trans (endVoice_keepsQueue v _ s5)
  · exact KeepsQueue.refl _

theorem raiseClock_keepsQueue (e : Option ClockEvent) (s : State) : KeepsQueue s (raiseClock e s) := by
  unfold raiseClock
  split
  · exact raiseEvent_keepsQueue _ _ _ _ s
  · exact KeepsQueue.refl s

theorem formBus_keepsQueue (sums : Sums) (b : Nat) (s : State) : KeepsQueue s (formBus sums b s) := by
  unfold formBus
  extract_lets t old d ql qr l r on s1
  have h : KeepsQueue s s1 := id
  split
  · exact h.trans (raiseEvent_keepsQueue _ _ _ _ s1)
  · exact h

theorem firstTask_keepsQueue (e : Option ClockEvent) (k : FrameTask) (r : FrameRun) :
    KeepsQueue r.state (firstTask e k r).state := by
  unfold firstTask
  split
  · exact voiceFrame_keepsQueue _ r
  · exact raiseClock_keepsQueue e _
  · exact KeepsQueue.refl _

theorem foldl_firstTask_keepsQueue (e : Option ClockEvent) (ks : List FrameTask) (r : FrameRun) :
    KeepsQueue r.state (ks.foldl (fun r k => firstTask e k r) r).state := by
  induction ks generalizing r with
  | nil => exact KeepsQueue.refl _
  | cons k ks ih => exact (firstTask_keepsQueue e k r).trans (ih _)

theorem laterTask_keepsQueue (e : Option ClockEvent) (sums : Sums) (follows : List (Nat × Nat)) (k : FrameTask) (s : State) :
    KeepsQueue s (laterTask e sums follows k s) := by
  unfold laterTask
  split
  · split
    · exact fireReported_keepsQueue _ s
    · exact KeepsQueue.refl s
  · exact formBus_keepsQueue sums _ s
  · exact fireReported_keepsQueue _ s
  · exact raiseClock_keepsQueue e s
  · exact KeepsQueue.refl s

theorem countTimer_keepsQueue (k : Nat) (s : State) : KeepsQueue s (countTimer k s) := by
  simp only [countTimer]
  split
  · exact id
  · split <;> exact id

theorem countBoard_keepsQueue (s : State) : KeepsQueue s (countBoard s) := by
  unfold countBoard
  split
  · exact id
  · split <;> exact id

theorem beginFrame_keepsQueue (s : State) : KeepsQueue s (beginFrame s) := by
  have h : KeepsQueue s (eachTimer countTimer { s with frameCounter := s.frameCounter + 1 }) :=
    foldl_keepsQueue _ (fun t k => countTimer_keepsQueue k t) (List.range 4) { s with frameCounter := s.frameCounter + 1 }
  exact h.trans (countBoard_keepsQueue _)

theorem frameEvent_keepsQueue (choice : FrameChoice) (e : Option ClockEvent) (s : State) :
    KeepsQueue s (frameEvent choice e s) := by
  unfold frameEvent
  split
  · exact KeepsQueue.refl s
  · have hr := foldl_firstTask_keepsQueue e (firstTasks choice (beginFrame s))
      ⟨beginFrame s, Vector.replicate 4 BusSum.zero, []⟩
    dsimp only at hr ⊢
    generalize List.foldl _ _ _ = r at hr ⊢
    exact ((beginFrame_keepsQueue s).trans hr).trans
      (foldl_keepsQueue _ (fun t k => laterTask_keepsQueue e r.sums r.follows k t) _ r.state)

theorem frameExpiry_keepsQueue (choice : FrameChoice) (s : State) : KeepsQueue s (frameExpiry choice s) := by
  simp only [frameExpiry]
  split
  · split <;> exact (setClock_keepsQueue _ s).trans (frameEvent_keepsQueue _ _ _)
  · exact (setClock_keepsQueue _ s).trans (frameEvent_keepsQueue _ _ _)

theorem wclkRise_keepsQueue (choice : FrameChoice) (s : State) : KeepsQueue s (wclkRise choice s) := by
  simp only [wclkRise]
  split
  · split
    · exact KeepsQueue.refl s
    · exact setClock_keepsQueue _ s
  · split
    · exact setClock_keepsQueue _ s
    · exact (setClock_keepsQueue _ s).trans (frameEvent_keepsQueue _ _ _)
  · split
    · exact (setClock_keepsQueue _ s).trans (frameEvent_keepsQueue _ _ _)
    · exact setClock_keepsQueue _ s

/-! ### Accesses -/

theorem acceptSetup_keepsQueue (off : Nat) (a : Access) (s : State) : KeepsQueue s (acceptSetup off a s) := by
  unfold acceptSetup
  extract_lets cs s1 lanes
  have h : KeepsQueue s s1 := by
    refine foldl_keepsQueue _ (fun t f => ?_) cs s
    simp only [handWriteBack]
    split <;> exact id
  split
  · exact h.trans (u := accessDone s1) id
  · exact h.trans (u := holdAs a _ s1) id

theorem judgeShadowed_keepsQueue (off : Nat) (a : Access) (s : State) : KeepsQueue s (judgeShadowed off a s) := by
  unfold judgeShadowed
  split
  · split
    · exact raiseEvent_keepsQueue _ _ _ _ s
    · exact acceptSetup_keepsQueue off a s
  · exact id
  · exact id

theorem judgeLoad_keepsQueue (se : Session) (off : Nat) (a : Access) (s : State) : KeepsQueue s (judgeLoad se off a s) := by
  unfold judgeLoad
  split
  · exact raiseEvent_keepsQueue _ _ _ _ s
  · split
    · exact raiseEvent_keepsQueue _ _ _ _ s
    · exact id

theorem serve_keepsQueue (k : Arrival) (a : Access) (s : State) : KeepsQueue s (serve k a s) := by
  unfold serve
  split
  · exact id
  · exact id
  · exact raiseEvent_keepsQueue _ _ _ _ s
  · exact raiseEvent_keepsQueue _ _ _ _ s
  · exact judgeShadowed_keepsQueue _ a s
  · split
    · exact judgeLoad_keepsQueue _ _ a s
    · exact id
  · split
    · simp only [judgeVerify]
      split <;> exact id
    · exact id

theorem arrive_keepsQueue (a : Access) (s : State) : KeepsQueue s (arrive a s) := by
  unfold arrive
  split
  · exact id
  · exact serve_keepsQueue _ a s

theorem classifyHeld_keepsQueue (s : State) : KeepsQueue s (classifyHeld s) := by
  unfold classifyHeld
  split
  · split
    · exact KeepsQueue.refl s
    · exact serve_keepsQueue _ _ s
  · exact KeepsQueue.refl s

theorem endDirect_keepsQueue (a : Access) (s : State) : KeepsQueue s (endDirect a s) := by
  unfold endDirect
  split <;> exact keepsQueue_of_free ⟨rfl, rfl, rfl⟩ ⟨rfl, rfl⟩ rfl

theorem endConverted_keepsQueue (a : Access) (todo : List HalfWrite) (s : State) : KeepsQueue s (endConverted a todo s) := by
  simp only [endConverted]
  split
  · exact keepsQueue_of_free ⟨rfl, rfl, rfl⟩ ⟨rfl, rfl⟩ rfl
  · split <;> exact keepsQueue_of_free ⟨rfl, rfl, rfl⟩ ⟨rfl, rfl⟩ rfl

theorem endVerify_keepsQueue (a : Access) (j : VerifyJob) (s : State) : KeepsQueue s (endVerify a j s) := by
  simp only [endVerify]
  split
  · exact keepsQueue_of_free ⟨rfl, rfl, rfl⟩ ⟨rfl, rfl⟩ rfl
  · split <;> exact keepsQueue_of_free ⟨rfl, rfl, rfl⟩ ⟨rfl, rfl⟩ rfl

/-! ### Bursts and writes of the part -/

theorem portFree_keepsQueue (s : State) : KeepsQueue s (portFree s) := keepsQueue_of_free ⟨rfl, rfl, rfl⟩ ⟨rfl, rfl⟩ rfl

theorem landBurst_keepsQueue (b : Burst) (s : State) : KeepsQueue s (landBurst b s) := by
  unfold landBurst
  split <;> exact id

theorem landFill_keepsQueue (b : FillBurst) (s : State) : KeepsQueue s (landFill b s) := by
  unfold landFill
  extract_lets h h'
  split
  · split
    · exact KeepsQueue.trans (t := setSlot b.slot { h' with state := .ready } s) id (raiseEvent_keepsQueue _ _ _ _ _)
    · exact id
  · exact KeepsQueue.refl s

theorem partWrite_keepsQueue (addr : Nat) (bytes : List Byte) (orphan : Bool) (s : State) :
    KeepsQueue s (partWrite addr bytes orphan s) := keepsQueue_of_free ⟨rfl, rfl, rfl⟩ ⟨rfl, rfl⟩ rfl

/-- The head record leaves the queue, and a LOST record may take the place it leaves (R174, R175). -/
theorem eventWritten_queueForm {s : State} (hs : QueueForm s) (hidle : ¬ (s.rst = true ∨ s.sweep.isSome = true)) :
    QueueForm (eventWritten s) := by
  obtain ⟨hlen, hnum, hcount, -⟩ := hs
  have hnum' : numbered (s.queue.drop 1) s.nextSeq := numbered_drop_one hnum
  have hlen' : (s.queue.drop 1).length ≤ 15 := by
    rw [List.length_drop]
    omega
  simp only [eventWritten, appendLost]
  split
  · exact ⟨hlen'.trans (by omega), hnum', hcount, fun h => absurd h hidle⟩
  · refine ⟨?_, numbered_append hnum' rfl, Nat.zero_le _, fun h => absurd h hidle⟩
    rw [appendEvent_queue, List.length_append]
    exact Nat.succ_le_succ hlen'

/-- A report write ends outside resets and the sweep: of the kinds, an event alone reaches the queue. -/
theorem reportWritten_queueForm (k : ReportKind) {s : State} (hs : QueueForm s) (hidle : ¬ (s.rst = true ∨ s.sweep.isSome = true)) :
    QueueForm (reportWritten k s) := by
  unfold reportWritten
  split
  · exact eventWritten_queueForm hs hidle
  · exact hs
  · unfold clampWritten
    split
    · exact hs
    · split <;> exact hs
  · exact hs
  · exact hs
  · exact hs

/-! ### Resets and the sweep -/

/-- The assertion of RST# empties the queue, and a write of the Report Writer on the port is one that a reset has met (R20, R180). -/
theorem assertReset_queueForm (s : State) : QueueForm (assertReset s) := by
  refine ⟨Nat.zero_le _, trivial, Nat.zero_le _, fun _ => ⟨rfl, fun k a bs => ?_⟩⟩
  change portMet s.port ≠ _
  unfold portMet
  split <;> simp_all

theorem poweredOn_queueForm (straps : BitVec 4) (s : State) : QueueForm (poweredOn straps s) := by
  refine ⟨Nat.zero_le _, trivial, Nat.zero_le _, fun _ => ⟨rfl, fun k a bs => ?_⟩⟩
  simp [poweredOn]

/-- Behind the release the sweep keeps the queue as RST# had it: empty. -/
theorem releaseReset_queueForm (straps : BitVec 4) {s : State} (hs : QueueForm s) (hrst : s.rst = true) :
    QueueForm (releaseReset straps s) :=
  ⟨hs.1, hs.2.1, hs.2.2.1, fun _ => hs.2.2.2 (.inl hrst)⟩

theorem raiseOwed_keepsQueue (s : State) : KeepsQueue s (raiseOwed s) :=
  KeepsQueue.trans (t := { s with owed := [] }) id (foldl_keepsQueue _ (fun t _ => raiseEvent_keepsQueue _ _ _ _ t) _ _)

theorem endSweep_keepsQueue (s : State) : KeepsQueue s (endSweep s) := by
  unfold endSweep
  extract_lets kind s1
  have h1 : KeepsQueue s s1 := fun ⟨hlen, hnum, hcount, hquiet⟩ =>
    ⟨hlen, hnum, hcount, fun h => hquiet (.inl (h.resolve_right (by simp [s1])))⟩
  have h2 : KeepsQueue s (markAll (raiseEvent kind s.crb (storedClips s) 0 s1)) :=
    (h1.trans (raiseEvent_keepsQueue _ _ _ _ s1)).trans (u := markAll _) id
  exact (h2.trans (raiseOwed_keepsQueue _)).trans (classifyHeld_keepsQueue _)

theorem sweepWriteEnds_keepsQueue (addr : Nat) (bytes : List Byte) (s : State) : KeepsQueue s (sweepWriteEnds addr bytes s) := by
  unfold sweepWriteEnds
  extract_lets s1
  have h1 : KeepsQueue s s1 := partWrite_keepsQueue addr bytes false s
  split
  · exact h1.trans (arbitrate_keepsQueue s1)
  · rename_i i hi
    split
    · have h2 : KeepsQueue s1 { s1 with sweep := some (i + 1) } := fun ⟨hlen, hnum, hcount, hquiet⟩ =>
        ⟨hlen, hnum, hcount, fun _ => hquiet (.inr (by rw [hi]; rfl))⟩
      exact (h1.trans h2).trans (arbitrateAside_keepsQueue true _)
    · exact (h1.trans (endSweep_keepsQueue s1)).trans (arbitrate_keepsQueue _)

/-! ### Steps -/

/-- The next state, where the outcome is one, has its queue in form. -/
def NextQueueForm (o : Outcome) : Prop := ∀ t, o = .next t → QueueForm t

theorem nextQueueForm_next {t : State} (h : QueueForm t) : NextQueueForm (.next t) := by
  rintro _ ⟨⟩
  exact h

theorem nextQueueForm_arbitrate {t : State} (h : QueueForm t) : NextQueueForm (.next (arbitrate t)) :=
  nextQueueForm_next (arbitrate_keepsQueue t h)

section
variable {s : State} (hs : QueueForm s)
include hs

theorem arriveAs_queueForm (p : Arrival → Bool) (a : Access) : NextQueueForm (arriveAs p a s) := by
  unfold arriveAs
  split
  · exact nextQueueForm_arbitrate (arrive_keepsQueue a s hs)
  · exact nextQueueForm_next hs

theorem mergeStep_queueForm (p : PortMerge → State → Bool) : NextQueueForm (mergeStep p s) := by
  unfold mergeStep
  split
  · split
    · exact nextQueueForm_arbitrate (endMerge_keepsQueue _ s hs)
    · exact nextQueueForm_next hs
  · exact nextQueueForm_next hs

theorem commandStep_queueForm (p : Nat → Bool) {body : CommandBody} (hb : BodyKeepsQueue body) :
    NextQueueForm (commandStep p body s) := by
  unfold commandStep
  split
  · split
    · exact nextQueueForm_arbitrate (takeTrigger_keepsQueue hb _ s hs)
    · exact nextQueueForm_next hs
  · exact nextQueueForm_next hs

/-- A write that no reset has met ends outside resets and the sweep, since the form has none on the port within them. -/
theorem reportStep_queueForm (p : ReportKind → Bool) : NextQueueForm (reportStep p s) := by
  unfold reportStep
  split
  · rename_i k addr bytes orphan hport
    split
    · have h := partWrite_keepsQueue addr bytes orphan s hs
      refine nextQueueForm_arbitrate ?_
      split
      · exact h
      · rename_i horphan
        rw [Bool.not_eq_true] at horphan
        have hidle : ¬ (s.rst = true ∨ s.sweep.isSome = true) := fun hr => (hs.2.2.2 hr).2 k addr bytes (horphan ▸ hport)
        exact reportWritten_queueForm k h hidle
    · exact nextQueueForm_next hs
  · exact nextQueueForm_next hs

theorem afterTime_queueForm (d : Nat) {event : State → State} (he : ∀ t, KeepsQueue t (event t)) :
    NextQueueForm (afterTime d event s) := by
  unfold afterTime
  split
  · exact nextQueueForm_arbitrate (he (elapse d s) hs)
  · exact nextQueueForm_next hs

theorem execRstAssert_queueForm : NextQueueForm (execRstAssert s) := by
  unfold execRstAssert
  split
  · exact nextQueueForm_next hs
  · exact nextQueueForm_next (assertReset_queueForm _)

theorem execRstRelease_queueForm (straps : BitVec 4) : NextQueueForm (execRstRelease straps s) := by
  unfold execRstRelease
  split
  · rename_i hrst
    exact nextQueueForm_arbitrate
      ((startLines_keepsQueue _).trans (classifyHeld_keepsQueue _) (releaseReset_queueForm straps hs hrst))
  · exact nextQueueForm_next hs

theorem execSweepWrite_queueForm : NextQueueForm (execSweepWrite s) := by
  unfold execSweepWrite
  split
  · split
    · exact nextQueueForm_arbitrate (partWrite_keepsQueue _ _ _ s hs)
    · exact nextQueueForm_next (sweepWriteEnds_keepsQueue _ _ s hs)
  · exact nextQueueForm_next hs

theorem execControlRegionRead_queueForm (addr : BitVec 28) : NextQueueForm (execControlRegionRead addr s) := by
  unfold execControlRegionRead
  split
  · exact arriveAs_queueForm hs _ _
  · exact nextQueueForm_next hs

theorem execNoLaneWrite_queueForm (addr : BitVec 28) (data : Word) : NextQueueForm (execNoLaneWrite addr data s) := by
  unfold execNoLaneWrite
  split <;> exact nextQueueForm_next hs

theorem execMemoryAccessEnd_queueForm : NextQueueForm (execMemoryAccessEnd s) := by
  unfold execMemoryAccessEnd
  split
  · exact nextQueueForm_arbitrate (endDirect_keepsQueue _ s hs)
  · exact nextQueueForm_next hs

theorem execConvertedWriteHalfEnd_queueForm : NextQueueForm (execConvertedWriteHalfEnd s) := by
  unfold execConvertedWriteHalfEnd
  split
  · exact nextQueueForm_arbitrate (endConverted_keepsQueue _ _ s hs)
  · exact nextQueueForm_next hs

theorem execVerifyReadHalfEnd_queueForm : NextQueueForm (execVerifyReadHalfEnd s) := by
  unfold execVerifyReadHalfEnd
  split
  · exact nextQueueForm_arbitrate (endVerify_keepsQueue _ _ s hs)
  · exact nextQueueForm_next hs

theorem execFetchBurstLand_queueForm : NextQueueForm (execFetchBurstLand s) := by
  unfold execFetchBurstLand
  split
  · exact nextQueueForm_arbitrate ((portFree_keepsQueue s).trans (landBurst_keepsQueue _ _) hs)
  · exact nextQueueForm_next hs

theorem execHeadFillBurstLand_queueForm : NextQueueForm (execHeadFillBurstLand s) := by
  unfold execHeadFillBurstLand
  split
  · exact nextQueueForm_arbitrate ((portFree_keepsQueue s).trans (landFill_keepsQueue _ _) hs)
  · exact nextQueueForm_next hs

theorem execFilterTimerExpiry_queueForm (line : Fin 10) : NextQueueForm (execFilterTimerExpiry line s) := by
  unfold execFilterTimerExpiry
  split
  · exact afterTime_queueForm hs _ (filterExpiry_keepsQueue _)
  · exact nextQueueForm_next hs

theorem execPenaltyEnd_queueForm (line : Fin 8) : NextQueueForm (execPenaltyEnd line s) := by
  unfold execPenaltyEnd
  split
  · exact afterTime_queueForm hs _ (setPenalty_keepsQueue _ 0)
  · exact nextQueueForm_next hs

theorem freeFrameStep_queueForm : NextQueueForm (freeFrameStep s) :=
  afterTime_queueForm hs _ (fun t => KeepsQueue.trans (t := drawOne t) id (frameExpiry_keepsQueue _ _))

theorem execTimerExpiry_queueForm (k : Fin 4) : NextQueueForm (execTimerExpiry k s) := by
  unfold execTimerExpiry
  split
  · exact freeFrameStep_queueForm hs
  · exact nextQueueForm_next hs

theorem execBoardIntervalExpiry_queueForm : NextQueueForm (execBoardIntervalExpiry s) := by
  unfold execBoardIntervalExpiry
  split
  · exact freeFrameStep_queueForm hs
  · exact nextQueueForm_next hs

theorem execGapTimerExpiry_queueForm : NextQueueForm (execGapTimerExpiry s) := by
  unfold execGapTimerExpiry
  split
  · exact afterTime_queueForm hs _ (fun t => setClock_keepsQueue _ t)
  · exact nextQueueForm_next hs

/-- Every command keeps the queue in form. -/
theorem exec_queueForm (i : Instr) : NextQueueForm (exec i s) := by
  cases i <;> dsimp only [exec]
  case powerOn => exact nextQueueForm_arbitrate (startLines_keepsQueue _ (poweredOn_queueForm _ s))
  case rstAssert => exact execRstAssert_queueForm hs
  case rstRelease => exact execRstRelease_queueForm hs _
  case sweepWrite => exact execSweepWrite_queueForm hs
  case plainAccess | reportAreaWrite | clipExtentWrite | loadWindowWrite | verifyRead | shadowedWriteArrival =>
    exact arriveAs_queueForm hs _ _
  case controlRegionRead => exact execControlRegionRead_queueForm hs _
  case noLaneWrite => exact execNoLaneWrite_queueForm hs _ _
  case memoryAccessEnd => exact execMemoryAccessEnd_queueForm hs
  case convertedWriteHalfEnd => exact execConvertedWriteHalfEnd_queueForm hs
  case verifyReadHalfEnd => exact execVerifyReadHalfEnd_queueForm hs
  case shadowWrite | rdWrite | lwbWrite | lineModeWrite | polarityWrite | timerPreloadWrite | clockPreferenceWrite |
      boardIntervalWrite | cueLevelEdit => exact mergeStep_queueForm hs _
  case unknownCommand => exact commandStep_queueForm hs _ (fun _ t => KeepsQueue.refl t)
  case fire => exact commandStep_queueForm hs _ fireBody_keepsQueue
  case release => exact commandStep_queueForm hs _ releaseBody_keepsQueue
  case lockArm => exact commandStep_queueForm hs _ (fun _ => lockArmBody_keepsQueue)
  case lockRearm => exact commandStep_queueForm hs _ (fun _ => lockRearmBody_keepsQueue)
  case lockReset => exact commandStep_queueForm hs _ (fun _ => lockResetBody_keepsQueue)
  case timerStart => exact commandStep_queueForm hs _ timerStartBody_keepsQueue
  case timerStop => exact commandStep_queueForm hs _ timerStopBody_keepsQueue
  case loadOpen => exact commandStep_queueForm hs _ loadOpenCommand_keepsQueue
  case loadClose => exact commandStep_queueForm hs _ loadCloseBody_keepsQueue
  case loadAbort => exact commandStep_queueForm hs _ (fun _ => loadAbortBody_keepsQueue)
  case clipDiscard => exact commandStep_queueForm hs _ clipDiscardCommand_keepsQueue
  case pin => exact commandStep_queueForm hs _ pinCommand_keepsQueue
  case unpin => exact commandStep_queueForm hs _ unpinCommand_keepsQueue
  case meterClear => exact commandStep_queueForm hs _ (fun _ => clearMeters_keepsQueue _)
  case resultWrite | clampWriteBack | eventRecordWrite | statusBlockWrite | directoryMirrorWrite | voiceBoardQuarterWrite =>
    exact reportStep_queueForm hs _
  case fetchBurstLand => exact execFetchBurstLand_queueForm hs
  case headFillBurstLand => exact execHeadFillBurstLand_queueForm hs
  case lineEdge =>
    exact afterTime_queueForm hs _ (fun t => KeepsQueue.trans (t := setPin _ _ t) id (judgedEdge_keepsQueue _ _ _ _))
  case filterTimerExpiry => exact execFilterTimerExpiry_queueForm hs _
  case penaltyEnd => exact execPenaltyEnd_queueForm hs _
  case timerExpiry => exact execTimerExpiry_queueForm hs _
  case boardIntervalExpiry => exact execBoardIntervalExpiry_queueForm hs
  case frameTimerExpiry => exact afterTime_queueForm hs _ (frameExpiry_keepsQueue _)
  case wclkEdge => exact afterTime_queueForm hs _ (wclkRise_keepsQueue _)
  case gapTimerExpiry => exact execGapTimerExpiry_queueForm hs

theorem takeDue_queueForm (d : Due) : NextQueueForm (takeDue d s) := by
  cases d with
  | filter n => exact execFilterTimerExpiry_queueForm hs n
  | penalty n => exact execPenaltyEnd_queueForm hs n
  | frame => exact freeFrameStep_queueForm hs
  | gap => exact execGapTimerExpiry_queueForm hs

theorem chooseDue_queueForm (d : Due) (ds : List Due) : QueueForm (chooseDue s d ds).2 := by
  cases ds <;> exact hs

theorem idle_queueForm : NextQueueForm (idle s) := by
  unfold idle
  split
  · exact nextQueueForm_next hs
  · rename_i d ds _
    have h := chooseDue_queueForm hs d ds
    generalize chooseDue s d ds = c at h ⊢
    exact takeDue_queueForm h c.1

end

/-- Settles O5: a step is the command at the front of the queue or what an idle part does, and each keeps the form. -/
theorem stepKeepsQueueForm : Obligations.StepKeepsQueueForm := by
  intro s t hs h
  unfold step at h
  split at h
  · rename_i c cs _
    have hs' : QueueForm { s with pending := cs } := hs
    exact exec_queueForm hs' c t h
  · exact idle_queueForm hs t h

end Sys2Proof.Machine
end

section
/-!
PROOF. The writes of the sweep in their order (O11): a run of blocks begins where those before it end.
-/

namespace Sys2Proof.Machine

/-- Writes beyond the first runs fall in those behind them. -/
theorem runOffset_append (pre rs : List (Nat × Nat)) {i : Nat} (h : (pre.map Prod.snd).sum ≤ i) :
    runOffset (pre ++ rs) i = runOffset rs (i - (pre.map Prod.snd).sum) := by
  induction pre generalizing i with
  | nil => rfl
  | cons r pre ih =>
    rw [List.map_cons, List.sum_cons] at h ⊢
    have hrest : (pre.map Prod.snd).sum ≤ i - r.2 := by omega
    rw [List.cons_append, runOffset, if_neg (by omega), ih hrest, Nat.sub_sub]

/-- The runs up to the Cue Deck, which is left out while the deck-clear flag is clear. -/
def deckRuns (deckClear : Bool) : List (Nat × Nat) := [(0, 16), (ringBase, 64)] ++ if deckClear then [(deckBase, 1024)] else []

/-- The runs of the report area. -/
def reportRuns : List (Nat × Nat) := [(boardBase, 96), (statusBase, 16), (mirrorBase, 128), (eventBase, 256)]

theorem sweepRuns_eq (d : Bool) : sweepRuns d = deckRuns d ++ reportRuns := rfl

theorem deckRuns_sum (d : Bool) : ((deckRuns d).map Prod.snd).sum = 80 + if d then 1024 else 0 := by
  cases d <;> rfl

section
variable {s : State} {pre rest : List (Nat × Nat)} {off n total i : Nat}

/-- A write within a run is of the block as far into the run as the write is behind the runs before it. -/
theorem sweepBlock_of_run (hruns : sweepRuns s.deckClear = pre ++ (off, n) :: rest) (htotal : (pre.map Prod.snd).sum = total)
    (hlow : total ≤ i) (hhigh : i < total + n) :
    sweepBlock s i = some (off + 16 * (i - total),
      readBytes (if off + 16 * (i - total) < 0x100 then defaultSetup s.crb else []) (off + 16 * (i - total)) 16) := by
  have hrun : runOffset (sweepRuns s.deckClear) i = .inl (off + 16 * (i - total)) := by
    rw [hruns, runOffset_append _ _ (htotal ▸ hlow), htotal]
    exact if_pos (by omega)
  rw [sweepBlock, hrun]

/-- Beyond the Setup Block the blocks are zero. -/
theorem sweepBlock_of_zeroRun (hruns : sweepRuns s.deckClear = pre ++ (off, n) :: rest) (htotal : (pre.map Prod.snd).sum = total)
    (hoff : 0x100 ≤ off) (hlow : total ≤ i) (hhigh : i < total + n) :
    sweepBlock s i = some (off + 16 * (i - total), List.replicate 16 0) := by
  rw [sweepBlock_of_run hruns htotal hlow hhigh, if_neg (by omega)]
  rfl

theorem sweepBlock_of_reportRun (hruns : reportRuns = pre ++ (off, n) :: rest)
    (htotal : 80 + (if s.deckClear then 1024 else 0) + (pre.map Prod.snd).sum = total)
    (hoff : 0x100 ≤ off) (hlow : total ≤ i) (hhigh : i < total + n) :
    sweepBlock s i = some (off + 16 * (i - total), List.replicate 16 0) :=
  sweepBlock_of_zeroRun (pre := deckRuns s.deckClear ++ pre) (by rw [sweepRuns_eq, hruns, List.append_assoc])
    (by rw [List.map_append, List.sum_append, deckRuns_sum, htotal]) hoff hlow hhigh

/-- Behind the runs stand the entries of the clips that are not EMPTY. -/
theorem sweepBlock_beyond (h : 576 + (if s.deckClear then 1024 else 0) ≤ i) : sweepBlock s i =
    ((keptClips s)[i - (576 + if s.deckClear then 1024 else 0)]?).map (fun c => (mirrorBase + 16 * c, mirrorBytes (clipOf s c))) := by
  have hsum : ((sweepRuns s.deckClear).map Prod.snd).sum = 576 + if s.deckClear then 1024 else 0 := by
    rw [sweepRuns_eq, List.map_append, List.sum_append, deckRuns_sum]
    change 80 + _ + 496 = _
    omega
  have hrun := runOffset_append (sweepRuns s.deckClear) [] (hsum ▸ h)
  rw [List.append_nil, hsum] at hrun
  rw [sweepBlock, hrun]
  rfl

end

/-- Settles O11: each run begins behind the sum of those before it, and the entries of the clips stand behind them all. -/
theorem sweepWritesBlocksInOrder : Obligations.SweepWritesBlocksInOrder := by
  intro s i d zero
  refine ⟨fun h => ?_, sweepBlock_of_zeroRun (pre := [(0, 16)]) rfl rfl (by decide), fun hlow hhigh => ?_, fun hlow hhigh => ?_,
    fun hlow hhigh => ?_, fun hlow hhigh => ?_, fun hlow hhigh => ?_, sweepBlock_beyond⟩
  · rw [sweepBlock_of_run (pre := []) (total := 0) rfl rfl (Nat.zero_le i) (by omega), Nat.zero_add, Nat.sub_zero, if_pos (by omega)]
  · have hset : s.deckClear = true := by
      by_contra hclear
      have hd : d = 0 := if_neg hclear
      omega
    have hd : d = 1024 := if_pos hset
    exact sweepBlock_of_zeroRun (pre := deckRuns false) (n := 1024) (by rw [hset]; rfl) rfl (by decide) hlow (by omega)
  · exact sweepBlock_of_reportRun (pre := []) (n := 96) rfl rfl (by decide) hlow (by omega)
  · exact sweepBlock_of_reportRun (pre := [(boardBase, 96)]) (n := 16) rfl (by change 80 + d + 96 = _; omega) (by decide) hlow (by omega)
  · exact sweepBlock_of_reportRun (pre := [(boardBase, 96), (statusBase, 16)]) (n := 128) rfl (by change 80 + d + 112 = _; omega)
      (by decide) hlow (by omega)
  · exact sweepBlock_of_reportRun (pre := [(boardBase, 96), (statusBase, 16), (mirrorBase, 128)]) (n := 256) rfl
      (by change 80 + d + 240 = _; omega) (by decide) hlow (by omega)

end Sys2Proof.Machine
end

section
/-!
PROOF. What raising an event makes of the pending queue (O49).
-/

namespace Sys2Proof.Machine

theorem merges_iff (k : EventKind) : k.merges = true ↔
    k = .loadPartial ∨ k = .loadRange ∨ k = .guardWrite ∨ k = .setupRefused ∨ k = .ringSeq ∨ k = .busClip := by
  cases k <;> decide

theorem sameSubject_iff (k : EventKind) (a : BitVec 16) (r : EventRecord) :
    sameSubject k a r = true ↔ r.kind = k ∧ r.subjectA = a := by
  simp [sameSubject]

/-- The number of records that take no merge any more: the head, once its write is granted (R173). -/
def grantedCount (s : State) : Nat := if headGranted s then 1 else 0

theorem splitQueue_eq (s : State) : splitQueue s = (s.queue.take (grantedCount s), s.queue.drop (grantedCount s)) := by
  unfold splitQueue grantedCount
  split <;> rfl

/-- The first record of the kind and subject takes the merge. -/
theorem bumpFirst_of_first {k : EventKind} {a : BitVec 16} {rs : List EventRecord} {i : Nat} {r : EventRecord} (hr : rs[i]? = some r)
    (hsame : sameSubject k a r = true) (hbefore : ∀ j q, j < i → rs[j]? = some q → sameSubject k a q = false) :
    bumpFirst k a rs = rs.set i { r with repeats := satAdd 255 r.repeats 1 } := by
  induction rs generalizing i with
  | nil => cases hr
  | cons q rs ih =>
    cases i with
    | zero =>
      obtain rfl : q = r := by simpa using hr
      exact if_pos hsame
    | succ i =>
      have hq : sameSubject k a q = false := hbefore 0 q (Nat.succ_pos i) rfl
      have hrest := ih (by simpa using hr) fun j p hj hp => hbefore (j + 1) p (Nat.succ_lt_succ hj) (by simpa using hp)
      rw [bumpFirst, if_neg (by simp [hq]), hrest]
      rfl

section
variable {k : EventKind} {a b : Nat} {value : Word} {s : State}

theorem raiseEvent_of_reset (h : s.rst = true) : raiseEvent k a b value s = s := if_pos h

theorem raiseEvent_of_sweep (hrst : s.rst = false) (hs : s.sweep ≠ none) : raiseEvent k a b value s = loseEvent s := by
  rw [raiseEvent, if_neg (by simp [hrst]), if_pos (Option.isSome_iff_ne_none.mpr hs)]

/-- Outside resets and the sweep. -/
theorem raiseEvent_open (hrst : s.rst = false) (hs : s.sweep = none) : raiseEvent k a b value s =
    if k.merges && (s.queue.drop (grantedCount s)).any (sameSubject k (BitVec.ofNat 16 a)) then
      { s with queue := s.queue.take (grantedCount s) ++ bumpFirst k (BitVec.ofNat 16 a) (s.queue.drop (grantedCount s)) }
    else if s.queue.length < 16 then appendEvent k a b value s
    else loseEvent s := by
  rw [raiseEvent, if_neg (by simp [hrst]), if_neg (by simp [hs]), splitQueue_eq]
  rfl

/-- Record `i` waits, and an event of this kind and subject merges into it. -/
def TakesMerge (s : State) (k : EventKind) (a i : Nat) : Prop :=
  ∃ r, s.queue[i]? = some r ∧ grantedCount s ≤ i ∧ r.kind = k ∧ r.subjectA = BitVec.ofNat 16 a

theorem waiting_any_iff :
    (s.queue.drop (grantedCount s)).any (sameSubject k (BitVec.ofNat 16 a)) = true ↔ ∃ i, TakesMerge s k a i := by
  simp only [List.any_eq_true, List.mem_iff_getElem?, sameSubject_iff, List.getElem?_drop]
  constructor
  · rintro ⟨r, ⟨i, hr⟩, hsame⟩
    exact ⟨_, r, hr, Nat.le_add_right _ i, hsame⟩
  · rintro ⟨i, r, hr, hle, hsame⟩
    exact ⟨r, ⟨i - grantedCount s, by rwa [Nat.add_sub_cancel' hle]⟩, hsame⟩

/-- The first record that takes the merge counts one more repeat, up to 255. -/
theorem raiseEvent_merged (hrst : s.rst = false) (hs : s.sweep = none) (hk : k.merges = true) {i : Nat} {r : EventRecord}
    (hi : TakesMerge s k a i) (hfirst : ∀ j, j < i → ¬ TakesMerge s k a j) (hr : s.queue[i]? = some r) :
    raiseEvent k a b value s = { s with queue := s.queue.set i { r with repeats := min 255 (r.repeats + 1) } } := by
  have hany := waiting_any_iff.mpr ⟨i, hi⟩
  obtain ⟨q, hq, hle, hsame⟩ := hi
  obtain rfl : q = r := by simpa [hr] using hq.symm
  have hlen : (s.queue.take (grantedCount s)).length = grantedCount s := by
    have hlt := (List.getElem?_eq_some_iff.mp hr).1
    rw [List.length_take]
    omega
  have hbump : bumpFirst k (BitVec.ofNat 16 a) (s.queue.drop (grantedCount s)) =
      (s.queue.drop (grantedCount s)).set (i - grantedCount s) { q with repeats := min 255 (q.repeats + 1) } := by
    refine bumpFirst_of_first ?_ ((sameSubject_iff _ _ _).mpr hsame) fun j p hj hp => ?_
    · rwa [List.getElem?_drop, Nat.add_sub_cancel' hle]
    · rw [List.getElem?_drop] at hp
      by_contra hmatch
      exact hfirst (grantedCount s + j) (by omega)
        ⟨p, hp, Nat.le_add_right _ j, (sameSubject_iff _ _ _).mp (Bool.not_eq_false _ ▸ hmatch)⟩
  rw [raiseEvent_open hrst hs, if_pos (by rw [hk, hany]; rfl), hbump]
  have hset := List.set_append_right (t := s.queue.drop (grantedCount s)) i { q with repeats := min 255 (q.repeats + 1) }
    (hlen.trans_le hle)
  rw [List.take_append_drop, hlen] at hset
  rw [hset]

/-- Where no record takes a merge, the queue's room decides. -/
theorem raiseEvent_unmerged (hrst : s.rst = false) (hs : s.sweep = none)
    (h : ¬ k.merges = true ∨ ∀ i, ¬ TakesMerge s k a i) :
    raiseEvent k a b value s = if s.queue.length < 16 then appendEvent k a b value s else loseEvent s := by
  rw [raiseEvent_open hrst hs, if_neg]
  rw [Bool.and_eq_true, waiting_any_iff]
  rintro ⟨hk, i, hi⟩
  exact h.elim (fun hn => hn hk) (fun hn => hn i hi)

end

/-- Settles O49: the statement's records that take a merge are those of `TakesMerge`, and each case has its equation above. -/
theorem raisedEventIsMergedAppendedOrLost : Obligations.RaisedEventIsMergedAppendedOrLost := by
  intro k a b value s t first matched merging
  have hcount : first = grantedCount s := by
    rcases hp : s.port with _ | _ | _ | _ | _ | ⟨k, _, _, o⟩
    case some.report => cases k <;> cases o <;> simp [first, grantedCount, headGranted, hp]
    all_goals simp [first, grantedCount, headGranted, hp]
  have hmatched : matched = TakesMerge s k a := by
    funext i
    simp only [matched, hcount]
    rfl
  have hmerging : k.merges = true ↔ merging := merges_iff k
  clear_value matched
  subst hmatched
  refine ⟨raiseEvent_of_reset, raiseEvent_of_sweep, fun hrst hs => ⟨fun i r hk hi hfirst hr => ?_, fun hno hroom => ?_,
    fun hno hfull => ?_⟩⟩
  · exact raiseEvent_merged hrst hs (hmerging.mpr hk) hi hfirst hr
  · exact (raiseEvent_unmerged hrst hs (hno.imp_left (mt hmerging.mp))).trans (if_pos hroom)
  · exact (raiseEvent_unmerged hrst hs (hno.imp_left (mt hmerging.mp))).trans (if_neg (Nat.not_lt.mpr hfull))

end Sys2Proof.Machine
end

section
/-!
PROOF. A trigger that is taken: its merge, the Intake's advance and the result, whatever its command (O34).
-/

namespace Sys2Proof.Machine

/-! ### The rows -/

/-- Every row of a command is the one step, each with its own byte and body. -/
theorem exec_of_commandRows {i : Instr} {byte : Nat} (h : (i, byte) ∈ commandRows) (s : State) :
    exec i s = commandStep (fun c => c == byte) (bodyOf byte) s := by
  simp only [commandRows, List.mem_cons, Prod.mk.injEq, List.not_mem_nil, or_false] at h
  rcases h with ⟨rfl, rfl⟩ | ⟨rfl, rfl⟩ | ⟨rfl, rfl⟩ | ⟨rfl, rfl⟩ | ⟨rfl, rfl⟩ | ⟨rfl, rfl⟩ | ⟨rfl, rfl⟩ | ⟨rfl, rfl⟩ | ⟨rfl, rfl⟩ |
    ⟨rfl, rfl⟩ | ⟨rfl, rfl⟩ | ⟨rfl, rfl⟩ | ⟨rfl, rfl⟩ | ⟨rfl, rfl⟩ <;> rfl

/-- The bytes that the command table lists are those of the rows. -/
theorem listed_eq (byte : Nat) : listed byte = (commandRows.map Prod.snd).contains byte := by
  have hbytes : commandRows.map Prod.snd = commandTable.map Prod.fst := rfl
  rw [hbytes, List.contains_eq_any_beq, List.any_map, listed]
  exact congrArg commandTable.any (funext fun r => Bool.beq_comm)

section
variable {s : State} {m : PortMerge} {i : Instr} {byte : Nat}

theorem commandStep_of_takes {p : Nat → Bool} {body : CommandBody} (h : Takes s m byte) (hp : p byte = true) :
    commandStep p body s = .next (arbitrate (takeTrigger body m s)) := by
  obtain ⟨hport, htaken, -, -, hbyte⟩ := h
  simp only [commandStep, hport]
  exact if_pos ⟨htaken, hbyte ▸ hp⟩

/-- A row of a command that its trigger names takes it, with a body of its own. -/
theorem exec_takes (h : Takes s m byte)
    (hrow : (i, byte) ∈ commandRows ∨ i = .unknownCommand ∧ (commandRows.map Prod.snd).contains byte = false) :
    ∃ body, BodyOnly body ∧ exec i s = .next (arbitrate (takeTrigger body m s)) := by
  rcases hrow with hrow | ⟨rfl, hrow⟩
  · exact ⟨_, bodyOf_only byte, (exec_of_commandRows hrow s).trans (commandStep_of_takes h (beq_self_eq_true byte))⟩
  · exact ⟨_, unknownBody_only, commandStep_of_takes (p := fun c => !listed c) h (by rw [listed_eq, hrow]; rfl)⟩

/-! ### The take -/

/-- The merge of a taken trigger raises no event: it is the word's own write (R94). -/
theorem performMerge_of_takes (h : Takes s m byte) : performMerge m s = mergeWord m s := by
  obtain ⟨-, htaken, hring, -, -⟩ := h
  simp only [performMerge, hring, ringEffects]
  exact if_neg (by simp [htaken])

/-- A take is the word's own write, the Intake's advance and what the command does, with a result behind it (R93). -/
theorem takeTrigger_commandOnly (h : Takes s m byte) {body : CommandBody} (hb : BodyOnly body) :
    ∃ u code, CommandOnly (advanceIntake (mergeWord m s)) u ∧ takeTrigger body m s = handResult m.slot code u := by
  have ht : takeTrigger body m s =
      handResult m.slot (body (commandArgs (mergeWord m s).shadow m.slot) (advanceIntake (mergeWord m s))).2
        (body (commandArgs (mergeWord m s).shadow m.slot) (advanceIntake (mergeWord m s))).1 := by
    rw [takeTrigger, performMerge_of_takes h]
    rfl
  exact ⟨_, _, hb _ _, ht⟩

theorem writtenLanes_taken (h : m.verdict = .taken) : m.writtenLanes = 0xF := if_pos h

theorem writtenData_taken (h : m.verdict = .taken) : m.writtenData = m.access.data &&& 0x00FFFFFF := if_pos h

/-- The result write that was pending for the slot is cancelled by the trigger's merge (R96). -/
theorem mergeWord_results_of_takes (h : Takes s m byte) : (mergeWord m s).results = s.results.filter (fun r => r.1 != m.slot) := by
  obtain ⟨-, -, hring, hword, -⟩ := h
  exact if_pos (by simp [PortMerge.isSlotWord, hring, hword])

end

/-- Settles O34: what the command's body does leaves the merge, the Intake and the results alone. -/
theorem takenTriggerAdvancesIntake : Obligations.TakenTriggerAdvancesIntake := by
  intro s m i byte hs h hrow
  obtain ⟨body, hb, hexec⟩ := exec_takes h hrow
  obtain ⟨u, code, ⟨honly, hport⟩, htake⟩ := takeTrigger_commandOnly h hb
  have htaken := h.2.1
  have hfree : u.port = none := hport.free_iff.mpr rfl
  have hback := arbitrate_frame (handResult m.slot code u) .writeBacks (by simp)
  simp only [granted, handResult_port, hfree, true_or, if_true, Kept, handResult_writeBacks] at hback
  refine ⟨_, hexec, ?_⟩
  rw [htake]
  refine ⟨⟨?_, ?_, ?_⟩, ?_, ?_, ?_, ?_, ?_, ?_, code, ?_⟩
  · rw [arbitrate_held, handResult_held, honly]
    rfl
  · rw [arbitrate_done, handResult_done, honly]
    rfl
  · rw [arbitrate_readData, handResult_readData, honly]
    rfl
  · rw [arbitrate_mem, handResult_mem, honly, ← writtenLanes_taken htaken, ← writtenData_taken htaken]
    exact lanesWritten_writeLanes _ _ _ _ hs.1
  · rw [arbitrate_shadow, handResult_shadow, honly, ← writtenLanes_taken htaken, ← writtenData_taken htaken]
    exact lanesWritten_writeLanes _ _ _ _ hs.2
  · rw [arbitrate_lastSeq, handResult_lastSeq, honly]
    rfl
  · rw [arbitrate_expSlot, handResult_expSlot, honly]
    rfl
  · rw [arbitrate_expSeq, handResult_expSeq, honly]
    rfl
  · rw [hback, honly, ← writtenLanes_taken htaken]
    rfl
  · rw [Answered, arbitrate_results, handResult_results, honly]
    exact congrArg (· ++ [(m.slot, code)]) (mergeWord_results_of_takes h)

end Sys2Proof.Machine
end

section
/-!
PROOF. A merge without a row of its own (O27).
-/

namespace Sys2Proof.Machine

section
variable {s : State} {m : PortMerge}

/-- In the Setup Block such a merge has no owner act. -/
theorem setupEffects_of_noRow (h : hasOwnRow m s = false) : setupEffects s.shadow m (mergeWord m s) = mergeWord m s := by
  simp only [hasOwnRow, Bool.or_eq_false_iff] at h
  obtain ⟨⟨⟨⟨⟨⟨⟨hrd, -⟩, hmode⟩, hpol⟩, hpreload⟩, hpref⟩, hinterval⟩, -⟩ := h
  have hrd' : m.writes 0x04 1 = false := (Bool.or_eq_false_iff.mp hrd).2
  have hinterval' : m.writes 0x06 2 = false := hinterval
  have hsame : ∀ n, n < 8 → lineMode (mergedShadow m s.shadow) n = lineMode s.shadow n := fun n hn => by
    have hn' := List.any_eq_false.mp hmode n (List.mem_range.mpr hn)
    exact (by simpa using hn' : lineMode s.shadow n = _).symm
  have hlevel : ∀ n, n < 10 → activeHigh (mergedShadow m s.shadow) n = activeHigh s.shadow n := fun n hn => by
    have hn' := List.any_eq_false.mp hpol n (List.mem_range.mpr hn)
    exact (by simpa using hn' : activeHigh s.shadow n = _).symm
  have hprefer : preferInternal (mergedShadow m s.shadow) = preferInternal s.shadow :=
    (by simpa [isPreferenceWrite] using hpref : preferInternal s.shadow = _).symm
  have hnone : ∀ k, k < 4 → m.writes (0x34 + 8 * k) 3 = false := fun k hk =>
    Bool.eq_false_iff.mpr (List.any_eq_false.mp hpreload k (List.mem_range.mpr hk))
  rw [setupEffects_of_same (s := mergeWord m s) hsame hlevel hprefer, eachTimer_preload_none _ hnone, ownersAct, hrd', hinterval']
  rfl

/-- In the Cue Deck such a merge changes no level. -/
theorem deckEffects_of_noRow (h : hasOwnRow m s = false) (hdeck : regionPart m.off = .deck) :
    deckEffects s.shadow m (mergeWord m s) = mergeWord m s := by
  have hedit : isLevelEdit m s = false := (Bool.or_eq_false_iff.mp h).2
  have hlevel : cueLevel s.shadow m.cue = cueLevel (mergedShadow m s.shadow) m.cue := by simpa [isLevelEdit, hdeck] using hedit
  exact if_pos hlevel

/-- A merge without a row of its own is the word's own write, and the RING_SEQ of a trigger not taken. -/
theorem performMerge_of_noRow (h : hasOwnRow m s = false) :
    performMerge m s = if regionPart m.off = .ring then ringEffects m (mergeWord m s) else mergeWord m s := by
  unfold performMerge
  split
  case h_1 hpart => rw [setupEffects_of_noRow h, if_neg (by simp [hpart])]
  case h_2 hpart => rw [deckEffects_of_noRow h hpart, if_neg (by simp [hpart])]
  case h_3 hpart => rw [if_pos hpart]
  case h_4 hpart => rw [if_neg hpart]

theorem performMerge_of_noRow_only (h : hasOwnRow m s = false) : performMerge m s = { mergeWord m s with
    queue := (performMerge m s).queue, lost := (performMerge m s).lost, nextSeq := (performMerge m s).nextSeq } := by
  rw [performMerge_of_noRow h]
  split
  · unfold ringEffects
    split
    · exact raiseEvent_only ..
    · rfl
  · rfl

/-- Data are merged and no event is raised. -/
theorem performMerge_of_data (h : hasOwnRow m s = false) (hdata : m.verdict = .data) : performMerge m s = mergeWord m s := by
  have hring : ringEffects m (mergeWord m s) = mergeWord m s := if_neg (by simp [hdata])
  rw [performMerge_of_noRow h, hring, ite_self]

/-- The frame of a merge that raises an event at most. -/
theorem unchangedBut_plainMerge {u : State}
    (h : u = { mergeWord m s with queue := u.queue, lost := u.lost, nextSeq := u.nextSeq }) :
    unchangedBut (mergeParts ++ [.results, .queue]) s (arbitrate u) := by
  have hport : u.port = none := by
    rw [h]
    rfl
  refine unchangedBut_arbitrated (fun p hp => ?_) (by simp [hport, mergeParts])
  cases p
  case stale =>
    intro b _ hb
    exact absurd (hport.symm.trans hb) (by simp)
  case path | port | mem | shadow | writeBacks | results | queue => exact absurd (by simp [mergeParts]) hp
  all_goals
    rw [h]
    simp [Same, Kept, mergeWord, portFree, servedVoice, voiceOf, againLeft, marksLeft, CopyLeft]

end

/-- Settles O27: the merge as every row has it, and nothing of the queue where the word is no trigger. -/
theorem shadowWriteOnlyMerges : Obligations.ShadowWriteOnlyMerges := by
  intro s m hs hm hrow
  have hexec : exec .shadowWrite s = .next (arbitrate (performMerge m s)) :=
    exec_merges (p := fun m t => !hasOwnRow m t) (by simp [mergeRows]) (by simp [hrow]) hm
  refine ⟨_, hexec, merged_performMerge hs hm.1.2, unchangedBut_plainMerge (performMerge_of_noRow_only hrow), fun hdata => ?_⟩
  rw [performMerge_of_data hrow hdata]
  exact ⟨arbitrate_queue _, arbitrate_lost _, arbitrate_nextSeq _⟩

end Sys2Proof.Machine
end

section
/-!
PROOF. When a setup write is refused, and for which field (O23).
-/

namespace Sys2Proof.Machine

/-- The fields for which a write that would leave the shadow as `sh` is refused (R27): those whose least is named. -/
def refusedFields (s : State) (sh : Cells) : List Nat :=
  (if lwb s.shadow != lwb sh && lwbForbidden s (lwb sh) then [0x01] else []) ++
    (indices 8 (fun n => lineModeCode s.shadow n != lineModeCode sh n && s.lockout.state != .unlocked)).map (fun n => 0x10 + 4 * n) ++
    (indices 4 (fun t => timerModeCode s.shadow t != timerModeCode sh t && running (timerOf s t))).map (fun t => 0x30 + 8 * t) ++
    (indices 4 (fun t => timerLine s.shadow t != timerLine sh t && running (timerOf s t))).map (fun t => 0x32 + 8 * t)

theorem refusedField_eq (s : State) (sh : Cells) : refusedField s sh = (refusedFields s sh).min? := rfl

/-- The fields at the offsets `off n` of those `n` whose value would change while a condition holds. -/
theorem mem_changed_iff {k : Nat} {off value value' : Nat → Nat} {busy : Nat → Bool} {f : Nat} :
    f ∈ (indices k (fun n => value n != value' n && busy n)).map off ↔
      ∃ n, n < k ∧ f = off n ∧ value' n ≠ value n ∧ busy n = true := by
  simp only [List.mem_map, indices, List.mem_filter, List.mem_range, Bool.and_eq_true, bne_iff_ne]
  constructor
  · rintro ⟨n, ⟨hn, hv, hb⟩, rfl⟩
    exact ⟨n, hn, rfl, hv.symm, hb⟩
  · rintro ⟨n, hn, rfl, hv, hb⟩
    exact ⟨n, ⟨hn, hv.symm, hb⟩, rfl⟩

theorem mem_refusedFields (s : State) (sh : Cells) (f : Nat) : f ∈ refusedFields s sh ↔ FieldRefused s sh f := by
  have hlwb : f ∈ (if lwb s.shadow != lwb sh && lwbForbidden s (lwb sh) then [0x01] else []) ↔
      f = 0x01 ∧ lwb sh ≠ lwb s.shadow ∧ lwbForbidden s (lwb sh) = true := by
    split
    · rename_i h
      simp only [Bool.and_eq_true, bne_iff_ne] at h
      exact ⟨fun hf => ⟨List.mem_singleton.mp hf, h.1.symm, h.2⟩, fun hf => List.mem_singleton.mpr hf.1⟩
    · rename_i h
      simp only [Bool.and_eq_true, bne_iff_ne] at h
      exact ⟨fun hf => absurd hf List.not_mem_nil, fun ⟨_, hne, hforbid⟩ => absurd ⟨hne.symm, hforbid⟩ h⟩
  have hlock : (s.lockout.state != .unlocked) = true ↔ s.lockout.state ≠ .unlocked := bne_iff_ne
  have hrun : ∀ t, running (timerOf s t) = true ↔ (timerOf s t).phase ≠ .stopped := fun t => bne_iff_ne
  rw [refusedFields, List.mem_append, List.mem_append, List.mem_append, hlwb, mem_changed_iff, mem_changed_iff, mem_changed_iff,
    or_assoc, or_assoc]
  simp only [hlock, hrun]
  rfl

/-- The field named is the lowest of those refused (R28). -/
theorem refusedField_eq_some_iff (s : State) (sh : Cells) (f : Nat) :
    refusedField s sh = some f ↔ FieldRefused s sh f ∧ ∀ g, g < f → ¬ FieldRefused s sh g := by
  rw [refusedField_eq, List.min?_eq_some_iff]
  simp only [mem_refusedFields]
  exact and_congr_right fun _ => ⟨fun h g hg hr => absurd (h g hr) (by omega), fun h g hr => not_lt.mp fun hg => h g hg hr⟩

/-! ### The places the window may not take (R27) -/

/-- Ranges meet where they share a byte. -/
theorem rangesMeet_iff (a b : Nat × Nat) : rangesMeet a b = true ↔ ∃ x, a.1 ≤ x ∧ x < a.2 ∧ b.1 ≤ x ∧ x < b.2 := by
  rw [rangesMeet, decide_eq_true_iff]
  constructor
  · intro h
    exact ⟨max a.1 b.1, by omega, by omega, by omega, by omega⟩
  · rintro ⟨x, h⟩
    omega

theorem meetsExtent_iff (r : Nat × Nat) (e : ClipEntry) :
    meetsExtent r e = true ↔ ∃ lo hi, extentOf e = some (lo, hi) ∧ ∃ x, r.1 ≤ x ∧ x < r.2 ∧ lo ≤ x ∧ x < hi := by
  rw [meetsExtent, Option.any_eq_true]
  simp only [rangesMeet_iff, Prod.exists]

theorem lwbForbidden_iff (s : State) (w : Nat) : lwbForbidden s w = true ↔
    (∃ se, s.session = some se) ∨
    (∃ a, w * 0x2000000 ≤ a ∧ a < w * 0x2000000 + 0x2000000 ∧
      (s.crb * 0x1000000 ≤ a ∧ a < s.crb * 0x1000000 + 0x10000 ∨
        ∃ c lo hi, c < 128 ∧ extentOf (clipOf s c) = some (lo, hi) ∧ lo ≤ a ∧ a < hi)) := by
  simp only [lwbForbidden, Bool.or_eq_true, Option.isSome_iff_exists, rangesMeet_iff, List.any_eq_true, List.mem_range, meetsExtent_iff,
    or_assoc]
  refine or_congr_right ⟨?_, ?_⟩
  · rintro (⟨a, hlow, hhigh, hregion⟩ | ⟨c, hc, lo, hi, hext, a, hlow, hhigh, hin⟩)
    · exact ⟨a, hlow, hhigh, .inl hregion⟩
    · exact ⟨a, hlow, hhigh, .inr ⟨c, lo, hi, hc, hext, hin⟩⟩
  · rintro ⟨a, hlow, hhigh, hregion | ⟨c, lo, hi, hc, hext, hin⟩⟩
    · exact .inl ⟨a, hlow, hhigh, hregion⟩
    · exact .inr ⟨c, hc, lo, hi, hext, a, hlow, hhigh, hin⟩

/-- Settles O23: the list of refused fields has the least named, and the window of half the strap value holds the region's first byte. -/
theorem setupRefusalsFollowTheirConditions : Obligations.SetupRefusalsFollowTheirConditions :=
  ⟨refusedField_eq_some_iff, lwbForbidden_iff, fun s => (lwbForbidden_iff s _).mpr (.inr ⟨s.crb * 0x1000000, by omega, by omega,
    .inl ⟨by omega, by omega⟩⟩)⟩

end Sys2Proof.Machine
end

section
/-!
SUPPORT. Clamps: the fields a setup write clamps, the lanes withheld for them, the write-backs handed over, and which of them the grant at
the end of the step takes.
-/

namespace Sys2Proof.Machine

/-! ### The clampable fields -/

theorem mem_clampFields_iff (f : ClampField) : f ∈ clampFields ↔
    f = ⟨0x04, 1, 0, 255, true⟩ ∨ f = ⟨0x06, 2, 256, 65535, true⟩ ∨ f = ⟨0x08, 2, 0, 4096, true⟩ ∨
    ∃ b, b < 4 ∧ (f = ⟨0x50 + 12 * b, 2, 0, 4096, true⟩ ∨ f = ⟨0x52 + 12 * b, 2, 0, 4096, true⟩ ∨
      f = ⟨0x54 + 12 * b, 2, 1, 4096, false⟩ ∨ f = ⟨0x56 + 12 * b, 2, 1, 4096, false⟩) := by
  simp only [clampFields, List.mem_append, List.mem_cons, List.not_mem_nil, or_false, List.mem_flatMap, List.mem_range, or_assoc]

/-- No two clampable fields share their offset. -/
theorem clampFields_apart : clampFields.Pairwise (fun f g => f.off ≠ g.off) := by decide

theorem eq_of_clampFields : ∀ f ∈ clampFields, ∀ g ∈ clampFields, f.off = g.off → f = g := by decide

section
variable (s : State) (v : Nat)

theorem clampTo_rd {f : ClampField} (hf : f.off = 0x04) :
    clampTo s f v = if inSpan s (BitVec.ofNat 8 v) then none else some s.w.toNat := if_pos hf

theorem clampTo_range {f : ClampField} (hf : f.off ≠ 0x04) :
    clampTo s f v = if v = 0 ∧ f.zero = true then none else if v < f.low then some f.low
      else if f.high < v then some f.high else none := if_neg hf

theorem clampTo_interval (hv : v < 65536) :
    clampTo s ⟨0x06, 2, 256, 65535, true⟩ v = if 1 ≤ v ∧ v ≤ 255 then some 256 else none := by
  rw [clampTo_range s v (by decide)]
  by_cases hlow : 1 ≤ v ∧ v ≤ 255
  · rw [if_pos hlow, if_neg (fun h => by omega), if_pos (show v < 256 by omega)]
  · rw [if_neg hlow]
    by_cases hzero : v = 0
    · exact if_pos ⟨hzero, rfl⟩
    · rw [if_neg (fun h => hzero h.1), if_neg (show ¬ v < 256 by omega), if_neg (show ¬ 65535 < v by omega)]

theorem clampTo_level {off : Nat} (hoff : off ≠ 0x04) :
    clampTo s ⟨off, 2, 0, 4096, true⟩ v = if 4096 < v then some 4096 else none := by
  rw [clampTo_range s v hoff]
  by_cases hzero : v = 0
  · rw [if_pos ⟨hzero, rfl⟩, if_neg (by omega)]
  · rw [if_neg (fun h => hzero h.1), if_neg (Nat.not_lt_zero v)]

theorem clampTo_step {off : Nat} (hoff : off ≠ 0x04) :
    clampTo s ⟨off, 2, 1, 4096, false⟩ v = if v = 0 then some 1 else if 4096 < v then some 4096 else none := by
  rw [clampTo_range s v hoff]
  simp only [Bool.false_eq_true, and_false, if_false, Nat.lt_one_iff]

end

section
variable {s : State} {off : Nat} {lanes : Lanes} {sh : Cells}

/-- A clamp is of a field that the write touches, with what its merged value is clamped to. -/
theorem mem_clamped_iff {f : ClampField} {c : Nat} : (f, c) ∈ clamped s off lanes sh ↔
    f ∈ clampFields ∧ touches off lanes f.off f.width = true ∧ clampTo s f (readLe sh f.off f.width) = some c := by
  rw [clamped, List.mem_filterMap]
  constructor
  · rintro ⟨g, hg, h⟩
    split at h
    · obtain ⟨v, hv, hpair⟩ := Option.map_eq_some_iff.mp h
      cases hpair
      exact ⟨hg, ‹_›, hv⟩
    · cases h
  · rintro ⟨hf, ht, hc⟩
    exact ⟨f, hf, by rw [if_pos ht, hc]; rfl⟩

/-- The fields clamped lie apart. -/
theorem clamped_apart : (clamped s off lanes sh).Pairwise (fun x y => x.1.off ≠ y.1.off) := by
  refine List.Pairwise.filterMap _ (fun f g hfg x hx y hy => ?_) clampFields_apart
  have hof : ∀ {h : ClampField} {z : ClampField × Nat},
      (if touches off lanes h.off h.width then (clampTo s h (readLe sh h.off h.width)).map (fun v => (h, v)) else none) = some z →
        z.1 = h := by
    intro h z hz
    split at hz
    · obtain ⟨v, -, rfl⟩ := Option.map_eq_some_iff.mp hz
      rfl
    · cases hz
  rwa [hof hx, hof hy]

end

/-! ### The lanes withheld -/

theorem getLsbD_withheld (off : Nat) (cs : List (ClampField × Nat)) (i : Nat) :
    (withheld off cs).getLsbD i = cs.any (fun c => (fieldLanes off c.1.off c.1.width).getLsbD i) := by
  have h : ∀ (l : Lanes), (cs.foldl (fun l c => l ||| fieldLanes off c.1.off c.1.width) l).getLsbD i =
      (l.getLsbD i || cs.any (fun c => (fieldLanes off c.1.off c.1.width).getLsbD i)) := by
    induction cs with
    | nil => simp
    | cons c cs ih =>
      intro l
      rw [List.foldl_cons, ih, BitVec.getLsbD_or, List.any_cons, Bool.or_assoc]
  rw [withheld, h 0]
  simp

/-- The lanes that a setup write keeps behind its clamps (R29). -/
def keptLanes (s : State) (off : Nat) (a : Access) : Lanes :=
  a.lanes &&& ~~~ withheld off (clamped s off a.lanes (writeLanes s.shadow off a.lanes a.data))

/-- A lane is kept where it is enabled and holds no byte of a field that is clamped. -/
theorem getLsbD_keptLanes (s : State) (off : Nat) (a : Access) {i : Nat} (hi : i < 4) : (keptLanes s off a).getLsbD i = true ↔
    a.lanes.getLsbD i = true ∧ ∀ x ∈ clamped s off a.lanes (writeLanes s.shadow off a.lanes a.data),
      ¬ (x.1.off ≤ off + i ∧ off + i < x.1.off + x.1.width) := by
  rw [keptLanes, BitVec.getLsbD_and, BitVec.getLsbD_not, getLsbD_withheld]
  simp only [Bool.and_eq_true, decide_eq_true_eq, Bool.not_eq_true', List.any_eq_false, getLsbD_fieldLanes, hi, decide_true,
    Bool.true_and]

/-! ### The write-backs handed over -/

theorem mem_handWriteBack {s : State} {x : ClampField × Nat} {b : WriteBack} : b ∈ (handWriteBack s x).writeBacks ↔
    (b ∈ s.writeBacks ∧ b.off ≠ x.1.off) ∨
      (readLe s.shadow x.1.off x.1.width ≠ x.2 ∧ b = ⟨x.1.off, x.1.width, x.2⟩) := by
  simp only [handWriteBack]
  split
  · rename_i h
    simp [h]
  · rename_i h
    simp [h]

/-- Behind the hand-over of clamps of fields that lie apart, a write-back is one of another field that stood before, or one of a clamp whose
value the field does not hold (R29). -/
theorem mem_handWriteBacks {cs : List (ClampField × Nat)} (hcs : cs.Pairwise (fun x y => x.1.off ≠ y.1.off)) {s : State}
    {b : WriteBack} : b ∈ (cs.foldl handWriteBack s).writeBacks ↔
      (b ∈ s.writeBacks ∧ ∀ x ∈ cs, b.off ≠ x.1.off) ∨
        ∃ x ∈ cs, readLe s.shadow x.1.off x.1.width ≠ x.2 ∧ b = ⟨x.1.off, x.1.width, x.2⟩ := by
  induction cs generalizing s with
  | nil => simp
  | cons y cs ih =>
    obtain ⟨hy, hcs⟩ := List.pairwise_cons.mp hcs
    have hshadow : (handWriteBack s y).shadow = s.shadow := (handWriteBack_sameCells s y).2
    rw [List.foldl_cons, ih hcs, mem_handWriteBack, hshadow]
    simp only [List.forall_mem_cons, List.exists_mem_cons_iff]
    constructor
    · rintro (⟨⟨hb, hoff⟩ | hnew, hrest⟩ | hnew)
      · exact .inl ⟨hb, hoff, hrest⟩
      · exact .inr (.inl hnew)
      · exact .inr (.inr hnew)
    · rintro (⟨hb, hoff, hrest⟩ | ⟨hne, rfl⟩ | hnew)
      · exact .inl ⟨.inl ⟨hb, hoff⟩, hrest⟩
      · exact .inl ⟨.inr ⟨hne, rfl⟩, hy⟩
      · exact .inr hnew

/-- A setup write past the refusals: the lanes kept are held, or the access is done, and the write-backs are handed over. -/
theorem acceptSetup_eq (off : Nat) (a : Access) (s : State) : acceptSetup off a s = { s with
    held := if keptLanes s off a = 0 then none else some ⟨a, some (.shadowed off (keptLanes s off a) .data)⟩
    done := decide (keptLanes s off a = 0)
    writeBacks := ((clamped s off a.lanes (writeLanes s.shadow off a.lanes a.data)).foldl handWriteBack s).writeBacks } := by
  have h : acceptSetup off a s = if keptLanes s off a = 0 then
      accessDone ((clamped s off a.lanes (writeLanes s.shadow off a.lanes a.data)).foldl handWriteBack s)
    else holdAs a (.shadowed off (keptLanes s off a) .data)
      ((clamped s off a.lanes (writeLanes s.shadow off a.lanes a.data)).foldl handWriteBack s) := rfl
  rw [h, handWriteBacks_only]
  split
  · rename_i hk
    rw [accessDone, decide_eq_true hk]
  · rename_i hk
    rw [holdAs, decide_eq_false hk]

/-! ### The grant behind a hand-over -/

section
variable {u : State}

/-- A report write that a grant puts on a free port carries what the part has for it at that moment. -/
theorem arbitrate_report_written (hport : u.port = none) {k : ReportKind} {a : Nat} {bs : List Byte} {o : Bool}
    (h : (arbitrate u).port = some (.report k a bs o)) :
    (arbitrate u).port = some (.report k (regionAddr u (reportBytes u k).1) (reportBytes u k).2 false) := by
  have hr := refreshOffer_only u
  have hfree : (refreshOffer u).port = none := by rw [hr]; exact hport
  unfold arbitrate arbitrateAside at h ⊢
  dsimp only at h ⊢
  split at h
  · rw [hfree] at h
    cases h
  · rename_i hgo
    rw [if_neg hgo]
    split at h
    · rename_i r hchosen
      rcases r with i | (v | j) | j | _
      · simp only [grant, grantSweep] at h
        split at h <;> simp [hfree] at h
      · simp [grant, grantVoice] at h
      · simp [grant, grantFill] at h
      · obtain ⟨rfl, -⟩ : j = k ∧ _ := by simpa [grant, grantReport] using h
        rw [hr]
        exact grantReport_port j u _
      · simp [grant] at h
    · rw [hfree] at h
      cases h

/-- A write-back that is pending stands through the grant, or the port is granted to its field. -/
theorem writeBack_stands_or_granted {b : WriteBack} (hb : b ∈ u.writeBacks) :
    b ∈ (arbitrate u).writeBacks ∨ u.port = none ∧
      (arbitrate u).port = some (.report (.clamp b.off) (regionAddr u b.off) (reportBytes u (.clamp b.off)).2 false) := by
  have hleft := arbitrate_frame u .writeBacks (by simp)
  simp only [Kept, granted] at hleft
  by_cases hport : u.port = none
  · simp only [hport, true_or, if_true] at hleft
    rw [hleft]
    unfold writeBacksLeft
    split
    · rename_i off a bs o hg
      by_cases hoff : b.off = off
      · subst hoff
        exact .inr ⟨hport, arbitrate_report_written hport hg⟩
      · exact .inl (List.mem_filter.mpr ⟨hb, bne_iff_ne.mpr hoff⟩)
    · exact .inl hb
  · simp only [hport, List.not_mem_nil, or_self, if_false] at hleft
    rw [hleft]
    exact .inl hb

/-- A grant hands no write-back over. -/
theorem writeBack_of_arbitrate {b : WriteBack} (hb : b ∈ (arbitrate u).writeBacks) : b ∈ u.writeBacks := by
  have hleft : (arbitrate u).writeBacks = writeBacksLeft _ u.writeBacks := arbitrate_frame u .writeBacks (by simp)
  rw [hleft] at hb
  unfold writeBacksLeft at hb
  split at hb
  · exact List.mem_of_mem_filter hb
  · exact hb

/-- The bytes of a write-back that is the only one of its field. -/
theorem clampBytes_of_only {b : WriteBack} (hb : b ∈ u.writeBacks) (honly : ∀ c ∈ u.writeBacks, c.off = b.off → c = b) :
    (reportBytes u (.clamp b.off)).2 = leBytes b.width (writeBackValue u b) := by
  have hat : writeBackAt u b.off = some b := by
    cases hfind : writeBackAt u b.off with
    | none => exact absurd (List.find?_eq_none.mp hfind b hb) (by simp)
    | some c =>
      have hoff : (c.off == b.off) = true := List.find?_some (p := fun c : WriteBack => c.off == b.off) hfind
      rw [honly c (List.mem_of_find?_eq_some hfind) (beq_iff_eq.mp hoff)]
  simp only [reportBytes, hat]
  rfl

end

end Sys2Proof.Machine
end

section
/-!
PROOF. Clamps of a setup write, Rd among them (O24, O25).
-/

namespace Sys2Proof.Machine

/-! ### A setup write past the refusals -/

/-- A setup write that is not refused is accepted, its clamps apart. -/
theorem exec_acceptedSetup {addr : BitVec 28} {lanes : Lanes} {data : Word} {s : State} {off : Nat}
    (h : Arrives (accessOf true addr lanes data) s) (hk : arrivalOf (accessOf true addr lanes data) s = .shadowed off)
    (hpart : regionPart off = .setup) (hf : refusedField s (writeLanes s.shadow off lanes data) = none) :
    exec (.shadowedWriteArrival addr lanes data) s = .next (arbitrate (acceptSetup off (accessOf true addr lanes data) s)) := by
  have hf' : refusedField s (writeLanes s.shadow off (accessOf true addr lanes data).lanes (accessOf true addr lanes data).data) = none := hf
  have hserve : serve (.shadowed off) (accessOf true addr lanes data) s = judgeShadowed off (accessOf true addr lanes data) s := rfl
  rw [(exec_shadowedWriteArrival ..).trans (arriveAs_served h hk rfl), hserve, judgeShadowed, hpart]
  dsimp only
  rw [hf']

section
variable (off : Nat) (a : Access) (s : State)

/-- The frame of an accepted setup write. -/
theorem unchangedBut_acceptSetup : unchangedBut [.path, .writeBacks] s (arbitrate (acceptSetup off a s)) := by
  rw [acceptSetup_eq]
  refine unchangedBut_arbitrated (fun p hp => ?_) (by simp)
  cases p
  case path | writeBacks => exact absurd (by simp) hp
  case stale => exact same_refl .stale s
  all_goals simp [Same, Kept, servedVoice, voiceOf, marksLeft, againLeft, CopyLeft]

theorem acceptSetup_kept (h : keptLanes s off a ≠ 0) :
    (arbitrate (acceptSetup off a s)).held = some ⟨a, some (.shadowed off (keptLanes s off a) .data)⟩ ∧
      (arbitrate (acceptSetup off a s)).done = false := by
  rw [arbitrate_held, arbitrate_done, acceptSetup_eq]
  exact ⟨if_neg h, decide_eq_false h⟩

theorem acceptSetup_done (h : keptLanes s off a = 0) : DoneAt s (arbitrate (acceptSetup off a s)) := by
  rw [DoneAt, arbitrate_held, arbitrate_done, arbitrate_readData, acceptSetup_eq]
  exact ⟨if_pos h, decide_eq_true h, rfl⟩

end

section
variable {off : Nat} {a : Access} {s : State}

/-- The write-backs behind an accepted setup write, before the grant. -/
theorem mem_acceptSetup_writeBacks {b : WriteBack} : b ∈ (acceptSetup off a s).writeBacks ↔
    (b ∈ s.writeBacks ∧ ∀ x ∈ clamped s off a.lanes (writeLanes s.shadow off a.lanes a.data), b.off ≠ x.1.off) ∨
      ∃ x ∈ clamped s off a.lanes (writeLanes s.shadow off a.lanes a.data),
        readLe s.shadow x.1.off x.1.width ≠ x.2 ∧ b = ⟨x.1.off, x.1.width, x.2⟩ := by
  rw [acceptSetup_eq]
  exact mem_handWriteBacks clamped_apart

/-- Of one field a write clamps one value. -/
theorem clamped_unique {sh : Cells} {lanes : Lanes} {x y : ClampField × Nat} (hx : x ∈ clamped s off lanes sh)
    (hy : y ∈ clamped s off lanes sh) (h : x.1.off = y.1.off) : x = y := by
  obtain ⟨f, c⟩ := x
  obtain ⟨g, d⟩ := y
  obtain ⟨hf, -, hc⟩ := mem_clamped_iff.mp hx
  obtain ⟨hg, -, hd⟩ := mem_clamped_iff.mp hy
  obtain rfl : f = g := eq_of_clampFields f hf g hg h
  rw [Option.some.inj (hc.symm.trans hd)]

/-- A clamped field is one of a write-back that carries the clamped value: W for Rd (R29). -/
theorem writeBackValue_clamped {sh : Cells} {lanes : Lanes} {f : ClampField} {c : Nat} (hx : (f, c) ∈ clamped s off lanes sh) {t : State}
    (hw : t.w = s.w) : writeBackValue t ⟨f.off, f.width, c⟩ = c := by
  unfold writeBackValue
  split
  · rename_i hrd
    obtain ⟨-, -, hc⟩ := mem_clamped_iff.mp hx
    rw [clampTo_rd s _ hrd] at hc
    split at hc
    · cases hc
    · rw [hw]
      exact Option.some.inj hc
  · rfl

/-- A clamp of a field that holds another value is a write-back that is pending, or that the port is granted to at once. -/
theorem clamp_handed {f : ClampField} {c : Nat} (hx : (f, c) ∈ clamped s off a.lanes (writeLanes s.shadow off a.lanes a.data))
    (hne : readLe s.shadow f.off f.width ≠ c) :
    ⟨f.off, f.width, c⟩ ∈ (arbitrate (acceptSetup off a s)).writeBacks ∨
      (arbitrate (acceptSetup off a s)).port = some (.report (.clamp f.off) (regionAddr s f.off) (leBytes f.width c) false) := by
  have hb : (⟨f.off, f.width, c⟩ : WriteBack) ∈ (acceptSetup off a s).writeBacks :=
    mem_acceptSetup_writeBacks.mpr (.inr ⟨(f, c), hx, hne, rfl⟩)
  have honly : ∀ b ∈ (acceptSetup off a s).writeBacks, b.off = f.off → b = ⟨f.off, f.width, c⟩ := fun b hb hoff => by
    rcases mem_acceptSetup_writeBacks.mp hb with ⟨-, hother⟩ | ⟨y, hy, -, rfl⟩
    · exact absurd hoff (hother _ hx)
    · rw [clamped_unique hy hx hoff]
  have hw : (acceptSetup off a s).w = s.w := by rw [acceptSetup_eq]
  have haddr : regionAddr (acceptSetup off a s) f.off = regionAddr s f.off := by
    rw [acceptSetup_eq]
    rfl
  refine (writeBack_stands_or_granted hb).imp_right fun ⟨_, hgranted⟩ => ?_
  rw [hgranted, clampBytes_of_only hb honly, writeBackValue_clamped hx hw, haddr]

/-- A clamp to the value that the field holds leaves no write-back of it. -/
theorem clamp_not_handed {f : ClampField} {c : Nat} (hx : (f, c) ∈ clamped s off a.lanes (writeLanes s.shadow off a.lanes a.data))
    (heq : readLe s.shadow f.off f.width = c) {b : WriteBack} (hb : b ∈ (arbitrate (acceptSetup off a s)).writeBacks) :
    b.off ≠ f.off := by
  intro hoff
  rcases mem_acceptSetup_writeBacks.mp (writeBack_of_arbitrate hb) with ⟨-, hother⟩ | ⟨y, hy, hne, rfl⟩
  · exact hother _ hx hoff
  · rw [clamped_unique hy hx hoff] at hne
    exact hne heq

/-- The write-back of a field that is not clamped stands, or the port is granted to it. -/
theorem otherWriteBack_stands {b : WriteBack} (hb : b ∈ s.writeBacks)
    (hother : ∀ x ∈ clamped s off a.lanes (writeLanes s.shadow off a.lanes a.data), b.off ≠ x.1.off) :
    b ∈ (arbitrate (acceptSetup off a s)).writeBacks ∨
      s.port = none ∧ ∃ d bs, (arbitrate (acceptSetup off a s)).port = some (.report (.clamp b.off) d bs false) := by
  have hport : (acceptSetup off a s).port = s.port := by rw [acceptSetup_eq]
  rcases writeBack_stands_or_granted (mem_acceptSetup_writeBacks.mpr (.inl ⟨hb, hother⟩)) with h | ⟨hfree, hg⟩
  · exact .inl h
  · exact .inr ⟨hport ▸ hfree, _, _, hg⟩

/-- Every write-back behind the write stood before it, or is of a field that it clamps. -/
theorem writeBack_origin {b : WriteBack} (hb : b ∈ (arbitrate (acceptSetup off a s)).writeBacks) :
    b ∈ s.writeBacks ∨ ∃ x ∈ clamped s off a.lanes (writeLanes s.shadow off a.lanes a.data), b.off = x.1.off := by
  rcases mem_acceptSetup_writeBacks.mp (writeBack_of_arbitrate hb) with ⟨hold, -⟩ | ⟨x, hx, -, rfl⟩
  · exact .inl hold
  · exact .inr ⟨x, hx, rfl⟩

end

/-- The lanes that touch a field, lane by lane. -/
theorem anyLane_eq_touches (off : Nat) (lanes : Lanes) (f : ClampField) :
    (List.range 4).any (fun i => lanes.getLsbD i && decide (f.off ≤ off + i) && decide (off + i < f.off + f.width)) =
      touches off lanes f.off f.width := by
  rw [Bool.eq_iff_iff, touches_iff]
  simp [and_assoc]

/-- Settles O24: the fields and their ranges, and a write whose illegal fields are the clamped ones. -/
theorem clampedFieldsAreWrittenBack : Obligations.ClampedFieldsAreWrittenBack := by
  refine ⟨mem_clampFields_iff, fun s v b hb hv => ⟨clampTo_interval s v hv, clampTo_level s v (by decide), clampTo_level s v (by omega),
    clampTo_level s v (by omega), clampTo_step s v (by omega), clampTo_step s v (by omega)⟩, ?_⟩
  intro addr lanes data s off _ a sh illegal keep h hk hpart hf
  have hillegal : ∀ f ∈ clampFields, illegal f = true ↔ ∃ c, (f, c) ∈ clamped s off lanes sh := fun f hmem => by
    simp only [illegal, anyLane_eq_touches, Bool.and_eq_true, Option.isSome_iff_exists, mem_clamped_iff, hmem, true_and,
      exists_and_left]
  have hclamped : ∀ x ∈ clamped s off lanes sh, x.1 ∈ clampFields ∧ illegal x.1 = true := fun x hx =>
    have hmem := (mem_clamped_iff.mp hx).1
    ⟨hmem, (hillegal _ hmem).mpr ⟨x.2, hx⟩⟩
  have hkeep : ∀ i, i < 4 → (keptLanes s off a).getLsbD i = keep i := fun i hi => by
    rw [Bool.eq_iff_iff, getLsbD_keptLanes s off a hi]
    simp only [keep, Bool.and_eq_true, Bool.not_eq_true', List.any_eq_false, decide_eq_true_eq]
    refine and_congr_right fun _ => ⟨fun hno f hmem hin => ?_, fun hno x hx hin => ?_⟩
    · obtain ⟨c, hc⟩ := (hillegal f hmem).mp hin.1.1
      exact hno _ hc ⟨hin.1.2, hin.2⟩
    · obtain ⟨hmem, hill⟩ := hclamped x hx
      exact hno x.1 hmem ⟨⟨hill, hin.1⟩, hin.2⟩
  refine ⟨_, exec_acceptedSetup h hk hpart hf, fun ⟨i, hi, hkept⟩ => ?_, fun hnone => ?_, fun f c hmem hill hc => ⟨fun heq b hb => ?_,
    fun hne => ?_⟩, fun b hb => ?_, fun b hb hother => ?_, unchangedBut_acceptSetup off a s⟩
  · exact ⟨keptLanes s off a, hkeep, acceptSetup_kept off a s ((lanes_ne_zero_iff _).mpr ⟨i, hi, (hkeep i hi).trans hkept⟩)⟩
  · refine acceptSetup_done off a s (by_contra fun hne => ?_)
    obtain ⟨i, hi, hkept⟩ := (lanes_ne_zero_iff _).mp hne
    exact absurd ((hkeep i hi).symm.trans hkept) (by simp [hnone i hi])
  · obtain ⟨d, hd⟩ := (hillegal f hmem).mp hill
    obtain rfl : d = c := Option.some.inj ((mem_clamped_iff.mp hd).2.2.symm.trans hc)
    exact clamp_not_handed (a := a) hd heq hb
  · obtain ⟨d, hd⟩ := (hillegal f hmem).mp hill
    obtain rfl : d = c := Option.some.inj ((mem_clamped_iff.mp hd).2.2.symm.trans hc)
    exact clamp_handed (a := a) hd hne
  · refine (writeBack_origin hb).imp_right fun ⟨x, hx, hoff⟩ => ?_
    obtain ⟨hmem, hill⟩ := hclamped x hx
    exact ⟨x.1, hmem, hill, hoff⟩
  · exact otherWriteBack_stands hb fun x hx => hother x.1 (hclamped x hx).1 (hclamped x hx).2

/-! ### Rd (R176) -/

/-- The clampable field Rd. -/
def rdField : ClampField := ⟨0x04, 1, 0, 255, true⟩

/-- Rd is the one clampable field with a byte in the first lane of its word. -/
theorem eq_rdField : ∀ f ∈ clampFields, f.off ≤ 0x04 → 0x04 < f.off + f.width → f = rdField := by decide

theorem readLe_one (m : Cells) (a : Nat) : readLe m a 1 = (readByte m a).toNat := rfl

section
variable {s : State} (hs : MemoryForm s) (data : Word)
include hs

/-- A write of Rd alone changes its byte alone. -/
theorem readByte_rdWrite (b : Nat) :
    readByte (writeLanes s.shadow 0x04 1#4 data) b = if b = 0x04 then laneOf data 0 else readByte s.shadow b := by
  rw [lanesWritten_writeLanes s.shadow 0x04 1#4 data hs.2 b]
  by_cases hb : b = 0x04
  · subst hb
    rfl
  · rw [if_neg hb, if_neg]
    rintro ⟨hlow, hhigh, hl⟩
    have hi : b - 4 = 1 ∨ b - 4 = 2 ∨ b - 4 = 3 := by omega
    rcases hi with hi | hi | hi <;> rw [hi] at hl <;> exact absurd hl (by decide)

/-- Rd is no field for which a write is refused (R27). -/
theorem refusedField_rdWrite : refusedField s (writeLanes s.shadow 0x04 1#4 data) = none := by
  have hbyte : ∀ b, b ≠ 0x04 → byteAt (writeLanes s.shadow 0x04 1#4 data) b = byteAt s.shadow b := fun b hb => by
    rw [byteAt, byteAt, readByte_rdWrite hs data b, if_neg hb]
  cases h : refusedField s (writeLanes s.shadow 0x04 1#4 data) with
  | none => rfl
  | some f =>
    rcases ((refusedField_eq_some_iff ..).mp h).1 with ⟨-, hne, -⟩ | ⟨n, -, -, hne, -⟩ | ⟨k, -, -, hne, -⟩ | ⟨k, -, -, hne, -⟩
    · exact absurd (by rw [lwb, lwb, hbyte _ (by decide)]) hne
    · exact absurd (by rw [lineModeCode, lineModeCode, hbyte _ (by omega)]) hne
    · exact absurd (by rw [timerModeCode, timerModeCode, hbyte _ (by omega)]) hne
    · exact absurd (by rw [timerLine, timerLine, hbyte _ (by omega)]) hne

/-- A write of Rd alone clamps nothing but Rd, and Rd to W where its value lies outside the span of written records. -/
theorem mem_clamped_rdWrite {x : ClampField × Nat} : x ∈ clamped s 0x04 1#4 (writeLanes s.shadow 0x04 1#4 data) ↔
    x = (rdField, s.w.toNat) ∧ (s.w - rd s.shadow).toNat < (laneOf data 0 - rd s.shadow).toNat := by
  have hvalue : clampTo s rdField (readLe (writeLanes s.shadow 0x04 1#4 data) rdField.off rdField.width) =
      if inSpan s (laneOf data 0) then none else some s.w.toNat := by
    have hread : readLe (writeLanes s.shadow 0x04 1#4 data) rdField.off rdField.width = (laneOf data 0).toNat :=
      (readLe_one _ _).trans (by rw [readByte_rdWrite hs data]; rfl)
    rw [hread, clampTo_rd s _ rfl, BitVec.ofNat_toNat, BitVec.setWidth_eq]
  have hspan : inSpan s (laneOf data 0) = true ↔ ¬ (s.w - rd s.shadow).toNat < (laneOf data 0 - rd s.shadow).toNat := by
    rw [inSpan, decide_eq_true_iff, Nat.not_lt]
  obtain ⟨f, c⟩ := x
  rw [mem_clamped_iff, Prod.mk.injEq]
  constructor
  · rintro ⟨hf, ht, hc⟩
    obtain ⟨i, hi, hl, hlow, hhigh⟩ := (touches_iff ..).mp ht
    have hi0 : i = 0 := by
      interval_cases i
      · rfl
      all_goals exact absurd hl (by decide)
    subst hi0
    obtain rfl := eq_rdField f hf hlow hhigh
    rw [hvalue] at hc
    split at hc
    · cases hc
    · exact ⟨⟨rfl, (Option.some.inj hc).symm⟩, by_contra fun hno => absurd (hspan.mpr hno) ‹_›⟩
  · rintro ⟨⟨rfl, rfl⟩, hout⟩
    exact ⟨by decide, by decide, hvalue.trans (if_neg fun hin => hspan.mp hin hout)⟩

end

/-- Settles O25: within the span nothing is clamped; outside it Rd is, to W, and no lane is left. -/
theorem rdIsJudgedAgainstWrittenRecords : Obligations.RdIsJudgedAgainstWrittenRecords := by
  intro s data addr hs a new h hk
  have hclamp : ∀ x, x ∈ clamped s 0x04 a.lanes (writeLanes s.shadow 0x04 a.lanes a.data) ↔
      x = (rdField, s.w.toNat) ∧ (s.w - rd s.shadow).toNat < (new - rd s.shadow).toNat := fun _ => mem_clamped_rdWrite hs data
  refine ⟨_, exec_acceptedSetup h hk (by decide) (refusedField_rdWrite hs data), fun hin => ?_, fun hout => ?_⟩
  · have hnone : clamped s 0x04 a.lanes (writeLanes s.shadow 0x04 a.lanes a.data) = [] :=
      List.eq_nil_iff_forall_not_mem.mpr fun x hx => absurd ((hclamp x).mp hx).2 (Nat.not_lt.mpr hin)
    have hlanes : a.lanes ≠ 0 := (by decide : (1#4 : Lanes) ≠ 0)
    rw [acceptSetup_unclamped hnone hlanes]
    exact ⟨by simp [holdAs, a, accessOf], by simp [holdAs], unchangedBut_held s _ false s.readData⟩
  · have hrd : (rdField, s.w.toNat) ∈ clamped s 0x04 a.lanes (writeLanes s.shadow 0x04 a.lanes a.data) := (hclamp _).mpr ⟨rfl, hout⟩
    have hkept : keptLanes s 0x04 a = 0 := by
      by_contra hne
      obtain ⟨i, hi, hl⟩ := (lanes_ne_zero_iff _).mp hne
      obtain ⟨hlane, hfree⟩ := (getLsbD_keptLanes s 0x04 a hi).mp hl
      have hlane' : (1#4).getLsbD i = true := hlane
      interval_cases i
      · exact hfree _ hrd ⟨Nat.le_refl 4, Nat.lt_succ_self 4⟩
      all_goals exact absurd hlane' (by decide)
    refine ⟨acceptSetup_done _ a s hkept, unchangedBut_acceptSetup _ a s, fun b hb hoff => otherWriteBack_stands hb fun x hx => ?_,
      fun hne => ?_⟩
    · rw [((hclamp x).mp hx).1]
      exact hoff
    · have hdiff : readLe s.shadow rdField.off rdField.width ≠ s.w.toNat := fun he => hne (BitVec.eq_of_toNat_eq he)
      have hbytes : leBytes rdField.width s.w.toNat = [s.w] := congrArg (fun b => [b]) ((BitVec.ofNat_toNat ..).trans (BitVec.setWidth_eq _))
      rcases clamp_handed hrd hdiff with hb | hport
      · refine .inl ⟨_, hb, rfl, ?_⟩
        exact writeBackValue_clamped hrd ((arbitrate_w _).trans (by rw [acceptSetup_eq]))
      · exact .inr (hport.trans (by rw [hbytes]; rfl))

end Sys2Proof.Machine
end

section
/-!
PROOF. A taken command between its merge and its result: the state and the arguments its body works on, and the frame of the whole
take; the refusals of commands and of arguments (O35).
-/

namespace Sys2Proof.Machine

theorem readLe_congr {m m' : Cells} : ∀ {n a : Nat}, (∀ i, i < n → readByte m' (a + i) = readByte m (a + i)) →
    readLe m' a n = readLe m a n
  | 0, _, _ => rfl
  | n + 1, a, h => by
    have hrest : readLe m' (a + 1) n = readLe m (a + 1) n := readLe_congr fun i hi => by
      rw [Nat.add_assoc, Nat.add_comm 1 i]
      exact h (i + 1) (by omega)
    have hfirst : readByte m' a = readByte m a := h 0 (by omega)
    rw [readLe, readLe, hrest, hfirst]

theorem regionPart_ring {off : Nat} (h : regionPart off = .ring) : 0x5000 ≤ off ∧ off < 0x5400 := by
  unfold regionPart at h
  split_ifs at h
  assumption

/-- What a command's body works on: the trigger has merged and the Intake's values have advanced (R93). -/
def bodyStart (m : PortMerge) (s : State) : State := advanceIntake (mergeWord m s)

section
variable {s : State} {m : PortMerge} {i : Instr} {byte : Nat}

/-! ### The state a body works on -/

section
variable (m s)

@[simp] theorem bodyStart_port : (bodyStart m s).port = none := rfl
@[simp] theorem bodyStart_crb : (bodyStart m s).crb = s.crb := rfl
@[simp] theorem bodyStart_session : (bodyStart m s).session = s.session := rfl
@[simp] theorem clipOf_bodyStart (c : Nat) : clipOf (bodyStart m s) c = clipOf s c := rfl
@[simp] theorem slotOf_bodyStart (k : Nat) : slotOf (bodyStart m s) k = slotOf s k := rfl

end

theorem bodyStart_results (h : Takes s m byte) : (bodyStart m s).results = s.results.filter (fun r => r.1 != m.slot) :=
  mergeWord_results_of_takes h

/-- The trigger's word is the first of its slot. -/
theorem slotOffset_slot (h : Takes s m byte) : slotOffset m.slot = m.off ∧ 0x5000 ≤ m.off := by
  obtain ⟨-, -, hring, hword, -⟩ := h
  obtain ⟨hlow, -⟩ := regionPart_ring hring
  simp only [slotOffset, PortMerge.slot, ringBase]
  omega

/-- Every byte of the shadow but the trigger's own word is as it was. -/
theorem readByte_bodyStart (hs : MemoryForm s) {b : Nat} (hb : b < m.off ∨ m.off + 4 ≤ b) :
    readByte (bodyStart m s).shadow b = readByte s.shadow b :=
  (lanesWritten_writeLanes s.shadow m.off m.writtenLanes m.writtenData hs.2 b).trans (if_neg (by omega))

/-- The Setup Block is as it was. -/
theorem byteAt_bodyStart (hs : MemoryForm s) (h : Takes s m byte) {b : Nat} (hb : b < 0x5000) :
    byteAt (bodyStart m s).shadow b = byteAt s.shadow b :=
  congrArg BitVec.toNat (readByte_bodyStart hs (.inl (Nat.lt_of_lt_of_le hb (slotOffset_slot h).2)))

/-- The arguments are those that the shadow holds before the trigger. -/
theorem commandArgs_bodyStart (hs : MemoryForm s) (h : Takes s m byte) :
    commandArgs (bodyStart m s).shadow m.slot = argsOf s m := by
  have hslot := (slotOffset_slot h).1
  have hbyte : ∀ d, 4 ≤ d → byteAt (bodyStart m s).shadow (m.off + d) = byteAt s.shadow (m.off + d) := fun d hd =>
    congrArg BitVec.toNat (readByte_bodyStart hs (by omega))
  have hword : ∀ d, 4 ≤ d → readLe (bodyStart m s).shadow (m.off + d) 4 = readLe s.shadow (m.off + d) 4 := fun d hd =>
    readLe_congr fun i _ => readByte_bodyStart hs (by omega)
  simp only [argsOf, commandArgs, hslot, hbyte 4 (by decide), hbyte 5 (by decide), hbyte 6 (by decide), hword 8 (by decide),
    hword 12 (by decide)]

/-! ### The take as a whole -/

/-- What a take leaves, from what its body answers. -/
theorem takeTrigger_of_body (hs : MemoryForm s) (h : Takes s m byte) {body : CommandBody} {u : State} {code : ResultCode}
    (hbody : body (argsOf s m) (bodyStart m s) = (u, code)) : takeTrigger body m s = handResult m.slot code u := by
  rw [← commandArgs_bodyStart hs h] at hbody
  rw [takeTrigger, performMerge_of_takes h]
  change handResult m.slot (body (commandArgs (bodyStart m s).shadow m.slot) (bodyStart m s)).2
    (body (commandArgs (bodyStart m s).shadow m.slot) (bodyStart m s)).1 = _
  rw [hbody]

/-- A command of the table, from what its body answers. -/
theorem exec_of_body (hs : MemoryForm s) (h : Takes s m byte) (hrow : (i, byte) ∈ commandRows) {u : State} {code : ResultCode}
    (hbody : bodyOf byte (argsOf s m) (bodyStart m s) = (u, code)) :
    exec i s = .next (arbitrate (handResult m.slot code u)) := by
  rw [exec_of_commandRows hrow, commandStep_of_takes (p := fun c => c == byte) h (beq_self_eq_true byte),
    takeTrigger_of_body hs h hbody]

/-- The result stands behind those of the other slots. -/
theorem answered_arbitrate (h : Takes s m byte) {u : State} (code : ResultCode) (hu : u.results = (bodyStart m s).results) :
    Answered m code s (arbitrate (handResult m.slot code u)) := by
  rw [Answered, arbitrate_results, handResult_results, hu, bodyStart_results h]

/-- The merge and the Intake's advance stay within the parts of a take. -/
theorem same_bodyStart {p : Part} (hp : p ∉ takeParts) : Same p s (bodyStart m s) := by
  cases p
  case path | port | mem | shadow | writeBacks | intake | results => exact absurd (by simp [takeParts]) hp
  case stale =>
    intro b _ hb
    cases hb
  all_goals simp [Same, Kept, bodyStart, advanceIntake, mergeWord, accessDone, portFree, servedVoice, voiceOf, marksLeft, againLeft,
    CopyLeft]

/-- The frame of a take: its own parts, and those its body may change. -/
theorem unchangedBut_take {extra : List Part} {u : State} (code : ResultCode) (hport : u.port = none)
    (h : ∀ p, p ∉ takeParts ++ extra → Same p (bodyStart m s) u) :
    unchangedBut (takeParts ++ extra) s (arbitrate (handResult m.slot code u)) := by
  refine unchangedBut_arbitrated (fun p hp => ?_) (by simp [hport, takeParts])
  have htake : p ∉ takeParts := fun hm => hp (List.mem_append_left _ hm)
  by_cases hstale : p = .stale
  · subst hstale
    intro b _ hb
    exact absurd (hport.symm.trans hb) (by simp)
  · have hpp : p ≠ .port := fun he => htake (by simp [he, takeParts])
    refine same_trans hpp hstale (same_trans hpp hstale (same_bodyStart htake) (h p hp)) ?_
    have hself := same_refl p u
    cases p
    case results => exact absurd (by simp [takeParts]) htake
    all_goals exact hself

/-- A take whose body refuses changes the parts of a take alone. -/
theorem refused_take (h : Takes s m byte) (code : ResultCode) :
    Answered m code s (arbitrate (handResult m.slot code (bodyStart m s))) ∧
      unchangedBut takeParts s (arbitrate (handResult m.slot code (bodyStart m s))) := by
  have hframe := unchangedBut_take (s := s) (m := m) (extra := []) code rfl (fun p _ => same_refl p _)
  rw [List.append_nil] at hframe
  exact ⟨answered_arbitrate h code rfl, hframe⟩

/-- A command of the table whose body refuses. -/
theorem exec_refused (hs : MemoryForm s) (h : Takes s m byte) (hrow : (i, byte) ∈ commandRows) {code : ResultCode}
    (hbody : bodyOf byte (argsOf s m) (bodyStart m s) = (bodyStart m s, code)) :
    ∃ t, exec i s = .next t ∧ Answered m code s t ∧ unchangedBut takeParts s t :=
  ⟨_, exec_of_body hs h hrow hbody, refused_take h code⟩

/-! ### Arguments out of range (R41, R97) -/

theorem releaseBad_iff (a : CommandArgs) : releaseBad a = true ↔
    3 < a.b0 ∨ 2 < a.b2 ∨ a.b0 = 2 ∧ 23 < a.b1 ∨ a.b0 = 1 ∧ (a.b1 = 0 ∨ 15 < a.b1) := by
  simp [releaseBad, or_assoc]

theorem timerStartBad_iff (s : State) (t : Nat) : timerStartBad s t = true ↔
    3 < t ∨ timerMode s.shadow t = .hold ∧ lineMode s.shadow (timerLine s.shadow t) ≠ .hold := by
  simp [timerStartBad]

theorem loadOpenBad_iff (a : CommandArgs) : loadOpenBad a = true ↔
    127 < a.b0 ∨ 3 < a.b1 ∨ a.b2 ≠ 1 ∧ a.b2 ≠ 2 ∨ a.w3 = 0 ∨ 4194304 < a.w3 ∨ a.w2 % 0x400 ≠ 0 ∨
      0x10000000 < a.w2 + a.w3 * a.b2 * 2 := by
  simp only [loadOpenBad, Bool.or_eq_true, Bool.and_eq_true, decide_eq_true_eq, bne_iff_ne, beq_iff_eq, or_assoc]
  rfl

/-- The trigger changes no timer's mode, nor its bound line, nor that line's mode. -/
theorem timerStartBad_bodyStart (hs : MemoryForm s) (h : Takes s m byte) {t : Nat} (ht : t < 256) :
    timerStartBad (bodyStart m s) t = timerStartBad s t := by
  have hline : timerLine s.shadow t < 8 := Nat.mod_lt _ (by decide)
  have hbound : timerLine (bodyStart m s).shadow t = timerLine s.shadow t :=
    congrArg (· % 8) (byteAt_bodyStart hs h (by omega))
  have hcode : timerModeCode (bodyStart m s).shadow t = timerModeCode s.shadow t :=
    congrArg (· % 4) (byteAt_bodyStart hs h (by omega))
  have hmode : lineMode (bodyStart m s).shadow (timerLine s.shadow t) = lineMode s.shadow (timerLine s.shadow t) :=
    congrArg (fun b => lineModeOfCode (b % 8)) (byteAt_bodyStart hs h (by omega))
  simp only [timerStartBad, hbound, timerMode, hcode, hmode]

theorem argsOf_b0_lt (s : State) (m : PortMerge) : (argsOf s m).b0 < 256 := BitVec.isLt _

/-- What R41 and R97 call out of range, row by row. -/
def BadArguments (i : Instr) (a : CommandArgs) (s : State) : Prop :=
  (i = .release ∧ (3 < a.b0 ∨ 2 < a.b2 ∨ a.b0 = 2 ∧ 23 < a.b1 ∨ a.b0 = 1 ∧ (a.b1 = 0 ∨ 15 < a.b1))) ∨
    (i = .timerStart ∧ (3 < a.b0 ∨ timerMode s.shadow a.b0 = .hold ∧ lineMode s.shadow (timerLine s.shadow a.b0) ≠ .hold)) ∨
    (i = .timerStop ∧ 3 < a.b0) ∨
    (i = .loadOpen ∧ (127 < a.b0 ∨ 3 < a.b1 ∨ a.b2 ≠ 1 ∧ a.b2 ≠ 2 ∨ a.w3 = 0 ∨ 4194304 < a.w3 ∨ a.w2 % 0x400 ≠ 0 ∨
      0x10000000 < a.w2 + a.w3 * a.b2 * 2)) ∨
    ((i = .clipDiscard ∨ i = .pin ∨ i = .unpin) ∧ 127 < a.b0)

/-- A row has one command byte. -/
theorem byte_of_row {c : Nat} (hrow : (i, byte) ∈ commandRows) (hc : (i, c) ∈ commandRows) : byte = c := by
  have hrows : (commandRows.map Prod.fst).Nodup := by decide
  exact congrArg Prod.snd (List.inj_on_of_nodup_map hrows hrow hc rfl)

/-- Such a command's body refuses them with BAD_ARGUMENT. -/
theorem bodyOf_badArguments (hs : MemoryForm s) (h : Takes s m byte) (hrow : (i, byte) ∈ commandRows)
    (hbad : BadArguments i (argsOf s m) s) :
    bodyOf byte (argsOf s m) (bodyStart m s) = (bodyStart m s, .badArgument) := by
  rcases hbad with ⟨rfl, hbad⟩ | ⟨rfl, hbad⟩ | ⟨rfl, hbad⟩ | ⟨rfl, hbad⟩ | ⟨rfl | rfl | rfl, hbad⟩
  · obtain rfl := byte_of_row (c := 0x02) hrow (by decide)
    exact if_pos ((releaseBad_iff _).mpr hbad)
  · obtain rfl := byte_of_row (c := 0x18) hrow (by decide)
    exact if_pos ((timerStartBad_bodyStart hs h (argsOf_b0_lt s m)).trans ((timerStartBad_iff _ _).mpr hbad))
  · obtain rfl := byte_of_row (c := 0x19) hrow (by decide)
    exact if_pos hbad
  · obtain rfl := byte_of_row (c := 0x20) hrow (by decide)
    exact if_pos ((loadOpenBad_iff _).mpr hbad)
  · obtain rfl := byte_of_row (c := 0x23) hrow (by decide)
    exact if_pos hbad
  · obtain rfl := byte_of_row (c := 0x28) hrow (by decide)
    exact if_pos hbad
  · obtain rfl := byte_of_row (c := 0x29) hrow (by decide)
    exact if_pos hbad

/-- A command byte without a meaning is taken with a body that refuses it. -/
theorem exec_unknownCommand (hs : MemoryForm s) (h : Takes s m byte) (hbyte : (commandRows.map Prod.snd).contains byte = false) :
    exec .unknownCommand s = .next (arbitrate (handResult m.slot .badCommand (bodyStart m s))) := by
  have htake := commandStep_of_takes (p := fun c => !listed c) (body := unknownBody) h (by rw [listed_eq, hbyte]; rfl)
  rw [takeTrigger_of_body (body := unknownBody) hs h rfl] at htake
  exact htake

end

/-- Settles O35: either the byte has no row, or the row's body refuses its arguments; the take is then the merge and the advance. -/
theorem refusedCommandsChangeNothing : Obligations.RefusedCommandsChangeNothing := by
  intro s m byte hs h a i code hcase
  rcases hcase with ⟨rfl, hbyte, rfl⟩ | ⟨rfl, hrow, hbad⟩
  · exact ⟨_, exec_unknownCommand hs h hbyte, refused_take h .badCommand⟩
  · exact exec_refused hs h hrow (bodyOf_badArguments hs h hrow hbad)

end Sys2Proof.Machine
end

section
/-!
PROOF. The load session opened, closed and aborted (O43, O44).
-/

namespace Sys2Proof.Machine

/-! ### What the three commands change -/

@[simp] theorem clipOf_handResult (k : Nat) (code : ResultCode) (s : State) (c : Nat) : clipOf (handResult k code s) c = clipOf s c := rfl
@[simp] theorem slotOf_handResult (k : Nat) (code : ResultCode) (s : State) (j : Nat) : slotOf (handResult k code s) j = slotOf s j := rfl
@[simp] theorem slotOf_arbitrate (s : State) (k : Nat) : slotOf (arbitrate s) k = slotOf s k := by simp [slotOf]

/-- The frame of a load command's body: the session, the clip entries and their mirror flags, head slots, an event. -/
theorem same_of_loadBlock {ps : List Part} {s t : State}
    (h : t = { s with
      session := t.session, clips := t.clips, mirrorFlags := t.mirrorFlags, mirrorAgain := t.mirrorAgain, slots := t.slots,
      queue := t.queue, lost := t.lost, nextSeq := t.nextSeq })
    (hsession : .session ∈ ps) (hclips : .clips ∈ ps) (hmirror : .mirror ∈ ps) (hslots : .slots ∈ ps ∨ t.slots = s.slots)
    (hq : .queue ∈ ps ∨ t.queue = s.queue ∧ t.lost = s.lost ∧ t.nextSeq = s.nextSeq) : ∀ p, p ∉ ps → Same p s t := by
  intro p hp
  cases p
  case session => exact absurd hsession hp
  case clips => exact absurd hclips hp
  case mirror => exact absurd hmirror hp
  case slots => exact hslots.resolve_left hp
  case queue => exact hq.resolve_left hp
  case stale =>
    rw [h]
    exact same_refl .stale s
  all_goals
    rw [h]
    simp [Same, Kept, servedVoice, writeBacksLeft, marksLeft, CopyLeft, voiceOf]

section
variable {s : State} {m : PortMerge} {byte : Nat}

/-- The access on the port at a take is the controller's. -/
theorem port_of_takes (h : Takes s m byte) : s.port = some .controller := by
  have hm := h.1
  unfold portMerge at hm
  split at hm
  · rename_i hport
    exact (onPort_eq_some hport).1
  · cases hm

/-- An event is raised behind the merge as before it: neither port holds a record's write. -/
theorem raiseEvent_bodyStart (h : Takes s m byte) (k : EventKind) (a b : Nat) (value : Word) :
    (raiseEvent k a b value (bodyStart m s)).queue = (raiseEvent k a b value s).queue ∧
      (raiseEvent k a b value (bodyStart m s)).lost = (raiseEvent k a b value s).lost ∧
      (raiseEvent k a b value (bodyStart m s)).nextSeq = (raiseEvent k a b value s).nextSeq := by
  have hgranted : headGranted (bodyStart m s) = headGranted s := by simp [headGranted, port_of_takes h]
  have hself : bodyStart m s = { bodyStart m s with
      rst := s.rst, sweep := s.sweep, frameCounter := s.frameCounter, queue := s.queue, lost := s.lost, nextSeq := s.nextSeq } := rfl
  simp only [raiseEvent, splitQueue, hgranted]
  rw [hself]
  split_ifs <;> exact ⟨rfl, rfl, rfl⟩

/-- An event that a command's body raises, whatever else it has changed of what raising does not depend on. -/
theorem raises_take (h : Takes s m byte) {k : EventKind} {a b : Nat} {value : Word} {w : State} (hw : QueueAlike (bodyStart m s) w)
    (code : ResultCode) : Raises k a b value s (arbitrate (handResult m.slot code (raiseEvent k a b value w))) := by
  obtain ⟨hq, hl, hn⟩ := raiseEvent_bodyStart h k a b value
  rw [Raises, ← hq, ← hl, ← hn]
  exact raises_arbitrate hw ⟨rfl, rfl, rfl⟩

end

/-! ### LOAD_OPEN (R41, R42) -/

/-- The extent a LOAD_OPEN asks for shares a byte with the Control Region, the Load Window or another clip's extent. -/
def Overlaps (a : CommandArgs) (s : State) : Prop :=
  ∃ b, a.w2 ≤ b ∧ b < a.w2 + a.w3 * a.b2 * 2 ∧
    (s.crb * 0x1000000 ≤ b ∧ b < s.crb * 0x1000000 + 0x10000 ∨
      lwb s.shadow * 0x2000000 ≤ b ∧ b < lwb s.shadow * 0x2000000 + 0x2000000 ∨
      ∃ c lo hi, c < 128 ∧ c ≠ a.b0 ∧ extentOf (clipOf s c) = some (lo, hi) ∧ lo ≤ b ∧ b < hi)

theorem meetsOtherClip_iff (s : State) (r : Nat × Nat) (skip : Nat) : meetsOtherClip s r skip = true ↔
    ∃ b, r.1 ≤ b ∧ b < r.2 ∧ ∃ c lo hi, c < 128 ∧ c ≠ skip ∧ extentOf (clipOf s c) = some (lo, hi) ∧ lo ≤ b ∧ b < hi := by
  simp only [meetsOtherClip, List.any_eq_true, List.mem_range, Bool.and_eq_true, bne_iff_ne, meetsExtent_iff]
  constructor
  · rintro ⟨c, hc, hne, lo, hi, hext, b, hlow, hhigh, hin⟩
    exact ⟨b, hlow, hhigh, c, lo, hi, hc, hne, hext, hin⟩
  · rintro ⟨b, hlow, hhigh, c, lo, hi, hc, hne, hext, hin⟩
    exact ⟨c, hc, hne, lo, hi, hext, b, hlow, hhigh, hin⟩

theorem overlaps_iff (a : CommandArgs) (s : State) : Overlaps a s ↔
    (rangesMeet (a.w2, a.w2 + a.w3 * a.b2 * 2) (regionRange s.crb) ||
      rangesMeet (a.w2, a.w2 + a.w3 * a.b2 * 2) (windowRange (lwb s.shadow)) ||
      meetsOtherClip s (a.w2, a.w2 + a.w3 * a.b2 * 2) a.b0) = true := by
  simp only [Bool.or_eq_true, rangesMeet_iff, meetsOtherClip_iff, or_assoc, ← exists_or, ← and_or_left]
  rfl

/-- Clip `c`'s head slot, if it has one, is FREE. -/
def headFreed (c : Nat) (s : State) : State :=
  match (clipOf s c).headSlot with
  | some k => freeSlot k s
  | none => s

/-- What an accepted LOAD_OPEN leaves. -/
def opened (a : CommandArgs) (s : State) : State :=
  { setClip a.b0 ⟨.loading, a.b2, a.w2, a.w3, 0, 0, 0, .notChecked, 0, none⟩ (headFreed a.b0 s) with
    session := some ⟨a.b0, packingOfCode a.b1, a.b2, a.w2, a.w3, none, 0, 0xFFFF, true, 0⟩ }

section
variable {a : CommandArgs} {s : State}

theorem loadOpenBody_loadBusy (h : s.session ≠ none) : loadOpenBody a s = (s, .loadBusy) :=
  if_pos (Option.isSome_iff_ne_none.mpr h)

theorem loadOpenBody_clipBusy (h : s.session = none) (hbusy : (clipOf s a.b0).state = .retiring ∨ 0 < (clipOf s a.b0).uses) :
    loadOpenBody a s = (s, .clipBusy) := by
  rw [loadOpenBody, h]
  exact if_pos hbusy

theorem loadOpenBody_loadOverlap (h : s.session = none) (hbusy : ¬ ((clipOf s a.b0).state = .retiring ∨ 0 < (clipOf s a.b0).uses))
    (hover : Overlaps a s) : loadOpenBody a s = (s, .loadOverlap) := by
  rw [loadOpenBody, h]
  exact (if_neg hbusy).trans (if_pos ((overlaps_iff a s).mp hover))

theorem loadOpenBody_opened (h : s.session = none) (hbusy : ¬ ((clipOf s a.b0).state = .retiring ∨ 0 < (clipOf s a.b0).uses))
    (hover : ¬ Overlaps a s) : loadOpenBody a s = (opened a s, .done) := by
  rw [loadOpenBody, h]
  refine ((if_neg hbusy).trans (if_neg (mt (overlaps_iff a s).mpr hover))).trans ?_
  unfold opened headFreed
  cases (clipOf s a.b0).headSlot <;> rfl

end

theorem clipOf_opened (a : CommandArgs) (s : State) (c : Nat) : clipOf (opened a s) c =
    if a.b0 = c ∧ c < 128 then ⟨.loading, a.b2, a.w2, a.w3, 0, 0, 0, .notChecked, 0, none⟩ else clipOf (headFreed a.b0 s) c :=
  clipOf_setClip ..

theorem slotOf_opened (a : CommandArgs) (s : State) (k : Nat) : slotOf (opened a s) k = slotOf (headFreed a.b0 s) k := rfl

theorem headFreed_only (c : Nat) (s : State) : headFreed c s = { s with
    clips := (headFreed c s).clips, mirrorFlags := (headFreed c s).mirrorFlags, mirrorAgain := (headFreed c s).mirrorAgain,
    slots := (headFreed c s).slots } := by
  unfold headFreed
  cases (clipOf s c).headSlot <;> rfl

/-- An accepted LOAD_OPEN changes the session, the entries and their mirror flags, and the head slots. -/
theorem opened_only (a : CommandArgs) (s : State) : opened a s = { s with
    session := (opened a s).session, clips := (opened a s).clips, mirrorFlags := (opened a s).mirrorFlags,
    mirrorAgain := (opened a s).mirrorAgain, slots := (opened a s).slots } := by
  unfold opened
  rw [headFreed_only]
  rfl

section
variable {c : Nat} {s : State} (h : OwnSlot c s)
include h

/-- Freeing its own head slot touches no other clip. -/
theorem clipOf_headFreed {d : Nat} (hd : d ≠ c) : clipOf (headFreed c s) d = clipOf s d := by
  unfold headFreed
  split
  · rename_i k hk
    obtain ⟨-, hown⟩ := h k hk
    rw [freeSlot, clipOf_setClip, if_neg (by rw [hown]; exact fun he => hd he.1.symm)]
    rfl
  · rfl

theorem slotOf_headFreed (k : Nat) :
    slotOf (headFreed c s) k = if (clipOf s c).headSlot = some k then HeadSlot.blank else slotOf s k := by
  unfold headFreed
  split
  · rename_i j hj
    obtain ⟨hlt, -⟩ := h j hj
    rw [freeSlot, slotOf_setClip, slotOf_setSlot]
    refine if_congr ⟨fun he => hj.trans (congrArg some he.1), fun he => ?_⟩ rfl rfl
    obtain rfl := Option.some.inj (hj.symm.trans he)
    exact ⟨rfl, hlt⟩
  · rename_i hnone
    rw [if_neg (by simp [hnone])]

end

/-- Settles O43: the body's four answers in their order. -/
theorem loadOpenJudgesThenOpens : Obligations.LoadOpenJudgesThenOpens := by
  intro s m hs h a hclip hpacking hchannels hcap hmax hgrid hend e busy overlap
  have hgood : ¬ loadOpenBad a = true := by
    rw [loadOpenBad_iff]
    omega
  have hbody : bodyOf 0x20 (argsOf s m) (bodyStart m s) = loadOpenBody a (bodyStart m s) := if_neg hgood
  have hlwb : lwb (bodyStart m s).shadow = lwb s.shadow := congrArg (· % 8) (byteAt_bodyStart hs h (by decide))
  have hover : Overlaps a (bodyStart m s) ↔ overlap := by simp only [Overlaps, hlwb, bodyStart_crb, clipOf_bodyStart, overlap]
  have hlt : a.b0 < 128 := Nat.lt_succ_of_le hclip
  refine ⟨_, exec_of_body (i := .loadOpen) hs h (by decide) (hbody.trans Prod.mk.eta.symm), fun hopen => ?_, fun hnone hbusy => ?_,
    fun hnone hfree hov => ?_, fun hnone hfree hapart => ?_⟩
  · rw [loadOpenBody_loadBusy (s := bodyStart m s) hopen]
    exact refused_take h .loadBusy
  · rw [loadOpenBody_clipBusy (s := bodyStart m s) hnone hbusy]
    exact refused_take h .clipBusy
  · rw [loadOpenBody_loadOverlap (s := bodyStart m s) hnone hfree (hover.mpr hov)]
    exact refused_take h .loadOverlap
  · rw [loadOpenBody_opened (s := bodyStart m s) hnone hfree (mt hover.mp hapart)]
    refine ⟨answered_arbitrate h .done (by rw [opened_only]), ?_, ?_, fun hown => ⟨fun c hc => ?_, fun k => ?_⟩,
      unchangedBut_take .done (by rw [opened_only]; rfl)
        (same_of_loadBlock (by rw [opened_only]) (by simp) (by simp) (by simp) (by simp) (.inr (by rw [opened_only]; simp)))⟩
    · rw [arbitrate_session]
      rfl
    · rw [clipOf_arbitrate, clipOf_handResult, clipOf_opened, if_pos ⟨rfl, hlt⟩]
    · rw [clipOf_arbitrate, clipOf_handResult, clipOf_opened, if_neg fun he => hc he.1.symm]
      exact clipOf_headFreed (s := bodyStart m s) hown hc
    · have hown' : OwnSlot a.b0 (bodyStart m s) := hown
      rw [slotOf_arbitrate, slotOf_handResult, slotOf_opened, slotOf_headFreed hown', clipOf_bodyStart, slotOf_bodyStart]

/-! ### LOAD_CLOSE (R43, R44) -/

/-- The entry that a close leaves, with its CRC status. -/
def closedEntry (se : Session) (f : Nat) (st : CrcStatus) : ClipEntry :=
  ⟨closeState st, se.channels, se.base, 0, f + 1, se.peak, se.crc, st, 0, none⟩

/-- The session is over and its clip's entry is `e`. -/
def sessionEnded (se : Session) (e : ClipEntry) (s : State) : State := { setClip se.clip e s with session := none }

section
variable {a : CommandArgs} {s : State} {se : Session}

theorem loadCloseBody_noLoad (h : s.session = none) : loadCloseBody a s = (s, .noLoad) := by
  rw [loadCloseBody, h]

theorem loadCloseBody_loadEmpty (h : s.session = some se) (hempty : se.highest = none) : loadCloseBody a s = (s, .loadEmpty) := by
  simp only [loadCloseBody, h, hempty]

theorem loadCloseBody_closed {f : Nat} (h : s.session = some se) (hf : se.highest = some f) {st : CrcStatus}
    (hst : closeStatus (a.b0 % 2 == 1) se.orderGood se.crc (BitVec.ofNat 16 a.w2) = st) : loadCloseBody a s =
      (raiseEvent .loadDone se.clip st.code (BitVec.ofNat 32 (f + 1)) (sessionEnded se (closedEntry se f st) s), .done) := by
  subst hst
  simp only [loadCloseBody, h, hf]
  rfl

theorem loadAbortBody_noLoad (h : s.session = none) : loadAbortBody s = (s, .noLoad) := by
  rw [loadAbortBody, h]

theorem loadAbortBody_ended (h : s.session = some se) : loadAbortBody s = (sessionEnded se ClipEntry.blank s, .done) := by
  rw [loadAbortBody, h]
  rfl

end

/-- The CRC status on numbers: the expected CRC is the low half of the argument word. -/
theorem closeStatus_eq (n w : Nat) (good : Bool) (crc : Half) : closeStatus (n % 2 == 1) good crc (BitVec.ofNat 16 w) =
    if n % 2 = 0 then .notChecked else if good = false then .order else if crc.toNat = w % 65536 then .matched else .mismatch := by
  have hcheck : (n % 2 == 1) = false ↔ n % 2 = 0 := by
    rw [beq_eq_false_iff_ne]
    omega
  have hcrc : crc = BitVec.ofNat 16 w ↔ crc.toNat = w % 65536 := by rw [← BitVec.toNat_inj, BitVec.toNat_ofNat]
  simp only [closeStatus, hcheck, hcrc]

theorem closeState_eq (st : CrcStatus) : closeState st = if st = .mismatch ∨ st = .order then .faulty else .ready := by
  cases st <;> rfl

theorem clipOf_sessionEnded (se : Session) (e : ClipEntry) (s : State) (c : Nat) :
    clipOf (sessionEnded se e s) c = if se.clip = c ∧ c < 128 then e else clipOf s c := clipOf_setClip ..

theorem sessionEnded_only (se : Session) (e : ClipEntry) (s : State) : sessionEnded se e s = { s with
    session := none, clips := (sessionEnded se e s).clips, mirrorFlags := (sessionEnded se e s).mirrorFlags,
    mirrorAgain := (sessionEnded se e s).mirrorAgain } := rfl

/-- The end of a session keeps what raising an event depends on. -/
theorem sessionEnded_queueAlike (se : Session) (e : ClipEntry) (s : State) : QueueAlike s (sessionEnded se e s) :=
  ⟨rfl, rfl, rfl, rfl, rfl, rfl, rfl⟩

/-- Settles O44: the bodies' answers in their order; LOAD_DONE is raised behind the take as before it. -/
theorem loadCloseAndAbortEndTheSession : Obligations.LoadCloseAndAbortEndTheSession := by
  constructor
  · intro s m hs h a
    have hbody : bodyOf 0x21 (argsOf s m) (bodyStart m s) = loadCloseBody (argsOf s m) (bodyStart m s) := rfl
    refine ⟨_, exec_of_body (i := .loadClose) hs h (by decide) (hbody.trans Prod.mk.eta.symm), fun hnone => ?_,
      fun se hse hempty => ?_, ?_⟩
    · rw [loadCloseBody_noLoad (s := bodyStart m s) hnone]
      exact refused_take h .noLoad
    · rw [loadCloseBody_loadEmpty (s := bodyStart m s) hse hempty]
      exact refused_take h .loadEmpty
    · intro se f hse hf hclip status
      have hstatus : closeStatus ((argsOf s m).b0 % 2 == 1) se.orderGood se.crc (BitVec.ofNat 16 (argsOf s m).w2) = status :=
        closeStatus_eq ..
      rw [loadCloseBody_closed (s := bodyStart m s) hse hf hstatus]
      refine ⟨answered_arbitrate h .done (by rw [raiseEvent_only]; rfl), ?_, ?_, fun c hc => ?_,
        raises_take h (sessionEnded_queueAlike ..) .done,
        unchangedBut_take .done (by rw [raiseEvent_port]; rfl)
          (same_of_loadBlock (by rw [raiseEvent_only]; rfl) (by simp) (by simp) (by simp) (.inr (by rw [raiseEvent_slots]; rfl))
            (.inl (by simp)))⟩
      · rw [arbitrate_session, handResult_session, raiseEvent_session]
        rfl
      · rw [clipOf_arbitrate, clipOf_handResult, clipOf_raiseEvent, clipOf_sessionEnded, if_pos ⟨rfl, hclip⟩, closedEntry, closeState_eq]
      · rw [clipOf_arbitrate, clipOf_handResult, clipOf_raiseEvent, clipOf_sessionEnded, if_neg fun he => hc he.1.symm, clipOf_bodyStart]
  · intro s m hs h
    have hbody : bodyOf 0x22 (argsOf s m) (bodyStart m s) = loadAbortBody (bodyStart m s) := rfl
    refine ⟨_, exec_of_body (i := .loadAbort) hs h (by decide) (hbody.trans Prod.mk.eta.symm), fun hnone => ?_, fun se hse => ?_⟩
    · rw [loadAbortBody_noLoad (s := bodyStart m s) hnone]
      exact refused_take h .noLoad
    · rw [loadAbortBody_ended (s := bodyStart m s) hse]
      refine ⟨answered_arbitrate h .done rfl, ?_, ?_, fun c hc => ?_,
        unchangedBut_take .done rfl
          (same_of_loadBlock (by rw [sessionEnded_only]) (by simp) (by simp) (by simp) (.inr (by rfl)) (.inr (by exact ⟨rfl, rfl, rfl⟩)))⟩
      · rw [arbitrate_session]
        rfl
      · rw [clipOf_arbitrate, clipOf_handResult, clipOf_sessionEnded]
        by_cases hclip : se.clip < 128
        · exact if_pos ⟨rfl, hclip⟩
        · rw [clipOf_beyond _ hclip, ite_self]
      · rw [clipOf_arbitrate, clipOf_handResult, clipOf_sessionEnded, if_neg fun he => hc he.1.symm, clipOf_bodyStart]

end Sys2Proof.Machine
end

section
/-!
PROOF. The running totals of a load session (O18).
-/

namespace Sys2Proof.Machine

/-! ### The CRC register (R60) -/

theorem crcShift_toNat (c : Half) : (crcShift c).toNat = crcShifted c.toNat := by
  have hmsb : c.msb = true ↔ 32768 ≤ c.toNat := by rw [BitVec.msb_eq_decide, decide_eq_true_iff]
  have hlt := c.isLt
  have hshl : (c <<< 1).toNat = 2 * c.toNat % 65536 := by
    rw [BitVec.toNat_shiftLeft, Nat.shiftLeft_eq, Nat.pow_one, Nat.mul_comm]
  unfold crcShift crcShifted
  by_cases h : 32768 ≤ c.toNat
  · have hout : 2 * c.toNat % 65536 = 2 * c.toNat - 65536 := by omega
    rw [if_pos (hmsb.mpr h), if_pos h, BitVec.toNat_xor, hshl, hout]
    rfl
  · rw [if_neg (mt hmsb.mp h), if_neg h, hshl]
    omega

theorem crcByte_toNat (c : Half) (b : Byte) : (crcByte c b).toNat = crcAfterByte c.toNat b.toNat := by
  have hbyte : (c ^^^ (b ++ 0#8)).toNat = c.toNat ^^^ (256 * b.toNat) := by
    rw [BitVec.toNat_xor, BitVec.toNat_append, Nat.shiftLeft_eq, Nat.mul_comm, BitVec.toNat_zero, Nat.or_zero]
  have hshifts : List.range 8 = [0, 1, 2, 3, 4, 5, 6, 7] := by decide
  simp only [crcByte, crcShift_toNat, hbyte, crcAfterByte, hshifts, List.foldl_cons, List.foldl_nil]

theorem crcSample_toNat (c s : Half) : (crcSample c s).toNat = crcAfterSample c.toNat s := by
  have hlow : (s.extractLsb' 0 8).toNat = s.toNat % 256 := by simp
  have hhigh : (s.extractLsb' 8 8).toNat = s.toNat / 256 := by
    have hlt := s.isLt
    rw [BitVec.extractLsb'_toNat, Nat.shiftRight_eq_div_pow]
    omega
  rw [crcSample, crcByte_toNat, crcByte_toNat, hlow, hhigh, crcAfterSample]

/-! ### Samples counted one after the other (R57, R58) -/

/-- The session after stored samples, each with its frame. -/
def counted (se : Session) (xs : List (Nat × Half)) : Session := xs.foldl (fun t x => countSample t x.1 x.2) se

/-- The samples that an accepted write stores, each with its frame, lowest lane first. -/
def samplesOf (se : Session) (off : Nat) (lanes : Lanes) (data : Word) : List (Nat × Half) :=
  (enabledPositions se.packing lanes).map
    (fun i => (frameOf se.packing se.channels (off + i), storedSample se.packing data i))

theorem countWrite_eq (se : Session) (off : Nat) (lanes : Lanes) (data : Word) :
    countWrite se off lanes data = countOrder (counted se (samplesOf se off lanes data)) off lanes := by
  rw [countWrite, counted, samplesOf, List.foldl_map]

/-- Counting samples changes the highest frame, the peak and the CRC register alone. -/
theorem counted_only (xs : List (Nat × Half)) (se : Session) : counted se xs =
    { se with highest := (counted se xs).highest, peak := (counted se xs).peak, crc := (counted se xs).crc } := by
  induction xs generalizing se with
  | nil => rfl
  | cons x xs ih =>
    have h := ih (countSample se x.1 x.2)
    exact h

theorem counted_crc (xs : List (Nat × Half)) (se : Session) :
    (counted se xs).crc.toNat = xs.foldl (fun r x => crcAfterSample r x.2) se.crc.toNat := by
  induction xs generalizing se with
  | nil => rfl
  | cons x xs ih => exact (ih _).trans (by rw [List.foldl_cons, ← crcSample_toNat]; rfl)

/-- The peak covers the samples and the peak before. -/
theorem le_counted_peak (xs : List (Nat × Half)) (se : Session) :
    se.peak ≤ (counted se xs).peak ∧ ∀ x ∈ xs, magnitude x.2 ≤ (counted se xs).peak := by
  induction xs generalizing se with
  | nil => exact ⟨Nat.le_refl _, fun x hx => absurd hx List.not_mem_nil⟩
  | cons y ys ih =>
    obtain ⟨hbefore, hrest⟩ := ih (countSample se y.1 y.2)
    refine ⟨(Nat.le_max_left _ _).trans hbefore, fun x hx => ?_⟩
    rcases List.mem_cons.mp hx with rfl | hx
    · exact (Nat.le_max_right _ _).trans hbefore
    · exact hrest x hx

/-- It is the peak before or a sample's magnitude. -/
theorem counted_peak (xs : List (Nat × Half)) (se : Session) :
    (counted se xs).peak = se.peak ∨ ∃ x ∈ xs, (counted se xs).peak = magnitude x.2 := by
  induction xs generalizing se with
  | nil => exact .inl rfl
  | cons y ys ih =>
    rcases ih (countSample se y.1 y.2) with h | ⟨x, hx, h⟩
    · rcases max_choice se.peak (magnitude y.2) with hm | hm
      · exact .inl (h.trans hm)
      · exact .inr ⟨y, List.mem_cons_self, h.trans hm⟩
    · exact .inr ⟨x, List.mem_cons_of_mem _ hx, h⟩

/-- The highest frame covers those of the samples and the one before. -/
theorem le_counted_highest (xs : List (Nat × Half)) (se : Session) :
    (∀ f, se.highest = some f → ∃ g, (counted se xs).highest = some g ∧ f ≤ g) ∧
      ∀ x ∈ xs, ∃ g, (counted se xs).highest = some g ∧ x.1 ≤ g := by
  induction xs generalizing se with
  | nil => exact ⟨fun f hf => ⟨f, hf, Nat.le_refl _⟩, fun x hx => absurd hx List.not_mem_nil⟩
  | cons y ys ih =>
    obtain ⟨hbefore, hrest⟩ := ih (countSample se y.1 y.2)
    obtain ⟨g, hg, hle⟩ := hbefore _ rfl
    refine ⟨fun f hf => ⟨g, hg, ?_⟩, fun x hx => ?_⟩
    · exact (Nat.le_max_right y.1 f).trans (by simpa [hf] using hle)
    · rcases List.mem_cons.mp hx with rfl | hx
      · exact ⟨g, hg, (Nat.le_max_left _ _).trans hle⟩
      · exact hrest x hx

/-- It is the one before or a sample's frame. -/
theorem counted_highest (xs : List (Nat × Half)) (se : Session) :
    (counted se xs).highest = se.highest ∨ ∃ x ∈ xs, (counted se xs).highest = some x.1 := by
  induction xs generalizing se with
  | nil => exact .inl rfl
  | cons y ys ih =>
    rcases ih (countSample se y.1 y.2) with h | ⟨x, hx, h⟩
    · have hmax : (countSample se y.1 y.2).highest = some (max y.1 (se.highest.getD 0)) := rfl
      rw [hmax] at h
      rcases max_choice y.1 (se.highest.getD 0) with hm | hm
      · exact .inr ⟨y, List.mem_cons_self, h.trans (congrArg some hm)⟩
      · cases hse : se.highest with
        | none => exact .inr ⟨y, List.mem_cons_self, h.trans (by rw [hse, Option.getD_none, Nat.max_zero])⟩
        | some f => exact .inl (h.trans (by rw [hm, hse, Option.getD_some]))
    · exact .inr ⟨x, List.mem_cons_of_mem _ hx, h⟩

/-! ### An accepted write -/

theorem positions_sorted (p : Packing) : (positions p).Pairwise (· < ·) := by
  cases p <;> decide

theorem enabledPositions_sorted (p : Packing) (lanes : Lanes) : (enabledPositions p lanes).Pairwise (· < ·) :=
  (positions_sorted p).sublist List.filter_sublist

theorem countOrder_orderGood (se : Session) (off : Nat) (lanes : Lanes) : (countOrder se off lanes).orderGood = true ↔
    se.orderGood = true ∧ contiguous lanes = true ∧ off + lowLane lanes = se.nextOffset := by
  simp only [countOrder, Bool.and_eq_true, beq_iff_eq, and_assoc]

/-- Settles O18: the samples are counted in ascending lane, then the order flag and the next offset are set. -/
theorem acceptedWriteUpdatesTotals : Obligations.AcceptedWriteUpdatesTotals := by
  intro se off lanes data _ _ t
  have ht : t = countOrder (counted se (samplesOf se off lanes data)) off lanes := countWrite_eq se off lanes data
  have honly := counted_only (samplesOf se off lanes data) se
  have hmem : ∀ i ∈ enabledPositions se.packing lanes,
      (frameOf se.packing se.channels (off + i), storedSample se.packing data i) ∈ samplesOf se off lanes data := fun i hi =>
    List.mem_map_of_mem hi
  have hcrc := counted_crc (samplesOf se off lanes data) se
  rw [samplesOf, List.foldl_map] at hcrc
  obtain ⟨hpeak, hpeaks⟩ := le_counted_peak (samplesOf se off lanes data) se
  obtain ⟨hhigh, hhighs⟩ := le_counted_highest (samplesOf se off lanes data) se
  rw [ht]
  refine ⟨rfl, ?_, fun i hi => ⟨hhighs _ (hmem i hi), hpeaks _ (hmem i hi)⟩, hpeak, hhigh, hcrc, enabledPositions_sorted _ _,
    ?_, ?_, ?_⟩
  · rw [countOrder_orderGood, honly]
  · refine (counted_peak (samplesOf se off lanes data) se).imp_right fun ⟨x, hx, h⟩ => ?_
    obtain ⟨i, hi, rfl⟩ := List.mem_map.mp hx
    exact ⟨i, hi, h⟩
  · refine (counted_highest (samplesOf se off lanes data) se).imp_right fun ⟨x, hx, h⟩ => ?_
    obtain ⟨i, hi, rfl⟩ := List.mem_map.mp hx
    exact ⟨i, hi, h⟩
  · rw [honly]
    exact ⟨rfl, rfl, rfl, rfl, rfl⟩

end Sys2Proof.Machine
end

section
/-!
PROOF. The memory writes of a converted write (O19), and what a verify read returns (O21).
-/

namespace Sys2Proof.Machine

/-! ### Translation (R50) -/

/-- The samples of a session lie one behind the other, two bytes each. -/
theorem storedAddr_eq (p : Packing) (channels base o : Nat) :
    storedAddr p channels base o = base + o / sampleBytes p * 2 := by
  have hmod : o % (sampleBytes p * channels) / sampleBytes p = o / sampleBytes p % channels := by
    rw [Nat.mod_mul_right_div_self]
  have hdiv : o / (sampleBytes p * channels) = o / sampleBytes p / channels := (Nat.div_div_eq_div_mul ..).symm
  rw [storedAddr, frameOf, channelOf, frameBytes, hmod, hdiv, Nat.mul_comm (o / sampleBytes p / channels), Nat.div_add_mod]

/-- The sample at position `i` of the word at window offset `off` is the `i / sampleBytes`-th from the word's first. -/
theorem storedAddr_position (p : Packing) (channels base : Nat) {off : Nat} (hoff : off % 4 = 0) (i : Nat) :
    storedAddr p channels base (off + i) = base + (off / sampleBytes p + i / sampleBytes p) * 2 := by
  have hdvd : sampleBytes p ∣ off := (by cases p <;> decide : sampleBytes p ∣ 4).trans (Nat.dvd_of_mod_eq_zero hoff)
  rw [storedAddr_eq p, Nat.add_div_of_dvd_right hdvd]

theorem sampleBytes_dvd_positions (p : Packing) : ∀ i ∈ positions p, sampleBytes p ∣ i ∧ i + sampleBytes p ≤ 4 := by
  cases p <;> decide

/-! ### One memory write -/

theorem append_halves (x : Half) : x.extractLsb' 8 8 ++ x.extractLsb' 0 8 = x := by
  rw [BitVec.extractLsb'_append_extractLsb'_eq_extractLsb' (by rfl)]
  simp

theorem halfAt_addr {a : Nat} (ha : a % 2 = 0) (x : Half) : (halfAt a x).addr = a / 4 * 4 := by
  unfold halfAt
  split
  · change a = _
    omega
  · change a - 2 = _
    omega

/-- The byte a memory write brings to `b`, if it brings one. -/
def HalfWrite.byteFor (h : HalfWrite) (b : Nat) : Option Byte :=
  if h.addr ≤ b ∧ b < h.addr + 4 ∧ h.lanes.getLsbD (b - h.addr) = true then some (laneOf h.data (b - h.addr)) else none

/-- Lanes that are not enabled carry 0: two memory writes of a word can then be joined. -/
def HalfWrite.Clean (h : HalfWrite) : Prop := ∀ i, i < 4 → h.lanes.getLsbD i = false → laneOf h.data i = 0

theorem readByte_halfWrite {m : Cells} (hm : cellsWf m = true) (h : HalfWrite) (b : Nat) :
    readByte (writeLanes m h.addr h.lanes h.data) b = (h.byteFor b).getD (readByte m b) := by
  rw [lanesWritten_writeLanes m h.addr h.lanes h.data hm b, HalfWrite.byteFor]
  split_ifs <;> rfl

theorem laneOf_or (v w : Word) (i : Nat) : laneOf (v ||| w) i = laneOf v i ||| laneOf w i := BitVec.extractLsb'_or ..

theorem byteFor_lane (h : HalfWrite) {i : Nat} (hi : i < 4) :
    h.byteFor (h.addr + i) = if h.lanes.getLsbD i = true then some (laneOf h.data i) else none := by
  have hin : h.addr ≤ h.addr + i ∧ h.addr + i < h.addr + 4 := by omega
  simp only [HalfWrite.byteFor, hin, true_and, Nat.add_sub_cancel_left]

theorem byteFor_outside (h : HalfWrite) {b : Nat} (hb : b < h.addr ∨ h.addr + 4 ≤ b) : h.byteFor b = none := if_neg (by omega)

theorem toNat_laneOf (w : Word) (i : Nat) : (laneOf w i).toNat = w.toNat / 2 ^ (8 * i) % 256 := by
  rw [laneOf, BitVec.extractLsb'_toNat, Nat.shiftRight_eq_div_pow]

/-- The lanes of a halfword in the lower half of a word. -/
theorem laneOf_lowHalf (x : Half) : laneOf (BitVec.setWidth 32 x) 0 = x.extractLsb' 0 8 ∧
    laneOf (BitVec.setWidth 32 x) 1 = x.extractLsb' 8 8 ∧ laneOf (BitVec.setWidth 32 x) 2 = 0 ∧
    laneOf (BitVec.setWidth 32 x) 3 = 0 := by
  have hlt := x.isLt
  have hword : (BitVec.setWidth 32 x).toNat = x.toNat := by rw [BitVec.toNat_setWidth]; omega
  refine ⟨?_, ?_, ?_, ?_⟩ <;>
    rw [← BitVec.toNat_inj, toNat_laneOf, hword] <;> simp [Nat.shiftRight_eq_div_pow] <;> omega

/-- The lanes of a halfword in the upper half of a word. -/
theorem laneOf_highHalf (x : Half) : laneOf (x ++ 0#16) 0 = 0 ∧ laneOf (x ++ 0#16) 1 = 0 ∧
    laneOf (x ++ 0#16) 2 = x.extractLsb' 0 8 ∧ laneOf (x ++ 0#16) 3 = x.extractLsb' 8 8 := by
  have hword : (x ++ 0#16).toNat = 65536 * x.toNat := by
    rw [BitVec.toNat_append, Nat.shiftLeft_eq, Nat.mul_comm, BitVec.toNat_zero, Nat.or_zero]
  refine ⟨?_, ?_, ?_, ?_⟩ <;>
    rw [← BitVec.toNat_inj, toNat_laneOf, hword] <;> simp [Nat.shiftRight_eq_div_pow] <;> omega

theorem halfAt_low {a : Nat} (ha : a % 4 = 0) (x : Half) : halfAt a x = ⟨a, 3#4, BitVec.setWidth 32 x⟩ := if_pos ha

theorem halfAt_high {a : Nat} (ha : a % 4 = 2) (x : Half) : halfAt a x = ⟨a - 2, 12#4, x ++ 0#16⟩ := if_neg (by omega)

/-- The memory write of a halfword brings its two bytes, low byte first. -/
theorem byteFor_halfAt {a : Nat} (ha : a % 2 = 0) (x : Half) (b : Nat) : (halfAt a x).byteFor b =
    if b = a then some (x.extractLsb' 0 8) else if b = a + 1 then some (x.extractLsb' 8 8) else none := by
  have hcases : a % 4 = 0 ∨ a % 4 = 2 := by omega
  by_cases hout : b < a / 4 * 4 ∨ a / 4 * 4 + 4 ≤ b
  · rw [byteFor_outside _ (by rw [halfAt_addr ha]; exact hout), if_neg (by omega), if_neg (by omega)]
  · obtain ⟨i, hi, rfl⟩ : ∃ i, i < 4 ∧ b = (halfAt a x).addr + i := ⟨b - a / 4 * 4, by omega, by rw [halfAt_addr ha]; omega⟩
    rw [byteFor_lane _ hi]
    rcases hcases with h | h
    · obtain ⟨h0, h1, -, -⟩ := laneOf_lowHalf x
      rw [halfAt_low h]
      interval_cases i <;> simp [h0, h1]
    · obtain ⟨-, -, h2, h3⟩ := laneOf_highHalf x
      obtain ⟨c, rfl⟩ : ∃ c, a = c + 2 := ⟨a - 2, by omega⟩
      rw [halfAt_high h]
      interval_cases i
      · simp
        omega
      all_goals simp [h2, h3]

theorem byteFor_halfAt_none {a : Nat} (ha : a % 2 = 0) (x : Half) {b : Nat} (hb : b ≠ a ∧ b ≠ a + 1) : (halfAt a x).byteFor b = none := by
  rw [byteFor_halfAt ha, if_neg hb.1, if_neg hb.2]

theorem clean_halfAt {a : Nat} (ha : a % 2 = 0) (x : Half) : (halfAt a x).Clean := by
  intro i hi hl
  have hcases : a % 4 = 0 ∨ a % 4 = 2 := by omega
  rcases hcases with h | h
  · obtain ⟨-, -, h2, h3⟩ := laneOf_lowHalf x
    rw [halfAt_low h] at hl ⊢
    change (3#4).getLsbD i = false at hl
    clear ha
    interval_cases i
    · exact absurd hl (by decide)
    · exact absurd hl (by decide)
    · exact h2
    · exact h3
  · obtain ⟨h0, h1, -, -⟩ := laneOf_highHalf x
    rw [halfAt_high h] at hl ⊢
    change (12#4).getLsbD i = false at hl
    clear ha
    interval_cases i
    · exact h0
    · exact h1
    · exact absurd hl (by decide)
    · exact absurd hl (by decide)

/-! ### Memory writes of one word joined -/

/-- Two memory writes of a word in one. -/
def HalfWrite.join (w h : HalfWrite) : HalfWrite := ⟨w.addr, w.lanes ||| h.lanes, w.data ||| h.data⟩

/-- No byte is brought by both. -/
def HalfWrite.Apart (w h : HalfWrite) : Prop := ∀ b, w.byteFor b = none ∨ h.byteFor b = none

section
variable {w h : HalfWrite}

theorem clean_join (hw : w.Clean) (hh : h.Clean) : (w.join h).Clean := by
  intro i hi hl
  change (w.lanes ||| h.lanes).getLsbD i = false at hl
  rw [BitVec.getLsbD_or, Bool.or_eq_false_iff] at hl
  exact (laneOf_or ..).trans (by rw [hw i hi hl.1, hh i hi hl.2]; rfl)

/-- Joined they bring what both bring. -/
theorem byteFor_join (hw : w.Clean) (hh : h.Clean) (hsame : w.addr = h.addr) (hapart : w.Apart h) (b : Nat) :
    (w.join h).byteFor b = (h.byteFor b).or (w.byteFor b) := by
  by_cases hout : b < w.addr ∨ w.addr + 4 ≤ b
  · rw [byteFor_outside (w.join h) hout, byteFor_outside w hout, byteFor_outside h (hsame ▸ hout)]
    rfl
  · obtain ⟨i, hi, rfl⟩ : ∃ i, i < 4 ∧ b = w.addr + i := ⟨b - w.addr, by omega, by omega⟩
    have hboth := hapart (w.addr + i)
    have hj : (w.join h).byteFor (w.addr + i) = _ := byteFor_lane (w.join h) hi
    have hhi : h.byteFor (w.addr + i) = _ := hsame ▸ byteFor_lane h hi
    rw [byteFor_lane w hi, hhi] at hboth
    rw [hj, byteFor_lane w hi, hhi]
    simp only [HalfWrite.join, BitVec.getLsbD_or, laneOf_or, Bool.or_eq_true]
    cases hwl : w.lanes.getLsbD i <;> cases hhl : h.lanes.getLsbD i
    · rfl
    · simp [hw i hi hwl]
    · simp [hh i hi hhl]
    · simp [hwl, hhl] at hboth

end

/-- Memory writes made one after the other. -/
def performed (hs : List HalfWrite) (m : Cells) : Cells := hs.foldl (fun m h => writeLanes m h.addr h.lanes h.data) m

theorem joinHalf_one (w h : HalfWrite) : joinHalf [w] h = if w.addr = h.addr then [w.join h] else [w, h] := rfl

theorem joinHalf_cons (w v : HalfWrite) (ws : List HalfWrite) (h : HalfWrite) :
    joinHalf (w :: v :: ws) h = w :: joinHalf (v :: ws) h := rfl

section
variable {h : HalfWrite}

theorem mem_joinHalf {ws : List HalfWrite} {w : HalfWrite} (hw : w ∈ joinHalf ws h) :
    w ∈ ws ∨ w = h ∨ ∃ v ∈ ws, v.addr = h.addr ∧ w = v.join h := by
  induction ws with
  | nil => exact .inr (.inl (List.mem_singleton.mp hw))
  | cons v vs ih =>
    cases vs with
    | nil =>
      rw [joinHalf_one] at hw
      split at hw
      · rename_i hsame
        exact .inr (.inr ⟨v, List.mem_singleton_self v, hsame, List.mem_singleton.mp hw⟩)
      · rcases List.mem_cons.mp hw with rfl | hw
        · exact .inl (List.mem_singleton_self _)
        · exact .inr (.inl (List.mem_singleton.mp hw))
    | cons u us =>
      rw [joinHalf_cons] at hw
      rcases List.mem_cons.mp hw with rfl | hw
      · exact .inl List.mem_cons_self
      · rcases ih hw with hw | hw | ⟨x, hx, hj⟩
        · exact .inl (List.mem_cons_of_mem _ hw)
        · exact .inr (.inl hw)
        · exact .inr (.inr ⟨x, List.mem_cons_of_mem _ hx, hj⟩)

theorem joinHalf_ne_nil (ws : List HalfWrite) : joinHalf ws h ≠ [] := by
  rcases ws with _ | ⟨w, _ | ⟨v, vs⟩⟩
  · exact List.cons_ne_nil _ _
  · rw [joinHalf_one]
    split <;> exact List.cons_ne_nil _ _
  · exact List.cons_ne_nil _ _

/-- The words stay in order where the halfword's is the last of them or lies behind it. -/
theorem sorted_joinHalf {ws : List HalfWrite} (hs : (ws.map HalfWrite.addr).Pairwise (· < ·)) (hle : ∀ w ∈ ws, w.addr ≤ h.addr) :
    ((joinHalf ws h).map HalfWrite.addr).Pairwise (· < ·) := by
  induction ws with
  | nil => exact List.pairwise_singleton ..
  | cons w ws ih =>
    cases ws with
    | nil =>
      rw [joinHalf_one]
      split
      · exact List.pairwise_singleton ..
      · have hlt : w.addr < h.addr := Nat.lt_of_le_of_ne (hle w List.mem_cons_self) ‹_›
        exact List.pairwise_pair.mpr hlt
    | cons v vs =>
      obtain ⟨hfirst, hrest⟩ := List.pairwise_cons.mp hs
      have hlast : w.addr < h.addr :=
        Nat.lt_of_lt_of_le (hfirst v.addr List.mem_cons_self) (hle v (List.mem_cons_of_mem _ List.mem_cons_self))
      rw [joinHalf_cons]
      refine List.pairwise_cons.mpr ⟨fun a ha => ?_, ih hrest fun x hx => hle x (List.mem_cons_of_mem _ hx)⟩
      obtain ⟨x, hx, rfl⟩ := List.mem_map.mp ha
      rcases mem_joinHalf hx with hx | rfl | ⟨y, hy, -, rfl⟩
      · exact hfirst _ (List.mem_map_of_mem hx)
      · exact hlast
      · exact hfirst y.addr (List.mem_map_of_mem hy)

/-- Joining a halfword to the memory writes adds its own bytes and changes no other. -/
theorem readByte_joinHalf (hh : h.Clean) {ws : List HalfWrite} (hws : ∀ w ∈ ws, w.Clean ∧ w.Apart h) {m : Cells}
    (hm : cellsWf m = true) (b : Nat) :
    readByte (performed (joinHalf ws h) m) b = (h.byteFor b).getD (readByte (performed ws m) b) := by
  induction ws generalizing m with
  | nil => exact readByte_halfWrite hm h b
  | cons w ws ih =>
    have hm' : cellsWf (writeLanes m w.addr w.lanes w.data) = true := cellsWf_writeLanes m _ _ _ hm
    cases ws with
    | nil =>
      obtain ⟨hw, hapart⟩ := hws w List.mem_cons_self
      rw [joinHalf_one]
      split
      · rename_i hsame
        have hone : readByte (performed [w.join h] m) b = _ := readByte_halfWrite hm (w.join h) b
        have hbefore : readByte (performed [w] m) b = _ := readByte_halfWrite hm w b
        rw [hone, hbefore, byteFor_join hw hh hsame hapart]
        cases h.byteFor b <;> rfl
      · exact readByte_halfWrite hm' h b
    | cons v vs =>
      rw [joinHalf_cons]
      exact ih (fun x hx => hws x (List.mem_cons_of_mem _ hx)) hm'

end

/-! ### The memory writes of samples -/

/-- The memory writes of samples, each with its address. -/
def joined (xs : List (Nat × Half)) : List HalfWrite := xs.foldl (fun ws x => joinHalf ws (halfAt x.1 x.2)) []

theorem joined_append (xs : List (Nat × Half)) (x : Nat × Half) : joined (xs ++ [x]) = joinHalf (joined xs) (halfAt x.1 x.2) := by
  simp [joined]

/-- The byte is none of the samples'. -/
def Outside (xs : List (Nat × Half)) (b : Nat) : Prop := ∀ x ∈ xs, b ≠ x.1 ∧ b ≠ x.1 + 1

/-- A memory write brings bytes of the samples alone, to the word of one of them. -/
structure Brings (xs : List (Nat × Half)) (w : HalfWrite) : Prop where
  clean : w.Clean
  word : ∃ x ∈ xs, w.addr = x.1 / 4 * 4
  only : ∀ b, Outside xs b → w.byteFor b = none

/-- Memory holds the samples, and what `m` holds elsewhere. -/
def HoldsSamples (xs : List (Nat × Half)) (m m' : Cells) : Prop :=
  (∀ x ∈ xs, readHalf m' x.1 = x.2) ∧ ∀ b, Outside xs b → readByte m' b = readByte m b

/-- Samples at even addresses, lowest first, two bytes each. -/
def Spread (xs : List (Nat × Half)) : Prop := (∀ x ∈ xs, x.1 % 2 = 0) ∧ xs.Pairwise (fun x y => x.1 + 2 ≤ y.1)

theorem spread_append {xs : List (Nat × Half)} {x : Nat × Half} (h : Spread (xs ++ [x])) :
    Spread xs ∧ x.1 % 2 = 0 ∧ ∀ y ∈ xs, y.1 + 2 ≤ x.1 := by
  obtain ⟨heven, hp⟩ := h
  obtain ⟨hp, -, hlast⟩ := List.pairwise_append.mp hp
  exact ⟨⟨fun y hy => heven y (List.mem_append_left _ hy), hp⟩, heven x (by simp), fun y hy => hlast y hy x (by simp)⟩

theorem Brings.mono {xs ys : List (Nat × Half)} {w : HalfWrite} (h : Brings xs w) (hs : ∀ x ∈ xs, x ∈ ys) : Brings ys w := by
  obtain ⟨x, hx, hword⟩ := h.word
  exact ⟨h.clean, ⟨x, hs x hx, hword⟩, fun b hb => h.only b fun y hy => hb y (hs y hy)⟩

/-- A halfword above the samples brings none of their bytes. -/
theorem Brings.apart {xs : List (Nat × Half)} {w : HalfWrite} (h : Brings xs w) {a : Nat} (ha : a % 2 = 0)
    (hbelow : ∀ y ∈ xs, y.1 + 2 ≤ a) (x : Half) : w.Apart (halfAt a x) := by
  intro b
  by_cases hb : b < a
  · exact .inr (byteFor_halfAt_none ha x (by omega))
  · refine .inl (h.only b fun y hy => ?_)
    have hle := hbelow y hy
    omega

theorem brings_joined {xs : List (Nat × Half)} (hx : Spread xs) : ∀ w ∈ joined xs, Brings xs w := by
  induction xs using List.reverseRecOn with
  | nil => exact fun w hw => absurd hw List.not_mem_nil
  | append_singleton xs x ih =>
    obtain ⟨hxs, heven, hbelow⟩ := spread_append hx
    have hnew : Brings (xs ++ [x]) (halfAt x.1 x.2) :=
      ⟨clean_halfAt heven x.2, ⟨x, by simp, halfAt_addr heven x.2⟩, fun b hb => byteFor_halfAt_none heven x.2 (hb x (by simp))⟩
    rw [joined_append]
    intro w hw
    rcases mem_joinHalf hw with hw | rfl | ⟨v, hv, hsame, rfl⟩
    · exact (ih hxs w hw).mono fun y hy => List.mem_append_left _ hy
    · exact hnew
    · have hold := ih hxs v hv
      have hmore := hold.mono (ys := xs ++ [x]) fun y hy => List.mem_append_left _ hy
      refine ⟨clean_join hold.clean hnew.clean, hmore.word, fun b hb => ?_⟩
      rw [byteFor_join hold.clean hnew.clean hsame (hold.apart heven hbelow x.2), hnew.only b hb, hmore.only b hb]
      rfl

theorem sorted_joined {xs : List (Nat × Half)} (hx : Spread xs) : ((joined xs).map HalfWrite.addr).Pairwise (· < ·) := by
  induction xs using List.reverseRecOn with
  | nil => exact List.Pairwise.nil
  | append_singleton xs x ih =>
    obtain ⟨hxs, heven, hbelow⟩ := spread_append hx
    rw [joined_append]
    refine sorted_joinHalf (ih hxs) fun w hw => ?_
    obtain ⟨y, hy, hword⟩ := (brings_joined hxs w hw).word
    have hle := hbelow y hy
    rw [hword, halfAt_addr heven]
    omega

theorem holdsSamples_joined {xs : List (Nat × Half)} (hx : Spread xs) {m : Cells} (hm : cellsWf m = true) :
    HoldsSamples xs m (performed (joined xs) m) := by
  induction xs using List.reverseRecOn with
  | nil => exact ⟨fun x hx => absurd hx List.not_mem_nil, fun _ _ => rfl⟩
  | append_singleton xs x ih =>
    obtain ⟨hxs, heven, hbelow⟩ := spread_append hx
    obtain ⟨hsamples, hothers⟩ := ih hxs
    have hread : ∀ b, readByte (performed (joined (xs ++ [x])) m) b =
        ((halfAt x.1 x.2).byteFor b).getD (readByte (performed (joined xs) m) b) := fun b => by
      rw [joined_append]
      exact readByte_joinHalf (clean_halfAt heven x.2)
        (fun w hw => ⟨(brings_joined hxs w hw).clean, (brings_joined hxs w hw).apart heven hbelow x.2⟩) hm b
    have hkept : ∀ b, b ≠ x.1 ∧ b ≠ x.1 + 1 →
        readByte (performed (joined (xs ++ [x])) m) b = readByte (performed (joined xs) m) b := fun b hb => by
      rw [hread, byteFor_halfAt_none heven x.2 hb]
      rfl
    refine ⟨fun y hy => ?_, fun b hb => ?_⟩
    · rcases List.mem_append.mp hy with hy | hy
      · have hle := hbelow y hy
        rw [readHalf, hkept y.1 (by omega), hkept (y.1 + 1) (by omega)]
        exact hsamples y hy
      · obtain rfl := List.mem_singleton.mp hy
        rw [readHalf, hread, hread, byteFor_halfAt heven, byteFor_halfAt heven, if_pos rfl, if_neg (by omega), if_pos rfl]
        exact append_halves y.2
    · rw [hkept b (hb x (by simp))]
      exact hothers b fun y hy => hb y (List.mem_append_left _ hy)

/-! ### The memory writes of an accepted write -/

/-- The samples of an accepted write with their addresses, lowest lane first. -/
def storedSamples (se : Session) (off : Nat) (lanes : Lanes) (data : Word) : List (Nat × Half) :=
  (enabledPositions se.packing lanes).map
    (fun i => (storedAddr se.packing se.channels se.base (off + i), storedSample se.packing data i))

theorem mem_storedSamples {se : Session} {off : Nat} {lanes : Lanes} {i : Nat} (h : i ∈ enabledPositions se.packing lanes) (data : Word) :
    (storedAddr se.packing se.channels se.base (off + i), storedSample se.packing data i) ∈ storedSamples se off lanes data :=
  List.mem_map_of_mem h

theorem halfWrites_eq (se : Session) (off : Nat) (lanes : Lanes) (data : Word) :
    halfWrites se off lanes data = joined (storedSamples se off lanes data) := by
  rw [halfWrites, joined, storedSamples, List.foldl_map]

theorem mem_positions_of_enabled {p : Packing} {lanes : Lanes} {i : Nat} (h : i ∈ enabledPositions p lanes) : i ∈ positions p :=
  List.mem_of_mem_filter h

/-- A write that is not partial covers a sample. -/
theorem enabledPositions_ne_nil {p : Packing} {lanes : Lanes} (hl : lanes ≠ 0) (hp : isPartial p lanes = false) :
    enabledPositions p lanes ≠ [] := by
  cases p <;> revert lanes <;> decide

section
variable {se : Session} {off : Nat} (hbase : se.base % 4 = 0) (hoff : off % 4 = 0)
include hbase hoff

/-- Its samples lie in two aligned words at most. -/
theorem storedAddr_word (lanes : Lanes) (data : Word) : ∃ lo, lo % 4 = 0 ∧ ∀ x ∈ storedSamples se off lanes data,
    lo ≤ x.1 / 4 * 4 ∧ x.1 / 4 * 4 < lo + 8 := by
  refine ⟨(se.base + off / sampleBytes se.packing * 2) / 4 * 4, Nat.mul_mod_left _ _, fun x hx => ?_⟩
  obtain ⟨i, hi, rfl⟩ := List.mem_map.mp hx
  have hpos := mem_positions_of_enabled hi
  simp only [storedAddr_position _ _ _ hoff]
  cases hp : se.packing <;> simp only [hp, positions, sampleBytes, List.mem_cons, List.not_mem_nil, or_false] at hpos ⊢ <;> omega

theorem spread_storedSamples (lanes : Lanes) (data : Word) : Spread (storedSamples se off lanes data) := by
  refine ⟨fun x hx => ?_, ?_⟩
  · obtain ⟨i, -, rfl⟩ := List.mem_map.mp hx
    simp only [storedAddr_eq]
    omega
  · refine List.pairwise_map.mpr ((enabledPositions_sorted se.packing lanes).imp_of_mem fun {i j} hi hj hlt => ?_)
    obtain ⟨⟨k, rfl⟩, -⟩ := sampleBytes_dvd_positions _ i (mem_positions_of_enabled hi)
    obtain ⟨⟨n, rfl⟩, -⟩ := sampleBytes_dvd_positions _ j (mem_positions_of_enabled hj)
    have hpos : 0 < sampleBytes se.packing := by cases se.packing <;> decide
    have hkn : k < n := Nat.lt_of_mul_lt_mul_left hlt
    simp only [storedAddr_position _ _ _ hoff, Nat.mul_div_cancel_left _ hpos]
    omega

end

/-- Numbers of aligned words in rising order, none two words above another, are two at most. -/
theorem length_le_two_of_words {lo : Nat} (hlo : lo % 4 = 0) {xs : List Nat} (hs : xs.Pairwise (· < ·))
    (h : ∀ a ∈ xs, a % 4 = 0 ∧ lo ≤ a ∧ a < lo + 8) : xs.length ≤ 2 := by
  match xs with
  | [] | [_] | [_, _] => simp
  | a :: b :: c :: _ =>
    have ha := h a (by simp)
    have hb := h b (by simp)
    have hc := h c (by simp)
    simp only [List.pairwise_cons, List.mem_cons, forall_eq_or_imp] at hs
    omega

theorem joined_ne_nil {xs : List (Nat × Half)} (hx : xs ≠ []) : joined xs ≠ [] := by
  rw [← List.dropLast_append_getLast hx, joined_append]
  exact joinHalf_ne_nil _

/-- Settles O19: the samples are spread two bytes apart over at most two words, and joining keeps what each brings. -/
theorem convertedWritesStoreSamples : Obligations.ConvertedWritesStoreSamples := by
  intro se off lanes data m hm _ hbase hoff hlanes hpart
  have hspread := spread_storedSamples hbase hoff lanes data
  have hbrings := brings_joined hspread
  obtain ⟨hsamples, hothers⟩ := holdsSamples_joined hspread hm
  obtain ⟨lo, hlo, hwords⟩ := storedAddr_word hbase hoff lanes data
  rw [halfWrites_eq]
  refine ⟨fun i hi => ?_, fun b hb => hothers b fun x hx => ?_, fun h hh => ?_,
    sorted_joined hspread, ?_, ?_⟩
  · have hsample := hsamples _ (mem_storedSamples hi data)
    exact hsample
  · obtain ⟨i, hi, rfl⟩ := List.mem_map.mp hx
    exact hb i hi
  · obtain ⟨x, -, hword⟩ := (hbrings h hh).word
    omega
  · exact List.length_pos_iff.mpr (joined_ne_nil (mt List.map_eq_nil_iff.mp (enabledPositions_ne_nil hlanes hpart)))
  · rw [← List.length_map (f := HalfWrite.addr)]
    refine length_le_two_of_words hlo (sorted_joined hspread) fun a ha => ?_
    obtain ⟨h, hh, rfl⟩ := List.mem_map.mp ha
    obtain ⟨x, hx, hword⟩ := (hbrings h hh).word
    rw [hword]
    exact ⟨by omega, hwords x hx⟩

end Sys2Proof.Machine
end

section
/-!
PROOF. What a verify read returns (O21): the word put together from its positions, and a sample stored and read back.
-/

namespace Sys2Proof.Machine

/-! ### A halfword of a memory word -/

theorem wordOfLanes_low (b0 b1 b2 b3 : Byte) : (wordOfLanes b0 b1 b2 b3).extractLsb' 0 16 = b1 ++ b0 := by
  refine BitVec.eq_of_getLsbD_eq fun k hk => ?_
  have hlast : k - 8 < 8 := by omega
  simp only [wordOfLanes, BitVec.getLsbD_extractLsb', BitVec.getLsbD_append, Nat.zero_add, hk, hlast, decide_true, Bool.true_and,
    if_true]

theorem wordOfLanes_high (b0 b1 b2 b3 : Byte) : (wordOfLanes b0 b1 b2 b3).extractLsb' 16 16 = b3 ++ b2 := by
  refine BitVec.eq_of_getLsbD_eq fun k hk => ?_
  have h1 : ¬ 16 + k < 8 := by omega
  have h2 : ¬ 16 + k - 8 < 8 := by omega
  have h3 : 16 + k - 8 - 8 = k := by omega
  simp only [wordOfLanes, BitVec.getLsbD_extractLsb', BitVec.getLsbD_append, hk, h1, h2, h3, decide_true, Bool.true_and, if_false]

theorem extract_readWord (m : Cells) {a : Nat} (ha : a % 2 = 0) :
    (readWord m (wordOf a)).extractLsb' (8 * (a % 4)) 16 = readHalf m a := by
  have hcases : a % 4 = 0 ∨ a % 4 = 2 := by omega
  rcases hcases with h | h
  · have hword : wordOf a = a := by rw [wordOf]; omega
    rw [h, hword]
    exact wordOfLanes_low ..
  · have hlow : wordOf a + 2 = a := by rw [wordOf]; omega
    have hhigh : wordOf a + 3 = a + 1 := by omega
    rw [h, readWord, hlow, hhigh]
    exact wordOfLanes_high ..

/-! ### What a sample returns -/

/-- The stored 16 bits of P24L stand over zeros. -/
theorem returnedSample_p24l (x : Half) : returnedSample .p24l x = x ++ 0#16 := by
  refine BitVec.eq_of_toNat_eq ?_
  have hlt := x.isLt
  have hint := BitVec.toInt_eq_toNat_cond x
  have hright : (x ++ 0#16).toNat = 65536 * x.toNat := by
    rw [BitVec.toNat_append, Nat.shiftLeft_eq, Nat.mul_comm, BitVec.toNat_zero, Nat.or_zero]
  rw [hright, returnedSample, BitVec.toNat_ofInt]
  split at hint <;> omega

/-- A sample returns no bit beyond its own lanes. -/
theorem returnedSample_high (p : Packing) (x : Half) {k : Nat} (hk : 8 * sampleBytes p ≤ k) : (returnedSample p x).getLsbD k = false := by
  have hwide : ∀ {n : Nat} (y : BitVec n), n ≤ k → (BitVec.setWidth 32 y).getLsbD k = false := fun y hy => by
    rw [BitVec.getLsbD_setWidth, BitVec.getLsbD_of_ge y k hy, Bool.and_false]
  cases p with
  | p24l => exact BitVec.getLsbD_of_ge _ _ hk
  | p16 => exact hwide _ hk
  | p12r => exact hwide _ hk
  | pu8 => exact hwide _ hk

/-- Two positions of a word lie a sample apart. -/
theorem positions_apart (p : Packing) : ∀ i ∈ positions p, ∀ j ∈ positions p, i < j → i + sampleBytes p ≤ j := by
  cases p <;> decide

/-- In its place in the word a sample reaches the lanes of its own position alone. -/
theorem getLsbD_placed {p : Packing} (x : Half) {i j k : Nat} (hi : i ∈ positions p) (hj : j ∈ positions p)
    (hk : k < 8 * sampleBytes p) :
    (returnedSample p x <<< (8 * j)).getLsbD (8 * i + k) = (decide (j = i) && (returnedSample p x).getLsbD k) := by
  have hend := (sampleBytes_dvd_positions p i hi).2
  rw [BitVec.getLsbD_shiftLeft]
  rcases Nat.lt_trichotomy i j with h | rfl | h
  · have hle := positions_apart p i hi j hj h
    have hbelow : 8 * i + k < 8 * j := by omega
    have hne : j ≠ i := by omega
    simp [hbelow, hne]
  · have hin : 8 * i + k < 32 := by omega
    simp [hin]
  · have hle := positions_apart p j hj i hi h
    have hne : j ≠ i := by omega
    rw [returnedSample_high p x (by omega)]
    simp [hne]

/-! ### A verify read whose words have been read -/

/-- The verify read at window offset `off` with its memory words read. -/
def readJob (se : Session) (off : Nat) (m : Cells) : VerifyJob :=
  { verifyJob se off with todo := [], got := (verifyJob se off).todo.map (fun a => (a, readWord m a)) }

theorem find?_read {ws : List Nat} {m : Cells} {w : Nat} (hw : w ∈ ws) :
    (ws.map (fun a => (a, readWord m a))).find? (fun g => g.1 == w) = some (w, readWord m w) := by
  induction ws with
  | nil => exact absurd hw List.not_mem_nil
  | cons v vs ih =>
    rw [List.map_cons, List.find?_cons]
    by_cases h : v = w
    · simp [h]
    · rw [beq_false_of_ne h]
      exact ih ((List.mem_cons.mp hw).resolve_left (Ne.symm h))

theorem verifyPosition_of_got {j : VerifyJob} {i a : Nat} {w : Word}
    (h : j.got.find? (fun g => g.1 == wordOf (storedAddr j.packing j.channels j.base (j.offset + i))) = some (a, w)) :
    verifyPosition j i =
      returnedSample j.packing (w.extractLsb' (8 * (storedAddr j.packing j.channels j.base (j.offset + i) % 4)) 16) <<< (8 * i) := by
  simp only [verifyPosition, h]

section
variable {se : Session} {off : Nat} {m : Cells}

theorem mem_coveredPositions {i : Nat} : i ∈ coveredPositions (readJob se off m) ↔
    i ∈ positions se.packing ∧ frameOf se.packing se.channels (off + i) < se.capacity := by
  rw [coveredPositions, List.mem_filter, decide_eq_true_iff]
  rfl

/-- Each position that lies below the capacity returns its sample in its place. -/
theorem verifyPosition_read (hbase : se.base % 4 = 0) {i : Nat} (hi : i ∈ coveredPositions (readJob se off m)) :
    verifyPosition (readJob se off m) i =
      returnedSample se.packing (readHalf m (storedAddr se.packing se.channels se.base (off + i))) <<< (8 * i) := by
  have hmem : wordOf (storedAddr se.packing se.channels se.base (off + i)) ∈ (verifyJob se off).todo :=
    List.mem_eraseDups.mpr (List.mem_map_of_mem hi)
  have heven : storedAddr se.packing se.channels se.base (off + i) % 2 = 0 := by
    rw [storedAddr_eq]
    omega
  rw [← extract_readWord m heven]
  exact verifyPosition_of_got (j := readJob se off m) (find?_read hmem)

end

theorem getLsbD_foldl_or {f : Nat → Word} (xs : List Nat) (w : Word) (k : Nat) :
    (xs.foldl (fun w i => w ||| f i) w).getLsbD k = (w.getLsbD k || xs.any (fun i => (f i).getLsbD k)) := by
  induction xs generalizing w with
  | nil => simp
  | cons x xs ih => rw [List.foldl_cons, ih, BitVec.getLsbD_or, List.any_cons, Bool.or_assoc]

/-- Bit by bit, a position of the word returned is the sample's where the position is covered. -/
theorem getLsbD_verifyWord {se : Session} {off : Nat} {m : Cells} (hbase : se.base % 4 = 0) {i k : Nat}
    (hi : i ∈ positions se.packing) (hk : k < 8 * sampleBytes se.packing) :
    (verifyWord (readJob se off m)).getLsbD (8 * i + k) =
      (decide (frameOf se.packing se.channels (off + i) < se.capacity) &&
        (returnedSample se.packing (readHalf m (storedAddr se.packing se.channels se.base (off + i)))).getLsbD k) := by
  have hpos : ∀ j ∈ coveredPositions (readJob se off m), (verifyPosition (readJob se off m) j).getLsbD (8 * i + k) =
      (decide (j = i) &&
        (returnedSample se.packing (readHalf m (storedAddr se.packing se.channels se.base (off + j)))).getLsbD k) := fun j hj => by
    rw [verifyPosition_read hbase hj, getLsbD_placed _ hi (mem_coveredPositions.mp hj).1 hk]
  have hzero : (0 : Word).getLsbD (8 * i + k) = false := BitVec.getLsbD_zero
  rw [verifyWord, getLsbD_foldl_or, hzero, Bool.false_or, Bool.eq_iff_iff, List.any_eq_true, Bool.and_eq_true, decide_eq_true_iff]
  constructor
  · rintro ⟨j, hj, hbit⟩
    rw [hpos j hj, Bool.and_eq_true, decide_eq_true_iff] at hbit
    obtain ⟨rfl, hbit⟩ := hbit
    exact ⟨(mem_coveredPositions.mp hj).2, hbit⟩
  · rintro ⟨hcap, hbit⟩
    have hc := mem_coveredPositions (m := m).mpr ⟨hi, hcap⟩
    exact ⟨i, hc, by rw [hpos i hc, hbit]; simp⟩

/-! ### A sample stored and read back (R47 to R49) -/

theorem p16_readBack (w : Word) (i : Nat) :
    (returnedSample .p16 (storedSample .p16 w i)).extractLsb' 0 16 = w.extractLsb' (8 * i) 16 := by
  rw [returnedSample, BitVec.extractLsb'_setWidth_of_le (by decide), BitVec.extractLsb'_eq_self]
  rfl

theorem p12r_readBack (w : Word) (i : Nat) :
    (returnedSample .p12r (storedSample .p12r w i)).extractLsb' 0 16 = (w.extractLsb' (8 * i) 12).signExtend 16 := by
  have hlow := BitVec.le_toInt (w.extractLsb' (8 * i) 12)
  have hhigh := BitVec.toInt_lt (x := w.extractLsb' (8 * i) 12)
  have hstored : (storedSample .p12r w i).toInt = (w.extractLsb' (8 * i) 12).toInt * 16 :=
    BitVec.toInt_ofInt_eq_self (by decide) (by omega) (by omega)
  rw [returnedSample, BitVec.extractLsb'_setWidth_of_le (by decide), BitVec.extractLsb'_eq_self, hstored,
    Int.mul_ediv_cancel _ (by decide)]
  rfl

theorem pu8_readBack (w : Word) (i : Nat) :
    (returnedSample .pu8 (storedSample .pu8 w i)).extractLsb' 0 8 = w.extractLsb' (8 * i) 8 := by
  have hlt := (laneOf w i).isLt
  have hstored : (storedSample .pu8 w i).toInt = ((laneOf w i).toNat - 128 : Int) * 256 :=
    BitVec.toInt_ofInt_eq_self (by decide) (by omega) (by omega)
  rw [returnedSample, BitVec.extractLsb'_setWidth_of_le (by decide), BitVec.extractLsb'_eq_self, hstored,
    Int.mul_ediv_cancel _ (by decide), Int.sub_add_cancel, BitVec.ofInt_natCast, BitVec.ofNat_toNat, BitVec.setWidth_eq]
  rfl

theorem p24l_readBack (x : Half) :
    (returnedSample .p24l x).extractLsb' 16 16 = x ∧ (returnedSample .p24l x).extractLsb' 0 16 = 0 := by
  rw [returnedSample_p24l]
  exact ⟨BitVec.extractLsb'_append_eq_left, BitVec.extractLsb'_append_eq_right⟩

/-- Rounded, a 24-bit sample fits 16 bits. -/
theorem p24l_stored (w : Word) :
    (storedSample .p24l w 0).toInt = min 32767 (((w.extractLsb' 8 24).toInt + 128) / 256) := by
  have hlow := BitVec.le_toInt (w.extractLsb' 8 24)
  have hhigh := BitVec.toInt_lt (x := w.extractLsb' 8 24)
  exact BitVec.toInt_ofInt_eq_self (by decide) (by rw [roundP24]; omega) (by rw [roundP24]; omega)

/-- Settles O21: the word bit by bit, and each conversion with its reverse. -/
theorem verifyReadReturnsStoredSamples : Obligations.VerifyReadReturnsStoredSamples := by
  refine ⟨fun se off m _ hbase _ => ?_, fun w i => ⟨fun _ => p16_readBack w i, fun _ => p12r_readBack w i, fun _ => pu8_readBack w i,
    (p24l_readBack _).1, (p24l_readBack _).2, p24l_stored w⟩⟩
  intro j w i hi
  have hw : w = verifyWord (readJob se off m) := rfl
  refine BitVec.eq_of_getLsbD_eq fun k hk => ?_
  rw [hw, BitVec.getLsbD_extractLsb', getLsbD_verifyWord hbase hi hk]
  by_cases hcap : frameOf se.packing se.channels (off + i) < se.capacity
  · rw [if_pos hcap, BitVec.getLsbD_extractLsb', Nat.zero_add, decide_eq_true hcap, Bool.true_and]
  · rw [if_neg hcap, decide_eq_false hcap, Bool.false_and, Bool.and_false]
    exact BitVec.getLsbD_zero.symm

end Sys2Proof.Machine
end

section
/-!
PROOF. PANIC by its filter timer (O56).
-/

namespace Sys2Proof.Machine

section
variable {n : Fin 10} {s : State}

/-- A filter timer that is the next to run out on a line that counts runs out (R102). -/
theorem exec_filterTimerExpiry (hrst : s.rst = false) (hcounts : filterCounts (lineOf s n) = true)
    (hsoon : Soonest (lineOf s n).timer s) :
    exec (.filterTimerExpiry n) s = .next (arbitrate (filterExpiry n (elapse (lineOf s n).timer s))) := by
  have hleft : filterLeft s n = some (lineOf s n).timer := if_pos (by simp [hcounts, hrst])
  change execFilterTimerExpiry n s = _
  rw [execFilterTimerExpiry, hleft]
  exact afterTime_next (filterExpiry n) hsoon

theorem lineOf_elapse_filter (d k : Nat) : (lineOf (elapse d s) k).filter = (lineOf s k).filter := by
  rw [lineOf_elapse]
  rfl

/-- An expiry of the filter timer that counts toward a press takes the press (R102). -/
theorem exec_pressComing (h : PressComing n s) : exec (.filterTimerExpiry n) s = .next (arbitrate (takePress n (atPress n s))) := by
  obtain ⟨hf, hrst, hsoon⟩ := h
  rw [exec_filterTimerExpiry hrst (by simp [filterCounts, hf]) hsoon, filterExpiry, lineOf_elapse_filter, hf]
  rfl

/-- One that counts toward a release takes the release (R102). -/
theorem exec_releaseComing (h : ReleaseComing n s) :
    exec (.filterTimerExpiry n) s = .next (arbitrate (takeRelease n (atRelease n s))) := by
  obtain ⟨hf, hrst, hsoon⟩ := h
  rw [exec_filterTimerExpiry hrst (by simp [filterCounts, hf]) hsoon, filterExpiry, lineOf_elapse_filter, hf]
  rfl

end

/-- Settles O56: the expiry takes the press or the release, and line 8 is PANIC's. -/
theorem panicStopsTimersAndReleasesVoices : Obligations.PanicStopsTimersAndReleasesVoices := by
  refine fun s => ⟨fun h => ⟨_, exec_pressComing h, panicTaken_panicPress ?_⟩, fun h => ⟨_, exec_releaseComing h, panicReleased_served ?_⟩⟩
  · simp [atPress, lineOf_setFilter]
  · simp [atRelease, lineOf_setFilter]

end Sys2Proof.Machine
end

section
/-!
PROOF. The entry and the head slot of a clip that is discarded, pinned or unpinned (O45).
-/

namespace Sys2Proof.Machine

/-! ### What the three commands change -/

/-- `t` is `s` but for the clip entries, their mirror flags and the head slots. -/
def DirectoryOnly (s t : State) : Prop :=
  t = { s with clips := t.clips, mirrorFlags := t.mirrorFlags, mirrorAgain := t.mirrorAgain, slots := t.slots }

theorem DirectoryOnly.trans {s t u : State} (h1 : DirectoryOnly s t) (h2 : DirectoryOnly t u) : DirectoryOnly s u := by
  unfold DirectoryOnly at *
  rw [h2, h1]

theorem setClip_directoryOnly (c : Nat) (e : ClipEntry) (s : State) : DirectoryOnly s (setClip c e s) := rfl

theorem DirectoryOnly.port_eq {s t : State} (h : DirectoryOnly s t) : t.port = s.port := by rw [h]

theorem DirectoryOnly.results_eq {s t : State} (h : DirectoryOnly s t) : t.results = s.results := by rw [h]

/-- Every part but the directory's own and the Head Store's is then the same. -/
theorem DirectoryOnly.same {p : Part} {s t : State} (h : DirectoryOnly s t) (hp : p ∉ [Part.clips, .mirror, .slots]) : Same p s t := by
  by_cases hsession : p = .session
  · rw [hsession, h]
    rfl
  · exact same_of_loadBlock (ps := [.session, .clips, .mirror, .slots]) (by rw [h]) (by simp) (by simp) (by simp) (.inl (by simp))
      (.inr (by rw [h]; exact ⟨rfl, rfl, rfl⟩)) p (by simp_all)

section
variable {s u : State} {m : PortMerge} {byte : Nat}

/-- What a take leaves whose body changes the directory and the Head Store alone. -/
theorem directory_take (h : Takes s m byte) (code : ResultCode) (hu : DirectoryOnly (bodyStart m s) u) :
    Answered m code s (arbitrate (handResult m.slot code u)) ∧
      unchangedBut (takeParts ++ [.clips, .mirror, .slots]) s (arbitrate (handResult m.slot code u)) :=
  ⟨answered_arbitrate h code hu.results_eq,
    unchangedBut_take code hu.port_eq fun _ hp => hu.same fun hm => hp (List.mem_append_right _ hm)⟩

end

/-! ### UNPIN (R71, R72) -/

theorem unpinSlot_eq (k : Nat) (s : State) : unpinSlot k s =
    if freedAtOnce (slotOf s k) = true then freeSlot k s
    else if (slotOf s k).state = .ready then setSlot k { slotOf s k with state := .draining } s else s := by
  unfold unpinSlot freedAtOnce
  cases h : (slotOf s k).state <;> simp [h]

theorem unpinSlot_directoryOnly (k : Nat) (s : State) : DirectoryOnly s (unpinSlot k s) := by
  rw [unpinSlot_eq]
  split
  · exact rfl
  · split <;> exact rfl

theorem slotOf_unpinSlot {k : Nat} (hk : k < 8) (s : State) (j : Nat) :
    slotOf (unpinSlot k s) j = if k = j then unpinned (slotOf s j) else slotOf s j := by
  rw [unpinSlot_eq, unpinned]
  by_cases hj : k = j
  · subst hj
    split
    · simp_all [freeSlot, slotOf_setSlot]
    · split <;> simp_all [slotOf_setSlot]
  · split
    · simp [freeSlot, slotOf_setSlot, hj]
    · split <;> simp [slotOf_setSlot, hj]

theorem clipOf_unpinSlot (k : Nat) (s : State) (d : Nat) :
    clipOf (unpinSlot k s) d =
      if freedAtOnce (slotOf s k) = true ∧ (slotOf s k).clip = d ∧ d < 128 then { clipOf s d with headSlot := none }
      else clipOf s d := by
  have hset : ∀ h c, clipOf (setSlot k h s) c = clipOf s c := fun _ _ => rfl
  rw [unpinSlot_eq]
  by_cases hfreed : freedAtOnce (slotOf s k) = true
  · simp only [hfreed, if_true, true_and, freeSlot, clipOf_setClip, hset]
    split
    · rename_i hd
      rw [hd.1]
    · rfl
  · simp only [hfreed, Bool.false_eq_true, false_and, if_false]
    split <;> rfl

/-- The head slot that an UNPIN leaves an entry: its own, if that is not freed at once (R71). -/
def keptSlot (c : Nat) (s : State) : Option Nat := (clipOf s c).headSlot.filter (fun k => !freedAtOnce (slotOf s k))

/-- An entry that has a head slot written as the one it has. -/
theorem eq_with_headSlot {e : ClipEntry} {o : Option Nat} (h : e.headSlot = o) : e = { e with headSlot := o } := by
  subst h
  rfl

section
variable {c k : Nat} {s : State}

/-- The UNPIN of a clip's own slot. -/
theorem unpinSlot_own (hc : c < 128) (hown : OwnSlot c s) (hk : (clipOf s c).headSlot = some k) :
    UnpinnedFrom c s (unpinSlot k s) ∧ clipOf (unpinSlot k s) c = { clipOf s c with headSlot := keptSlot c s } := by
  obtain ⟨hlt, hclip⟩ := hown k hk
  refine ⟨⟨fun j => ?_, fun d hd => ?_⟩, ?_⟩
  · simp [slotOf_unpinSlot hlt, hk]
  · rw [clipOf_unpinSlot, if_neg (by simp [hclip, Ne.symm hd])]
  · rw [clipOf_unpinSlot, keptSlot, hk, hclip, Option.filter_some]
    by_cases hfreed : freedAtOnce (slotOf s k) = true
    · simp [hfreed, hc]
    · simpa [hfreed] using eq_with_headSlot hk

theorem unpinClip_directoryOnly (c : Nat) (s : State) : DirectoryOnly s (unpinClip c s) := by
  unfold unpinClip
  split
  · exact unpinSlot_directoryOnly _ s
  · exact rfl

/-- The implied UNPIN of a clip (R72). -/
theorem unpinClip_own (hc : c < 128) (hown : OwnSlot c s) :
    UnpinnedFrom c s (unpinClip c s) ∧ clipOf (unpinClip c s) c = { clipOf s c with headSlot := keptSlot c s } := by
  unfold unpinClip
  split
  · exact unpinSlot_own hc hown ‹_›
  · rename_i hnone
    refine ⟨⟨fun k => by simp [hnone], fun _ _ => rfl⟩, ?_⟩
    simpa [keptSlot, hnone] using eq_with_headSlot hnone

/-! ### The three bodies -/

theorem clipDiscardBody_idle (h : (clipOf s c).state = .empty ∨ (clipOf s c).state = .retiring) :
    clipDiscardBody c s = (s, .done) := by
  rcases h with h | h <;> simp [clipDiscardBody, h]

theorem clipDiscardBody_loading (h : (clipOf s c).state = .loading) : clipDiscardBody c s = (s, .loadBusy) := by
  simp [clipDiscardBody, h]

/-- The clip as a CLIP_DISCARD leaves it that takes effect (R65). -/
def discarded (c : Nat) (s : State) : State :=
  setClip c (if (clipOf s c).uses = 0 then ClipEntry.blank else { clipOf (unpinClip c s) c with state := .retiring }) (unpinClip c s)

theorem clipDiscardBody_discarded (h : (clipOf s c).state = .ready ∨ (clipOf s c).state = .faulty) :
    clipDiscardBody c s = (discarded c s, .done) := by
  unfold clipDiscardBody discarded
  rcases h with h | h <;> simp only [h] <;> split <;> rfl

theorem pinBody_notReady (h : (clipOf s c).state ≠ .ready) : pinBody c s = (s, .clipNotReady) := if_pos h

theorem pinBody_pinned (h : (clipOf s c).state = .ready) (hslot : (clipOf s c).headSlot ≠ none) :
    pinBody c s = (s, .alreadyPinned) :=
  (if_neg (not_not_intro h)).trans (if_pos (Option.isSome_iff_ne_none.mpr hslot))

/-- The clip as a PIN to slot `k` leaves it (R68). -/
def pinned (c k : Nat) (s : State) : State :=
  setClip c { clipOf s c with headSlot := some k }
    (setSlot k ⟨.filling, c, min Config.headFrames (clipOf s c).length, 0, 0, []⟩ s)

theorem pinBody_unpinned (h : (clipOf s c).state = .ready) (hslot : (clipOf s c).headSlot = none) : pinBody c s =
    match (indices 8 (fun k => (slotOf s k).state == .free)).head? with
    | none => (s, .headFull)
    | some k => (pinned c k s, .done) := by
  rw [pinBody, if_neg (not_not_intro h), if_neg (by simp [hslot])]
  rfl

theorem pinBody_full (h : (clipOf s c).state = .ready) (hslot : (clipOf s c).headSlot = none)
    (hfull : ∀ k, k < 8 → (slotOf s k).state ≠ .free) : pinBody c s = (s, .headFull) := by
  have hnone : (indices 8 (fun k => (slotOf s k).state == .free)).head? = none := by
    simpa [indices] using hfull
  rw [pinBody_unpinned h hslot, hnone]

theorem pinBody_pins (h : (clipOf s c).state = .ready) (hslot : (clipOf s c).headSlot = none) (hk : k < 8)
    (hfree : (slotOf s k).state = .free) (hlow : ∀ j, j < k → (slotOf s j).state ≠ .free) :
    pinBody c s = (pinned c k s, .done) := by
  have hfirst : (indices 8 (fun k => (slotOf s k).state == .free)).head? = some k := by
    rw [indices, List.head?_filter, List.find?_range_eq_some]
    exact ⟨by simp [hfree], List.mem_range.mpr hk, fun j hj => by simp [hlow j hj]⟩
  rw [pinBody_unpinned h hslot, hfirst]

theorem unpinBody_pinned (h : (clipOf s c).state = .ready ∨ (clipOf s c).state = .retiring) (hk : (clipOf s c).headSlot = some k) :
    unpinBody c s = (unpinSlot k s, .done) := by
  simp only [unpinBody, if_pos h, hk]

theorem unpinBody_notPinned
    (h : ((clipOf s c).state ≠ .ready ∧ (clipOf s c).state ≠ .retiring) ∨ (clipOf s c).headSlot = none) :
    unpinBody c s = (s, .notPinned) := by
  rw [unpinBody]
  rcases h with h | h
  · exact if_neg (by simp [h])
  · simp [h]

end

/-! ### The three takes -/

section
variable {s : State} {m : PortMerge} {c : Nat}

/-- A discard that takes effect (R65). -/
theorem discard_take (hc : c < 128) (hown : OwnSlot c s) :
    let t := arbitrate (handResult m.slot .done (discarded c (bodyStart m s)))
    UnpinnedFrom c s t ∧ clipOf t c =
      (if (clipOf s c).uses = 0 then ClipEntry.blank else { clipOf s c with state := .retiring, headSlot := keptSlot c s }) := by
  obtain ⟨⟨hslots, hclips⟩, hclip⟩ := unpinClip_own (s := bodyStart m s) hc hown
  intro t
  have hentry : ∀ d, clipOf t d = clipOf (discarded c (bodyStart m s)) d := fun d => by simp [t]
  refine ⟨⟨fun k => ?_, fun d hd => ?_⟩, ?_⟩
  · rw [slotOf_arbitrate, slotOf_handResult, discarded, slotOf_setClip]
    exact hslots k
  · rw [hentry, discarded, clipOf_setClip, if_neg fun he => hd he.1.symm]
    exact hclips d hd
  · rw [hentry, discarded, clipOf_setClip, if_pos ⟨rfl, hc⟩, hclip]
    rfl

theorem pin_take (hc : c < 128) {k : Nat} (hk : k < 8) :
    let t := arbitrate (handResult m.slot .done (pinned c k (bodyStart m s)))
    slotOf t k = ⟨.filling, c, min 256 (clipOf s c).length, 0, 0, []⟩ ∧ (∀ j, j ≠ k → slotOf t j = slotOf s j) ∧
      clipOf t c = { clipOf s c with headSlot := some k } ∧ ∀ d, d ≠ c → clipOf t d = clipOf s d := by
  intro t
  have hslot : ∀ j, slotOf t j = slotOf (pinned c k (bodyStart m s)) j := fun j => by simp [t]
  have hentry : ∀ d, clipOf t d = clipOf (pinned c k (bodyStart m s)) d := fun d => by simp [t]
  refine ⟨?_, fun j hj => ?_, ?_, fun d hd => ?_⟩
  · rw [hslot, pinned, slotOf_setClip, slotOf_setSlot, if_pos ⟨rfl, hk⟩]
    rfl
  · rw [hslot, pinned, slotOf_setClip, slotOf_setSlot, if_neg fun he => hj he.1.symm, slotOf_bodyStart]
  · rw [hentry, pinned, clipOf_setClip, if_pos ⟨rfl, hc⟩, clipOf_bodyStart]
  · rw [hentry, pinned, clipOf_setClip, if_neg fun he => hd he.1.symm]
    rfl

theorem unpin_take (hc : c < 128) (hown : OwnSlot c s) {k : Nat} (hk : (clipOf s c).headSlot = some k) :
    let t := arbitrate (handResult m.slot .done (unpinSlot k (bodyStart m s)))
    UnpinnedFrom c s t ∧ clipOf t c = { clipOf s c with headSlot := keptSlot c s } := by
  obtain ⟨⟨hslots, hclips⟩, hclip⟩ := unpinSlot_own (s := bodyStart m s) hc hown hk
  refine ⟨⟨fun j => ?_, fun d hd => ?_⟩, ?_⟩
  · rw [slotOf_arbitrate, slotOf_handResult]
    exact hslots j
  · rw [clipOf_arbitrate, clipOf_handResult]
    exact hclips d hd
  · rw [clipOf_arbitrate, clipOf_handResult]
    exact hclip

end

/-- Settles O45: each body's answers by the state of the entry. -/
theorem discardPinAndUnpinFollowTheEntry : Obligations.DiscardPinAndUnpinFollowTheEntry := by
  intro s m byte hs h c e kept hle hown
  have hc : c < 128 := Nat.lt_succ_of_le hle
  have hbound : ¬ 127 < c := Nat.not_lt.mpr hle
  refine ⟨?_, ?_, ?_⟩
  · rintro rfl
    have hbody : bodyOf 0x23 (argsOf s m) (bodyStart m s) = clipDiscardBody c (bodyStart m s) := if_neg hbound
    refine ⟨_, exec_of_body (i := .clipDiscard) hs h (by decide) (hbody.trans Prod.mk.eta.symm), fun hstate => ?_, fun hstate => ?_,
      fun hstate => ?_⟩
    · rw [clipDiscardBody_idle (s := bodyStart m s) hstate]
      exact refused_take h .done
    · rw [clipDiscardBody_loading (s := bodyStart m s) hstate]
      exact refused_take h .loadBusy
    · rw [clipDiscardBody_discarded (s := bodyStart m s) hstate]
      obtain ⟨hanswer, hframe⟩ := directory_take (u := discarded c (bodyStart m s)) h .done
        ((unpinClip_directoryOnly c _).trans (setClip_directoryOnly c _ _))
      obtain ⟨hunpinned, hclip⟩ := discard_take hc hown
      exact ⟨hanswer, hunpinned, hclip, hframe⟩
  · rintro rfl
    have hbody : bodyOf 0x28 (argsOf s m) (bodyStart m s) = pinBody c (bodyStart m s) := if_neg hbound
    refine ⟨_, exec_of_body (i := .pin) hs h (by decide) (hbody.trans Prod.mk.eta.symm), fun hstate => ?_, fun hstate hslot => ?_,
      fun hstate hslot hfull => ?_, fun k hstate hslot hk hfree hlow => ?_⟩
    · rw [pinBody_notReady (s := bodyStart m s) hstate]
      exact refused_take h .clipNotReady
    · rw [pinBody_pinned (s := bodyStart m s) hstate hslot]
      exact refused_take h .alreadyPinned
    · rw [pinBody_full (s := bodyStart m s) hstate hslot hfull]
      exact refused_take h .headFull
    · rw [pinBody_pins (s := bodyStart m s) hstate hslot hk hfree hlow]
      obtain ⟨hanswer, hframe⟩ := directory_take (u := pinned c k (bodyStart m s)) h .done rfl
      obtain ⟨hslot, hslots, hclip, hclips⟩ := pin_take hc hk
      exact ⟨hanswer, hslot, hslots, hclip, hclips, hframe⟩
  · rintro rfl
    have hbody : bodyOf 0x29 (argsOf s m) (bodyStart m s) = unpinBody c (bodyStart m s) := if_neg hbound
    refine ⟨_, exec_of_body (i := .unpin) hs h (by decide) (hbody.trans Prod.mk.eta.symm), fun hstate hslot => ?_, fun hnone => ?_⟩
    · obtain ⟨k, hk⟩ := Option.ne_none_iff_exists'.mp hslot
      rw [unpinBody_pinned (s := bodyStart m s) hstate hk]
      obtain ⟨hanswer, hframe⟩ := directory_take h .done (unpinSlot_directoryOnly k (bodyStart m s))
      obtain ⟨hunpinned, hclip⟩ := unpin_take hc hown hk
      exact ⟨hanswer, hunpinned, hclip, hframe⟩
    · rw [unpinBody_notPinned (s := bodyStart m s) hnone]
      exact refused_take h .notPinned

end Sys2Proof.Machine
end

section
/-!
PROOF. Bursts that land or are discarded (O50).
-/

namespace Sys2Proof.Machine

/-! ### The grant at a free port -/

/-- Behind the grant at a free port every voice is as the access granted leaves it. -/
theorem voiceOf_arbitrate_free {u : State} (h : u.port = none) (v : Nat) :
    voiceOf (arbitrate u) v = servedVoice (arbitrate u).port v (voiceOf u v) := by
  have hv := arbitrate_frame u .voices (by simp) v
  simpa [granted, h] using hv

/-- Raising an event of a kind that does not merge depends on the pending queue and its counts, the stamp, RST# and the sweep alone:
what is on the port does not matter. -/
theorem raises_of_alike {k : EventKind} (hk : k.merges = false) {a b : Nat} {value : Word} {p q u : State}
    (h : QueueAlike { p with port := q.port } q)
    (hu : u.queue = (raiseEvent k a b value q).queue ∧ u.lost = (raiseEvent k a b value q).lost ∧
      u.nextSeq = (raiseEvent k a b value q).nextSeq) : Raises k a b value p u := by
  obtain ⟨hrst, hsweep, -, hstamp, hqueue, hlost, hnext⟩ := h
  obtain ⟨huq, hul, hun⟩ := hu
  rw [Raises, huq, hul, hun]
  simp only [raiseEvent, hk, Bool.false_and, Bool.false_eq_true, if_false, loseEvent, appendEvent, hrst, hsweep, hstamp, hqueue, hlost,
    hnext]
  split_ifs <;> simp [hqueue, hlost, hnext]

/-! ### Frames of samples -/

/-- Frame `i` of a burst from `addr`, byte by byte (R16, R160). -/
def frameOfBurst (m : Cells) (addr channels i : Nat) : Frame :=
  ⟨readHalf m (addr + 2 * channels * i), readHalf m (addr + 2 * channels * i + (if channels = 2 then 2 else 0))⟩

theorem frameAt_eq (m : Cells) (addr channels i : Nat) : frameAt m addr channels i = frameOfBurst m addr channels i := by
  have ha : addr + i * channels * 2 = addr + 2 * channels * i := by ring
  unfold frameAt frameOfBurst
  rw [ha]
  split <;> rfl

/-! ### The end of an access of the part's own -/

/-- A step that ends the access on the port and changes only voices, head slots and the pending queue besides. -/
theorem same_of_landing {ps : List Part} {s t : State}
    (h : t = { s with
      port := none, voices := t.voices, slots := t.slots, queue := t.queue, lost := t.lost, nextSeq := t.nextSeq })
    (hport : .port ∈ ps) (hv : .voices ∈ ps ∨ t.voices = s.voices) (hslots : .slots ∈ ps ∨ t.slots = s.slots)
    (hq : .queue ∈ ps ∨ t.queue = s.queue ∧ t.lost = s.lost ∧ t.nextSeq = s.nextSeq) : ∀ p, p ∉ ps → Same p s t := by
  intro p hp
  cases p
  case port => exact absurd hport hp
  case voices => exact fun v => congrArg (bankGet · v Voice.blank) (hv.resolve_left hp)
  case slots => exact hslots.resolve_left hp
  case queue => exact hq.resolve_left hp
  case stale =>
    intro b _ hb
    rw [h] at hb
    cases hb
  all_goals
    rw [h]
    simp [Same, Kept, writeBacksLeft, marksLeft, againLeft, CopyLeft]

/-- An access that ends and does no more. -/
theorem discarded_landing (s : State) : unchangedBut [.port] s (arbitrate (portFree s)) :=
  unchangedBut_arbitrated (same_of_landing rfl (by simp) (.inr rfl) (.inr rfl) (.inr ⟨rfl, rfl, rfl⟩)) (by simp)

/-! ### FETCH_BURST_LAND (R132, R149) -/

section
variable {s : State} {b : Burst}

theorem exec_fetchBurstLand (h : s.port = some (.burst b)) : exec .fetchBurstLand s = .next (arbitrate (landBurst b (portFree s))) := by
  change execFetchBurstLand s = _
  rw [execFetchBurstLand, h]

theorem burstAccepted_iff : burstAccepted b s = true ↔
    b.stale = false ∧ (voiceOf s b.voice).state ≠ .idle ∧ (voiceOf s b.voice).epoch = b.epoch := by
  simp [burstAccepted, and_assoc]

/-- The record of a voice that takes in a burst, before it may leave PRIMING (R149). -/
def tookBurst (m : Cells) (b : Burst) (x : Voice) : Voice :=
  { x with
    fifo := x.fifo ++ (List.range b.frames).map (fun i => ⟨frameOfBurst m b.addr b.channels i, b.start + i, b.epoch⟩)
    inFlight := 0 }

theorem landBurst_accepted (h : burstAccepted b s = true) :
    landBurst b s = setVoice b.voice (leavePriming (tookBurst s.mem b (voiceOf s b.voice))) s := by
  have hentries : burstEntries s.mem b =
      (List.range b.frames).map (fun i => ⟨frameOfBurst s.mem b.addr b.channels i, b.start + i, b.epoch⟩) := by
    simp only [burstEntries, frameAt_eq]
  rw [landBurst, if_pos h, hentries]
  rfl

theorem landBurst_discarded (h : ¬ burstAccepted b s = true) : landBurst b s = s := if_neg h

theorem primed_tookBurst (m : Cells) (b : Burst) (x : Voice) : primed (tookBurst m b x) = true ↔
    8 ≤ fill x + b.frames ∨ x.loop = false ∧ x.effEnd ≤ x.due + (fill x + b.frames) := by
  simp [primed, tookBurst, fill, Config.burstFrames]

/-- The record of a voice that leaves PRIMING with this burst, by R132's conditions. -/
def leftPriming (m : Cells) (b : Burst) (x : Voice) : Voice :=
  { tookBurst m b x with state := if 0 < x.fi then .rising else .steady, n := 0, boardFlag := true }

/-- The voice leaves PRIMING with this burst: its FIFO holds enough (R132). -/
def PrimedBy (b : Burst) (x : Voice) : Prop :=
  x.state = .priming ∧ (8 ≤ fill x + b.frames ∨ x.loop = false ∧ x.effEnd ≤ x.due + (fill x + b.frames))

theorem leavePriming_of_primed {m : Cells} {x : Voice} (h : PrimedBy b x) : leavePriming (tookBurst m b x) = leftPriming m b x :=
  if_pos ⟨h.1, (primed_tookBurst m b x).mpr h.2⟩

theorem leavePriming_of_not_primed {m : Cells} {x : Voice} (h : ¬ PrimedBy b x) : leavePriming (tookBurst m b x) = tookBurst m b x :=
  if_neg fun hp => h ⟨hp.1, (primed_tookBurst m b x).mp hp.2⟩

/-- Behind a burst taken in, the voice and every other one, but for the grant. -/
theorem landBurst_voices (hport : s.port = none) (hv : b.voice < 24) (h : burstAccepted b s = true) (w : Nat) :
    voiceOf (arbitrate (landBurst b s)) w = servedVoice (arbitrate (landBurst b s)).port w
      (if w = b.voice then leavePriming (tookBurst s.mem b (voiceOf s b.voice)) else voiceOf s w) := by
  rw [voiceOf_arbitrate_free (by rw [landBurst_accepted h]; exact hport)]
  congr 1
  rw [landBurst_accepted h, voiceOf_setVoice]
  by_cases hw : w = b.voice
  · rw [if_pos ⟨hw.symm, hw ▸ hv⟩, if_pos hw]
  · rw [if_neg fun he => hw he.1.symm, if_neg hw]

end

/-! ### HEAD_FILL_BURST_LAND (R69) -/

section
variable {s : State} {b : FillBurst}

theorem exec_headFillBurstLand (h : s.port = some (.fill b)) :
    exec .headFillBurstLand s = .next (arbitrate (landFill b (portFree s))) := by
  change execHeadFillBurstLand s = _
  rw [execHeadFillBurstLand, h]

/-- The slot behind a burst that it takes in (R69). -/
def tookFill (m : Cells) (b : FillBurst) (h : HeadSlot) : HeadSlot :=
  { h with
    state := if h.headLength ≤ h.fillPos + b.frames then .ready else .filling
    fillPos := h.fillPos + b.frames
    frames := h.frames ++ (List.range b.frames).map (frameOfBurst m b.addr b.channels) }

theorem landFill_discarded (h : b.stale = true ∨ (slotOf s b.slot).state ≠ .filling) : landFill b s = s := by
  rw [landFill]
  exact if_neg (by rcases h with h | h <;> simp [h])

/-- A burst that lands in its FILLING slot below the head length. -/
theorem landFill_partial (hstale : b.stale = false) (h : (slotOf s b.slot).state = .filling)
    (hfull : ¬ (slotOf s b.slot).headLength ≤ (slotOf s b.slot).fillPos + b.frames) :
    landFill b s = setSlot b.slot (tookFill s.mem b (slotOf s b.slot)) s := by
  have hframes : framesAt s.mem b.addr b.channels b.frames = (List.range b.frames).map (frameOfBurst s.mem b.addr b.channels) :=
    List.map_congr_left fun i _ => frameAt_eq ..
  rw [landFill, if_pos ⟨hstale, h⟩, hframes, tookFill, if_neg hfull, if_neg hfull, h]

/-- One that reaches the head length raises PIN_DONE. -/
theorem landFill_full (hstale : b.stale = false) (h : (slotOf s b.slot).state = .filling)
    (hfull : (slotOf s b.slot).headLength ≤ (slotOf s b.slot).fillPos + b.frames) : landFill b s =
    raiseEvent .pinDone (slotOf s b.slot).clip b.slot (BitVec.ofNat 32 (slotOf s b.slot).headLength)
      (setSlot b.slot (tookFill s.mem b (slotOf s b.slot)) s) := by
  have hframes : framesAt s.mem b.addr b.channels b.frames = (List.range b.frames).map (frameOfBurst s.mem b.addr b.channels) :=
    List.map_congr_left fun i _ => frameAt_eq ..
  rw [landFill, if_pos ⟨hstale, h⟩, hframes, tookFill, if_pos hfull, if_pos hfull]

theorem slotOf_landFill (hstale : b.stale = false) (h : (slotOf s b.slot).state = .filling) (k : Nat) : slotOf (landFill b s) k =
    if b.slot = k ∧ k < 8 then tookFill s.mem b (slotOf s b.slot) else slotOf s k := by
  rw [← slotOf_setSlot]
  by_cases hfull : (slotOf s b.slot).headLength ≤ (slotOf s b.slot).fillPos + b.frames
  · rw [landFill_full hstale h hfull, slotOf, raiseEvent_slots]
    rfl
  · rw [landFill_partial hstale h hfull]

theorem landFill_only (b : FillBurst) (s : State) : landFill b s = { s with
    slots := (landFill b s).slots, queue := (landFill b s).queue, lost := (landFill b s).lost, nextSeq := (landFill b s).nextSeq } := by
  simp only [landFill]
  split
  · split
    · rw [raiseEvent_only]
      rfl
    · rfl
  · rfl

end

/-- Settles O50: the access ends, and what was read enters the FIFO or the slot, or nothing follows. -/
theorem burstsLandOrAreDiscarded : Obligations.BurstsLandOrAreDiscarded := by
  unfold Obligations.BurstsLandOrAreDiscarded
  intro frame
  constructor
  · intro s b hport hv x held
    refine ⟨_, exec_fetchBurstLand hport, fun hstale hstate hepoch => ?_, fun hno => ?_⟩
    · have haccepted : burstAccepted b (portFree s) = true := burstAccepted_iff.mpr ⟨hstale, hstate, hepoch⟩
      have hvoices := landBurst_voices (s := portFree s) rfl hv haccepted
      refine ⟨fun hl => ?_, fun hl => ?_, fun w hw => ?_, ?_⟩
      · rw [hvoices, if_pos rfl, leavePriming_of_primed (x := voiceOf (portFree s) b.voice) hl]
        rfl
      · rw [hvoices, if_pos rfl, leavePriming_of_not_primed (x := voiceOf (portFree s) b.voice) hl]
        rfl
      · rw [hvoices, if_neg hw]
        rfl
      · rw [landBurst_accepted haccepted]
        exact unchangedBut_arbitrated (same_of_landing rfl (by simp) (.inl (by simp)) (.inr rfl) (.inr ⟨rfl, rfl, rfl⟩)) (by simp)
    · have hdiscarded : ¬ burstAccepted b (portFree s) = true := by
        rw [burstAccepted_iff]
        rintro ⟨hstale, hstate, hepoch⟩
        rcases hno with h | h | h
        · simp [h] at hstale
        · exact hstate h
        · exact h hepoch
      rw [landBurst_discarded hdiscarded]
      exact discarded_landing s
  · intro s b hport hslot h
    refine ⟨_, exec_headFillBurstLand hport, fun hstale hfilling => ?_, fun hno => ?_⟩
    · have hslots := slotOf_landFill (s := portFree s) hstale hfilling
      refine ⟨?_, fun hfull => ?_, fun hfull => ?_, fun k hk => ?_, ?_⟩
      · rw [slotOf_arbitrate, hslots, if_pos ⟨rfl, hslot⟩]
        simp only [decide_eq_true_eq]
        rfl
      · rw [landFill_full (s := portFree s) hstale hfilling (of_decide_eq_true hfull)]
        exact raises_of_alike (q := setSlot b.slot _ (portFree s)) rfl ⟨rfl, rfl, rfl, rfl, rfl, rfl, rfl⟩
          ⟨arbitrate_queue _, arbitrate_lost _, arbitrate_nextSeq _⟩
      · rw [landFill_partial (s := portFree s) hstale hfilling (of_decide_eq_false hfull)]
        exact ⟨arbitrate_queue _, arbitrate_lost _, arbitrate_nextSeq _⟩
      · rw [slotOf_arbitrate, hslots, if_neg fun he => hk he.1.symm]
        rfl
      · refine unchangedBut_arbitrated (same_of_landing ?_ (by simp) (.inr ?_) (.inl (by simp)) (.inl (by simp))) ?_
        · rw [landFill_only]
          rfl
        · rw [landFill_only]
          rfl
        · rw [landFill_only]
          simp
    · rw [landFill_discarded (s := portFree s) hno]
      exact discarded_landing s

end Sys2Proof.Machine
end

section
/-!
PROOF. RELEASE (O40); and what a taken command leaves whose body goes through the Voice Engine.
-/

namespace Sys2Proof.Machine

/-! ### A take through the Voice Engine -/

@[simp] theorem handResult_voiceOf (k : Nat) (code : ResultCode) (s : State) (v : Nat) : voiceOf (handResult k code s) v = voiceOf s v :=
  rfl

section
variable {s u : State} {m : PortMerge} {byte : Nat} (h : VoiceOnly (bodyStart m s) u) (code : ResultCode)
include h

/-- The port is free at the end of a take, so that every voice is as the grant leaves it. -/
theorem voiceOf_take (v : Nat) :
    voiceOf (arbitrate (handResult m.slot code u)) v =
      servedVoice (arbitrate (handResult m.slot code u)).port v (voiceOf u v) := by
  have hport : u.port = none := h.2.free_iff.mpr rfl
  have hv := arbitrate_frame (handResult m.slot code u) .voices (by simp) v
  simpa [granted, hport] using hv

theorem answered_voiceTake (ht : Takes s m byte) : Answered m code s (arbitrate (handResult m.slot code u)) :=
  answered_arbitrate ht code (by rw [h.1])

theorem unchangedBut_voiceTake {extra : List Part} (hv : ∀ p ∈ voiceParts, p ∈ extra)
    (hd : .waiting ∈ extra ∨ u.draws = (bodyStart m s).draws) :
    unchangedBut (takeParts ++ extra) s (arbitrate (handResult m.slot code u)) := by
  refine unchangedBut_take code (h.2.free_iff.mpr rfl) fun p hp => ?_
  have hextra : p ∉ extra := fun hm => hp (List.mem_append_right _ hm)
  by_cases hw : p = .waiting
  · rw [hw]
    exact ⟨by rw [h.1], hd.resolve_left (hw ▸ hextra)⟩
  · exact h.same p (by simpa [hw] using fun hm => hextra (hv p hm))

end

section
variable {s u : State} {m : PortMerge} (code : ResultCode)

/-- The events of the body stand behind the records pending at the take. -/
theorem appended_take {es : List RaisedEvent} {n : Nat} (h : AppendsIfRoom es (bodyStart m s) u) (hn : es.length ≤ n) :
    CanAppend n s → Appended es s (arbitrate (handResult m.slot code u)) := by
  intro hroom
  have hes : Appended es (bodyStart m s) u := h (canAppend_mono hn hroom)
  unfold Appended at hes ⊢
  rw [arbitrate_queue]
  exact hes

theorem usesCounted_take {ends : List VoiceEnd} {joined c : Nat} (h : UsesCounted ends joined c (bodyStart m s) u) :
    UsesCounted ends joined c s (arbitrate (handResult m.slot code u)) := by
  unfold UsesCounted at h ⊢
  rw [clipOf_arbitrate, clipOf_handResult]
  exact h

theorem readersCounted_take {left joined k : Nat} (h : ReadersCounted left joined k (bodyStart m s) u) :
    ReadersCounted left joined k s (arbitrate (handResult m.slot code u)) := by
  unfold ReadersCounted at h ⊢
  rw [slotOf_arbitrate, slotOf_handResult]
  exact h

end

/-- The trigger's own merge changes no clip, so that ends raise behind it what they would before it. -/
theorem endEvents_bodyStart (m : PortMerge) (s : State) (before ends : List VoiceEnd) :
    endEvents (bodyStart m s) before ends = endEvents s before ends := endEvents_congr (clipOf_bodyStart s m) before ends

/-! ### RELEASE (R138) -/

theorem inScope_iff {scope : Nat} (hscope : scope ≤ 3) (number v : Nat) (x : Voice) : inScope scope number v x = true ↔
    scope = 0 ∧ x.cue = number ∨ scope = 1 ∧ x.choke = number ∨ scope = 2 ∧ v = number ∨ scope = 3 := by
  have hcases : scope = 0 ∨ scope = 1 ∨ scope = 2 ∨ scope = 3 := by omega
  rcases hcases with rfl | rfl | rfl | rfl <;> simp [inScope]

/-- A voice as a RELEASE leaves it (R138). -/
def scopeReleased (a : CommandArgs) (v : Nat) (x : Voice) : Voice :=
  if a.b0 = 0 ∧ x.cue = a.b1 ∨ a.b0 = 1 ∧ x.choke = a.b1 ∨ a.b0 = 2 ∧ v = a.b1 ∨ a.b0 = 3 then
    releasedVoice (if a.b2 = 1 then none else if a.b2 = 2 then some (a.w2 % 65536) else some x.fo) .released .cut x
  else x

/-- The pass of a RELEASE over the voices. -/
theorem releaseScope_reached {a : CommandArgs} (hscope : a.b0 ≤ 3) (s : State) :
    let reached : Nat → Voice := fun v => scopeReleased a v (voiceOf s v)
    let t := releaseScope a.b0 a.b1 a.b2 (a.w2 % 65536) s
    (∀ v, v < 24 → voiceOf t v = reached v) ∧ EndsTaken (endsAmong s reached (if a.b2 = 1 then .cut else .released)) s t := by
  have hreason : ∀ x, releaseReason (releaseLength a.b2 (a.w2 % 65536) x) .released .cut = if a.b2 = 1 then .cut else .released := by
    intro x
    unfold releaseLength
    split_ifs <;> rfl
  refine eachVoice_reached
    (y := fun _ x => releasedVoice (releaseLength a.b2 (a.w2 % 65536) x) .released .cut x) (fun v t hv _ => ?_) (fun v => ?_)
  · have h := voiceReached_release hv (releaseLength a.b2 (a.w2 % 65536)) .released .cut t
    rwa [hreason] at h
  · simp only [scopeReleased, inScope_iff hscope, releaseLength]

/-- Settles O40: the pass over the voices in scope, its ends one after the other. -/
theorem releaseReachesVoicesInScope : Obligations.ReleaseReachesVoicesInScope := by
  intro s m hs h a hscope hmode hnumber hgroup reached ends
  have hgood : ¬ releaseBad a = true := by
    rw [releaseBad_iff]
    omega
  have hbody : bodyOf 0x02 (argsOf s m) (bodyStart m s) =
      (releaseScope a.b0 a.b1 a.b2 (a.w2 % 65536) (bodyStart m s), .done) := if_neg hgood
  obtain ⟨hrec, hends⟩ := releaseScope_reached (a := a) hscope (bodyStart m s)
  have honly := hends.only
  refine ⟨_, exec_of_body (i := .release) hs h (by decide) hbody, answered_voiceTake honly .done h, fun v hv => ?_, ?_,
    ⟨fun c _ => usesCounted_take .done (hends.uses c), fun k _ => readersCounted_take .done (hends.readers k)⟩,
    unchangedBut_voiceTake honly .done (fun _ hp => hp) (.inr hends.draws)⟩
  · rw [voiceOf_take honly, hrec v hv]
    rfl
  · have hevents := hends.events
    rw [endEvents_bodyStart] at hevents
    exact appended_take .done hevents (length_endEvents_le _ [] _)

end Sys2Proof.Machine
end

section
/-!
SUPPORT. Fires taken from the port: what retrigger and choke leave of the voices, with their ends (R125, R126); and what they and a steal
keep of a READY clip, from which the fire resolves its positions and its head start.
-/

namespace Sys2Proof.Machine

/-! ### What a fire reads behind the trigger's merge -/

section
variable {s : State} {m : PortMerge} {byte : Nat}

theorem readLe_bodyStart (hs : MemoryForm s) (h : Takes s m byte) {b n : Nat} (hb : b + n ≤ 0x5000) :
    readLe (bodyStart m s).shadow b n = readLe s.shadow b n :=
  readLe_congr fun i hi => readByte_bodyStart hs (.inl (Nat.lt_of_lt_of_le (by omega) (slotOffset_slot h).2))

theorem bitAt_bodyStart (hs : MemoryForm s) (h : Takes s m byte) {b : Nat} (hb : b < 0x5000) (i : Nat) :
    bitAt (bodyStart m s).shadow b i = bitAt s.shadow b i :=
  congrArg (fun x => x.getLsbD i) (readByte_bodyStart hs (.inl (Nat.lt_of_lt_of_le hb (slotOffset_slot h).2)))

/-- The Cue Deck is as it was. -/
theorem cueRecord_bodyStart (hs : MemoryForm s) (h : Takes s m byte) {cue : Nat} (hcue : cue < 256) :
    cueRecord (bodyStart m s).shadow cue = cueRecord s.shadow cue := by
  have hoff : cueOffset cue + 0x40 ≤ 0x5000 := by
    simp only [cueOffset, deckBase]
    omega
  have hbit : ∀ d i, d < 0x40 → bitAt (bodyStart m s).shadow (cueOffset cue + d) i = bitAt s.shadow (cueOffset cue + d) i :=
    fun d i hd => bitAt_bodyStart hs h (by omega) i
  have hbyte : ∀ d, d < 0x40 → byteAt (bodyStart m s).shadow (cueOffset cue + d) = byteAt s.shadow (cueOffset cue + d) :=
    fun d hd => byteAt_bodyStart hs h (by omega)
  have hfield : ∀ d n, d + n ≤ 0x40 → readLe (bodyStart m s).shadow (cueOffset cue + d) n = readLe s.shadow (cueOffset cue + d) n :=
    fun d n hd => readLe_bodyStart hs h (by omega)
  have hfirst : bitAt (bodyStart m s).shadow (cueOffset cue) 0 = bitAt s.shadow (cueOffset cue) 0 := hbit 0 0 (by decide)
  simp only [cueRecord, cueLevel, hfirst, hbit 0x18 _ (by decide), hbyte 1 (by decide), hbyte 0x19 (by decide), hbyte 0x1A (by decide),
    hbyte 0x1B (by decide), hbyte 0x1C (by decide), hbyte 0x1D (by decide), hbyte 0x1E (by decide), hfield 2 2 (by decide),
    hfield 0x04 2 (by decide), hfield 0x06 2 (by decide), hfield 0x08 4 (by decide), hfield 0x0C 4 (by decide),
    hfield 0x10 4 (by decide), hfield 0x14 4 (by decide)]

end

/-! ### Retrigger and choke (R125, R126) -/

/-- The part as retrigger and choke of a fire of `cue` leave it, with their ends taken: where the allocation looks (R124). -/
def cleared (cue : Nat) (s : State) : State :=
  chokeStep cue (cueRecord s.shadow cue) (retriggerStep cue (cueRecord s.shadow cue) s)

/-- A fire that passes goes on to the allocation (R124). -/
theorem processFire_passes {f : Fire} {s : State} (hc : fireChecks f (cueRecord s.shadow f.cue) s = none)
    (hi : ignoreBlocks s f.cue (cueRecord s.shadow f.cue) = false) :
    processFire f s =
      match allocate (cleared f.cue s) (cueRecord s.shadow f.cue).priority with
      | none => (cleared f.cue s, .noVoice)
      | some (v, steal) =>
        (setUp f (cueRecord s.shadow f.cue)
          (resolve (Config.noLoopPoints s.draws) (cueRecord s.shadow f.cue) (clipOf s (cueRecord s.shadow f.cue).clip).length) v
          (if steal = true then endVoice v .stolen (drawOne (cleared f.cue s)) else drawOne (cleared f.cue s)), .done) := by
  simp only [processFire, hc, hi]
  rfl

theorem voiceOf_voicesReached (cue : Nat) (s : State) (v : Nat) :
    voiceOf (voicesReached cue s) v = reachedByFire cue (cueRecord s.shadow cue) (voiceOf s v) :=
  bankGet_map (reachedByFire cue (cueRecord s.shadow cue)) s.voices v Voice.blank

/-- A pass that makes no voice IDLE ends none. -/
theorem endsAmong_eq_nil {s : State} {reached : Nat → Voice} {r : EndReason}
    (h : ∀ v, v < 24 → (voiceOf s v).state ≠ .idle → (reached v).state ≠ .idle) : endsAmong s reached r = [] := by
  simpa [endsAmong] using h

/-- The voice `x` as the retrigger alone leaves it (R125). -/
def restarted (cue : Nat) (c : CueRecord) (x : Voice) : Voice :=
  if c.retrigger = .restart ∧ x.cue = cue ∧ x.state ≠ .idle then endedVoice .restarted x else x

theorem retriggerStep_reached (cue : Nat) (c : CueRecord) (s : State) :
    (∀ v, v < 24 → voiceOf (retriggerStep cue c s) v = restarted cue c (voiceOf s v)) ∧
      EndsTaken (endsAmong s (fun v => restarted cue c (voiceOf s v)) .restarted) s (retriggerStep cue c s) := by
  unfold retriggerStep
  by_cases hr : c.retrigger = .restart
  · rw [if_pos hr]
    exact eachVoice_reached (y := fun _ x => endedVoice .restarted x)
      (fun v t hv hp => voiceReached_end hv .restarted (by simp at hp; exact hp.2)) (fun v => by simp [restarted, hr])
  · have hsame : ∀ x, restarted cue c x = x := fun x => if_neg fun h => hr h.1
    rw [if_neg hr]
    refine ⟨fun v _ => (hsame _).symm, ?_⟩
    rw [endsAmong_eq_nil fun v _ h => by rwa [hsame]]
    exact EndsTaken.refl s

/-- The voice `x` as the choke alone leaves it (R126). -/
def choked (cue : Nat) (c : CueRecord) (x : Voice) : Voice :=
  if c.choke ≠ 0 ∧ x.cue ≠ cue ∧ x.choke = c.choke ∧ x.state ≠ .idle then releasedVoice (some x.fo) .choked .choked x else x

theorem chokeStep_reached (cue : Nat) (c : CueRecord) (s : State) :
    (∀ v, v < 24 → voiceOf (chokeStep cue c s) v = choked cue c (voiceOf s v)) ∧
      EndsTaken (endsAmong s (fun v => choked cue c (voiceOf s v)) .choked) s (chokeStep cue c s) := by
  unfold chokeStep
  by_cases hk : c.choke = 0
  · have hsame : ∀ x, choked cue c x = x := fun x => if_neg fun h => h.1 hk
    rw [if_pos hk]
    refine ⟨fun v _ => (hsame _).symm, ?_⟩
    rw [endsAmong_eq_nil fun v _ h => by rwa [hsame]]
    exact EndsTaken.refl s
  · rw [if_neg hk]
    exact eachVoice_reached (y := fun _ x => releasedVoice (some x.fo) .choked .choked x)
      (fun v t hv _ => voiceReached_release hv (fun x => some x.fo) .choked .choked t) (fun v => by simp [choked, hk, and_assoc])

/-- Retrigger and choke reach different voices: together they leave each as the tables have it. -/
theorem choked_restarted (cue : Nat) (c : CueRecord) (x : Voice) : choked cue c (restarted cue c x) = reachedByFire cue c x := by
  unfold reachedByFire restarted
  by_cases hi : x.state = .idle
  · simp [hi, choked]
  · by_cases hcue : x.cue = cue
    · by_cases hr : c.retrigger = .restart <;> simp [hi, hcue, hr, choked, endedVoice]
    · simp [hi, hcue, choked]

/-- The ends of the retrigger are the voices of the cue, those of the choke are of others (R125, R126). -/
theorem endsByFire_eq (cue : Nat) (s s1 : State)
    (h1 : ∀ v, v < 24 → voiceOf s1 v = restarted cue (cueRecord s.shadow cue) (voiceOf s v)) :
    endsByFire cue s =
      endsAmong s (fun v => restarted cue (cueRecord s.shadow cue) (voiceOf s v)) .restarted ++
        endsAmong s1 (fun v => choked cue (cueRecord s.shadow cue) (voiceOf s1 v)) .choked := by
  generalize hc : cueRecord s.shadow cue = c at h1
  have hreached : ∀ v, voiceOf (voicesReached cue s) v = reachedByFire cue c (voiceOf s v) := fun v => by
    rw [voiceOf_voicesReached, hc]
  unfold endsByFire endsAmong
  simp only [hreached, List.filter_map, List.filter_filter]
  congr 1
  · refine congrArg _ (List.filter_congr fun v hv => ?_)
    simp only [Function.comp, restarted, reachedByFire]
    by_cases hi : (voiceOf s v).state = .idle
    · simp [hi]
    · by_cases hcue : (voiceOf s v).cue = cue
      · by_cases hr : c.retrigger = .restart <;> simp [hi, hcue, hr, endedVoice]
      · have hother : ((voiceOf s v).cue == cue) = false := beq_eq_false_iff_ne.mpr hcue
        simp [hi, hcue, hother]
  · have hkept : ∀ v, v < 24 → (voiceOf s v).state ≠ .idle → (voiceOf s v).cue ≠ cue → voiceOf s1 v = voiceOf s v :=
      fun v hv hi hcue => (h1 v hv).trans (if_neg fun h => hcue h.2.1)
    have hfilter : (List.range 24).filter (fun v => (voiceOf s v).cue != cue && ((voiceOf s v).state != .idle &&
          (reachedByFire cue c (voiceOf s v)).state == .idle)) =
        (List.range 24).filter (fun v => (voiceOf s1 v).state != .idle && (choked cue c (voiceOf s1 v)).state == .idle) := by
      refine List.filter_congr fun v hv => ?_
      rw [h1 v (List.mem_range.mp hv), choked_restarted]
      unfold restarted
      by_cases hi : (voiceOf s v).state = .idle
      · simp [hi]
      · by_cases hcue : (voiceOf s v).cue = cue
        · by_cases hr : c.retrigger = .restart <;> simp [hi, hcue, hr, endedVoice, reachedByFire]
        · simp [hi, hcue]
    rw [← hfilter]
    refine List.map_congr_left fun v hv => ?_
    obtain ⟨hlt, hended⟩ := List.mem_filter.mp hv
    simp only [Function.comp, Bool.and_eq_true, bne_iff_ne] at hended
    rw [hkept v (List.mem_range.mp hlt) hended.2.1 hended.1]

/-- Retrigger and choke together: the voices as the tables have them, and the ends in the order of R124. -/
theorem cleared_reached (cue : Nat) (s : State) :
    (∀ v, voiceOf (cleared cue s) v = voiceOf (voicesReached cue s) v) ∧ EndsTaken (endsByFire cue s) s (cleared cue s) := by
  obtain ⟨hrec1, hends1⟩ := retriggerStep_reached cue (cueRecord s.shadow cue) s
  obtain ⟨hrec2, hends2⟩ := chokeStep_reached cue (cueRecord s.shadow cue) (retriggerStep cue (cueRecord s.shadow cue) s)
  refine ⟨fun v => ?_, ?_⟩
  · by_cases hv : v < 24
    · rw [cleared, hrec2 v hv, hrec1 v hv, choked_restarted, voiceOf_voicesReached]
    · rw [voiceOf_beyond _ hv, voiceOf_beyond _ hv]
  · rw [endsByFire_eq cue s _ hrec1]
    exact hends1.trans hends2

/-- The allocation looks at the voices and the frame counter alone (R127). -/
theorem allocate_congr {s t : State} (hv : ∀ v, voiceOf s v = voiceOf t v) (hf : s.frameCounter = t.frameCounter) (p : Nat) :
    allocate s p = allocate t p := by
  have h2 : tier2Less s = tier2Less t := by
    funext v w
    simp only [tier2Less, hv]
  have h3 : tier3Less s = tier3Less t := by
    funext v w
    simp only [tier3Less, age, hv, hf]
    rfl
  simp only [allocate, tier1, tier2, tier3, hv, h2, h3]

theorem allocate_cleared (cue p : Nat) (s : State) : allocate (cleared cue s) p = allocate (voicesReached cue s) p :=
  allocate_congr (cleared_reached cue s).1 (cleared_reached cue s).2.only.frameCounter_eq p

/-! ### What ends keep of a READY clip -/

/-- What any number of ends keep: of a READY clip all but its use count, and its head slot unless that is one a DRAINING slot of the
clip gave up; of a slot all but its readers, unless it was DRAINING (R64, R70). -/
structure ReadyKept (s t : State) : Prop where
  entry : ∀ c, (clipOf s c).state = .ready →
    clipOf t c = { clipOf s c with uses := (clipOf t c).uses, headSlot := (clipOf t c).headSlot }
  head : ∀ c, (clipOf s c).state = .ready → (clipOf t c).headSlot = (clipOf s c).headSlot ∨
    (clipOf t c).headSlot = none ∧ ∃ k, (slotOf s k).state = .draining ∧ (slotOf s k).clip = c
  slot : ∀ k, (slotOf s k).state = .draining ∧ (slotOf t k).state = .free ∨
    slotOf t k = { slotOf s k with readers := (slotOf t k).readers }

theorem ReadyKept.refl (s : State) : ReadyKept s s := ⟨fun _ _ => rfl, fun _ _ => .inl rfl, fun _ => .inr rfl⟩

theorem ReadyKept.trans {s t u : State} (h1 : ReadyKept s t) (h2 : ReadyKept t u) : ReadyKept s u := by
  have hready : ∀ c, (clipOf s c).state = .ready → (clipOf t c).state = .ready := fun c hc => by rw [h1.entry c hc]; exact hc
  refine ⟨fun c hc => ?_, fun c hc => ?_, fun k => ?_⟩
  · rw [h2.entry c (hready c hc), h1.entry c hc]
  · rcases h2.head c (hready c hc) with h | ⟨h, k, hd, hk⟩
    · rw [h]
      exact h1.head c hc
    · rcases h1.slot k with ⟨-, hf⟩ | hs
      · rw [hf] at hd
        cases hd
      · rw [hs] at hd hk
        exact .inr ⟨h, k, hd, hk⟩
  · rcases h1.slot k with ⟨hd, hf⟩ | hs
    · rcases h2.slot k with ⟨hd', -⟩ | hs'
      · rw [hf] at hd'
        cases hd'
      · refine .inl ⟨hd, ?_⟩
        rw [hs']
        exact hf
    · rcases h2.slot k with ⟨hd', hf'⟩ | hs'
      · rw [hs] at hd'
        exact .inl ⟨hd', hf'⟩
      · refine .inr ?_
        rw [hs', hs]

/-- A step that changes neither clips nor slots. -/
theorem readyKept_of_eq {s t : State} (hc : t.clips = s.clips) (hs : t.slots = s.slots) : ReadyKept s t := by
  have hclip : ∀ c, clipOf t c = clipOf s c := fun c => by rw [clipOf, clipOf, hc]
  have hslot : ∀ k, slotOf t k = slotOf s k := fun k => by rw [slotOf, slotOf, hs]
  exact ⟨fun c _ => by rw [hclip], fun c _ => .inl (by rw [hclip]), fun k => .inr (by rw [hslot])⟩

theorem setVoice_readyKept (v : Nat) (x : Voice) (s : State) : ReadyKept s (setVoice v x s) := readyKept_of_eq rfl rfl

theorem emptyFifo_readyKept (v : Nat) (s : State) : ReadyKept s (emptyFifo v s) :=
  readyKept_of_eq (staleBurst_clips v _) (staleBurst_slots v _)

theorem raiseEvent_readyKept (k : EventKind) (a b : Nat) (value : Word) (s : State) : ReadyKept s (raiseEvent k a b value s) :=
  readyKept_of_eq (raiseEvent_clips ..) (raiseEvent_slots ..)

/-- A clip loses its head slot only to a DRAINING slot of its own that the last reader leaves (R70). -/
theorem headSlot_dropReader (j c : Nat) (s : State) : (clipOf (dropReader j s) c).headSlot = (clipOf s c).headSlot ∨
    (clipOf (dropReader j s) c).headSlot = none ∧ (slotOf s j).state = .draining ∧ (slotOf s j).clip = c := by
  simp only [dropReader, freeSlot]
  split
  · rename_i hd
    by_cases hj : j < 8
    · rw [slotOf_setSlot, if_pos ⟨rfl, hj⟩, clipOf_setClip]
      split
      · rename_i hc
        exact .inr ⟨rfl, hd.1, hc.1⟩
      · exact .inl rfl
    · rw [slotOf_beyond _ hj] at hd
      cases hd.1
  · exact .inl rfl

theorem dropReader_readyKept (j : Nat) (s : State) : ReadyKept s (dropReader j s) := by
  refine ⟨fun c _ => ?_, fun c _ => (headSlot_dropReader j c s).imp_right fun ⟨h, hd, hc⟩ => ⟨h, j, hd, hc⟩, fun k => ?_⟩
  · have hclip := clipOf_dropReader j c s
    rw [hclip]
  · rw [slotOf_dropReader]
    split
    · split
      · rename_i hd
        exact .inl ⟨hd.1, rfl⟩
      · exact .inr rfl
    · exact .inr rfl

theorem leaveSlot_readyKept (v : Nat) (s : State) : ReadyKept s (leaveSlot v s) := by
  simp only [leaveSlot]
  split
  · exact (setVoice_readyKept v _ s).trans (dropReader_readyKept _ _)
  · exact ReadyKept.refl s

theorem lowerUse_readyKept (c : Nat) (s : State) : ReadyKept s (lowerUse c s) := by
  have hclip : ∀ d, (clipOf s d).state = .ready →
      clipOf (lowerUse c s) d = { clipOf s d with uses := (clipOf (lowerUse c s) d).uses } := fun d hd => by
    rw [clipOf_lowerUse]
    split
    · rw [if_neg (by simp [hd])]
    · rfl
  refine ⟨fun d hd => ?_, fun d hd => .inl ?_, fun k => .inr ?_⟩
  · rw [hclip d hd]
  · rw [hclip d hd]
  · rw [slotOf, lowerUse_slots]
    rfl

/-- One end keeps them. -/
theorem endVoice_readyKept (v : Nat) (r : EndReason) (s : State) : ReadyKept s (endVoice v r s) := by
  have hquiet : ReadyKept s (quietened v r s) :=
    ((setVoice_readyKept v _ s).trans (leaveSlot_readyKept v _)).trans (emptyFifo_readyKept v _)
  exact (hquiet.trans (raiseEvent_readyKept ..)).trans (lowerUse_readyKept _ _)

theorem beginFall_readyKept (v len : Nat) (r : EndReason) (s : State) : ReadyKept s (beginFall v len r s) := by
  simp only [beginFall]
  split
  · exact endVoice_readyKept v r s
  · exact setVoice_readyKept ..

theorem releaseVoice_readyKept (len : Voice → Option Nat) (f c : EndReason) (v : Nat) (s : State) :
    ReadyKept s (releaseVoice len f c v s) := by
  simp only [releaseVoice]
  split
  · split
    · exact ReadyKept.refl s
    · exact endVoice_readyKept v c s
  · split
    · exact ReadyKept.refl s
    · exact endVoice_readyKept v f s
    · exact beginFall_readyKept v _ f s
    · exact beginFall_readyKept v _ f s
    · exact ReadyKept.refl s

theorem eachVoice_readyKept (p : Nat → Voice → Bool) {f : Nat → State → State} (hf : ∀ v s, ReadyKept s (f v s)) (s : State) :
    ReadyKept s (eachVoice p f s) := by
  unfold eachVoice
  induction List.range 24 generalizing s with
  | nil => exact ReadyKept.refl s
  | cons v vs ih =>
    refine ReadyKept.trans ?_ (ih _)
    dsimp only
    split
    · exact hf v s
    · exact ReadyKept.refl s

theorem cleared_readyKept (cue : Nat) (s : State) : ReadyKept s (cleared cue s) := by
  unfold cleared
  refine ReadyKept.trans (t := retriggerStep cue (cueRecord s.shadow cue) s) ?_ ?_
  · unfold retriggerStep
    split
    · exact eachVoice_readyKept _ (fun v t => endVoice_readyKept v .restarted t) s
    · exact ReadyKept.refl s
  · unfold chokeStep
    split
    · exact ReadyKept.refl _
    · exact eachVoice_readyKept _ (fun v t => releaseVoice_readyKept _ _ _ v t) _

end Sys2Proof.Machine
end

section
/-!
PROOF. FIRE with a voice that is IDLE, or that its own retrigger and choke leave IDLE (O37, O38).
-/

namespace Sys2Proof.Machine

/-! ### The set-up behind ends -/

theorem headStart_ready {s : State} {c : CueRecord} {r : Resolved} {k : Nat} (h : headStart s c r = some k) :
    (slotOf s k).state = .ready := by
  unfold headStart at h
  split at h
  · cases h
  · dsimp only at h
    split at h
    · rename_i hready
      rw [← Option.some.inj h]
      exact hready.1
    · cases h

/-- With head start a reader joins the slot (R70). -/
theorem slotOf_setUp (f : Fire) (c : CueRecord) (r : Resolved) (v k : Nat) (s : State) : slotOf (setUp f c r v s) k =
    if headStart s c r = some k then { slotOf s k with readers := (slotOf s k).readers + 1 } else slotOf s k := by
  have hjoin : slotOf (setUp f c r v s) k = slotOf (joinSlot (headStart s c r) s) k := by
    rw [setUp_eq]
    unfold voiceSetUp
    cases headStart s c r <;> split <;> simp [slotOf, joinSlot, raiseUse]
  rw [hjoin]
  cases hh : headStart s c r with
  | none => rfl
  | some j =>
    have hj : j < 8 := by
      by_contra hlt
      have hready := headStart_ready hh
      rw [slotOf_beyond s hlt] at hready
      cases hready
    rw [joinSlot, slotOf_setSlot]
    by_cases hjk : j = k
    · subst hjk
      simp [hj]
    · simp [hjk]

theorem stopOf_congr {e e' : ClipEntry} (h : e.length = e'.length) (c : CueRecord) : stopOf c e = stopOf c e' := by
  simp only [stopOf, h]

theorem loopEndOf_congr {e e' : ClipEntry} (h : e.length = e'.length) (c : CueRecord) : loopEndOf c e = loopEndOf c e' := by
  simp only [loopEndOf, stopOf_congr h]

theorem loops_congr {e e' : ClipEntry} (h : e.length = e'.length) (c : CueRecord) : loops c e = loops c e' := by
  simp only [loops, loopEndOf_congr h]

theorem adjustedOf_congr {e e' : ClipEntry} (h : e.length = e'.length) (c : CueRecord) : adjustedOf c e = adjustedOf c e' := by
  simp only [adjustedOf, h, stopOf_congr h, loops_congr h]

section
variable {f : Fire} {head : Option Nat} {s t : State} {c : CueRecord}
  (hs : cueRecord s.shadow f.cue = c) (ht : cueRecord t.shadow f.cue = c)
  (hlength : (clipOf s c.clip).length = (clipOf t c.clip).length)
include hs ht hlength

/-- The snapshot depends on the cue's record, the clip's length and channels, the stamp and the head length. -/
theorem snapshotTaken_congr {old x : Voice} (hchannels : (clipOf s c.clip).channels = (clipOf t c.clip).channels)
    (hframe : s.frameCounter = t.frameCounter) (hhead : ∀ k, head = some k → (slotOf s k).headLength = (slotOf t k).headLength)
    (h : SnapshotTaken f head s old x) : SnapshotTaken f head t old x := by
  have hfetch : (∀ k, head = some k → x.fetchPos = (slotOf s k).headLength) ↔
      ∀ k, head = some k → x.fetchPos = (slotOf t k).headLength :=
    forall_congr' fun k => imp_congr_right fun hk => by rw [hhead k hk]
  unfold SnapshotTaken at h ⊢
  simpa only [hs, ht, stopOf_congr hlength, loops_congr hlength, loopEndOf_congr hlength, hchannels, hframe, hfetch] using h

theorem startEvents_congr (v : Nat) : startEvents f head v s = startEvents f head v t := by
  simp only [startEvents, hs, ht, adjustedOf_congr hlength]

end

/-- What the set-up of voice `v` for fire `f` leaves at `w` that follows the ends `ends` from `q` to `u`. -/
structure FireSetUp (f : Fire) (ends : List VoiceEnd) (v : Nat) (q u w : State) (head : Option Nat) (x : Voice) : Prop where
  snapshot : SnapshotTaken f head q (voiceOf u v) x
  gets : DrainsOwn (cueRecord q.shadow f.cue).clip q → ∀ k, head = some k ↔ GetsHead (cueRecord q.shadow f.cue) q k
  voices : ∀ z, voiceOf w z = if v = z then x else voiceOf u z
  uses : ∀ k, UsesCounted ends (if k = (cueRecord q.shadow f.cue).clip then 1 else 0) k q w
  readers : ∀ k, ReadersCounted (readersEnded k ends) (if head = some k then 1 else 0) k q w
  events : AppendsIfRoom (endEvents q [] ends ++ startEvents f head v q) q w

/-- A slot that is READY behind ends was READY before them. -/
theorem slot_of_readyKept {q u : State} (hkept : ReadyKept q u) {k : Nat} (hk : (slotOf u k).state = .ready) :
    (slotOf q k).state = .ready ∧ (slotOf u k).headLength = (slotOf q k).headLength := by
  rcases hkept.slot k with ⟨-, hf⟩ | hs
  · rw [hf] at hk
    cases hk
  · rw [hs] at hk
    exact ⟨hk, by rw [hs]⟩

section
variable {c : CueRecord} {q u : State} (hready : (clipOf q c.clip).state = .ready) (hkept : ReadyKept q u)
include hready hkept

theorem length_of_readyKept : (clipOf u c.clip).length = (clipOf q c.clip).length := by rw [hkept.entry _ hready]

/-- Ends take no head start away but from a clip whose slot drained and was not its own (R70, R130). -/
theorem getsHead_of_readyKept (hown : DrainsOwn c.clip q) (k : Nat) : GetsHead c u k ↔ GetsHead c q k := by
  have hlength := length_of_readyKept hready hkept
  unfold GetsHead
  simp only [loops_congr hlength, loopEndOf_congr hlength]
  constructor
  · rintro ⟨hslot, hstate, hstart, hloop⟩
    obtain ⟨hstate', hhead⟩ := slot_of_readyKept hkept hstate
    rw [hhead] at hstart hloop
    rcases hkept.head _ hready with h | ⟨h, -⟩
    · exact ⟨h ▸ hslot, hstate', hstart, hloop⟩
    · rw [h] at hslot
      cases hslot
  · rintro ⟨hslot, hstate, hstart, hloop⟩
    have hsame : slotOf u k = { slotOf q k with readers := (slotOf u k).readers } :=
      (hkept.slot k).resolve_left fun h => by
        rw [hstate] at h
        cases h.1
    rw [hsame]
    refine ⟨?_, hstate, hstart, hloop⟩
    rcases hkept.head _ hready with h | ⟨-, j, hd, hj⟩
    · rw [h, hslot]
    · have hj8 : j < 8 := by
        by_contra hlt
        rw [slotOf_beyond q hlt] at hd
        cases hd
      have hsome := hown j hj8 hd hj
      rw [hslot] at hsome
      obtain rfl := Option.some.inj hsome
      rw [hstate] at hd
      cases hd

end

/-- The set-up behind ends (R129 to R131). -/
theorem fireSetUp_of_ends {f : Fire} {ends : List VoiceEnd} {v : Nat} {q u : State} (hv : v < 24) (hends : EndsTaken ends q u)
    (hkept : ReadyKept q u) (hready : (clipOf q (cueRecord q.shadow f.cue).clip).state = .ready) (points : Nat × Nat) :
    ∃ head x, FireSetUp f ends v q u
      (setUp f (cueRecord q.shadow f.cue)
        (resolve points (cueRecord q.shadow f.cue) (clipOf q (cueRecord q.shadow f.cue).clip).length) v u) head x := by
  have hlength := length_of_readyKept hready hkept
  have hshadow : u.shadow = q.shadow := hends.only.shadow_eq
  generalize hc : cueRecord q.shadow f.cue = c at hready hlength
  have hcu : cueRecord u.shadow f.cue = c := by rw [hshadow, hc]
  have hclip : c.clip < 128 := hc ▸ cueRecord_clip_lt q.shadow f.cue
  rw [← hlength]
  generalize hr : resolve points c (clipOf u c.clip).length = r
  have hgets : ∀ k, headStart u c r = some k ↔ GetsHead c u k := hr ▸ headStart_getsHead u c points
  have hheadReady : ∀ k, headStart u c r = some k → (slotOf u k).state = .ready := fun k => headStart_ready
  refine ⟨headStart u c r, newVoice u f c r (voiceOf u v) (headStart u c r), ?_, ?_, fun z => voiceOf_setUp hv f c r z u, fun k => ?_,
    fun k => ?_, ?_⟩
  · have hsnap := newVoice_snapshot f (headStart u c r) u (voiceOf u v) points
    rw [hcu, hr] at hsnap
    exact snapshotTaken_congr hcu hc hlength (by rw [hkept.entry _ hready]) hends.only.frameCounter_eq
      (fun k hk => (slot_of_readyKept hkept (hheadReady k hk)).2) hsnap
  · rw [hc]
    exact fun hown k => (hgets k).trans (getsHead_of_readyKept hready hkept hown k)
  · obtain ⟨huses, hstate⟩ := hends.uses k
    rw [hc]
    simp only [UsesCounted, clipOf_setUp]
    by_cases hk : k = c.clip
    · subst hk
      simp [hclip, huses, hstate]
    · simp [hk, Ne.symm hk, huses, hstate]
  · have hreaders := hends.readers k
    simp only [ReadersCounted, slotOf_setUp, Nat.add_zero] at hreaders ⊢
    by_cases hk : headStart u c r = some k
    · have hnot : ¬ ((slotOf q k).state = .draining ∧ 0 < readersEnded k ends ∧ (slotOf q k).readers ≤ readersEnded k ends) :=
        fun h => by
          have hq := (slot_of_readyKept hkept (hheadReady k hk)).1
          rw [h.1] at hq
          cases hq
      rw [if_neg hnot] at hreaders
      rw [if_pos hk, if_pos hk, if_neg hnot, hreaders]
    · rw [if_neg hk, if_neg hk]
      exact hreaders
  · have hevents := setUp_events f points v u
    simp only [hcu, hr] at hevents
    rw [startEvents_congr hcu hc hlength] at hevents
    exact appendsIfRoom_trans hends.only.rst_eq hends.only.sweep_eq hends.only.frameCounter_eq hends.events hevents

/-! ### FIRE, taken from the port -/

/-- The fire that a FIRE hands over (R98). -/
def ringFire (s : State) (m : PortMerge) : Fire := ⟨.ring, 0, (argsOf s m).b0, (argsOf s m).b1 % 2 == 1⟩

theorem fireChecks_ready {f : Fire} {c : CueRecord} {s : State} (h : fireChecks f c s = none) : (clipOf s c.clip).state = .ready := by
  by_contra hne
  unfold fireChecks at h
  dsimp only at h
  split_ifs at h

theorem endEvents_drawOne (s : State) (before ends : List VoiceEnd) : endEvents (drawOne s) before ends = endEvents s before ends :=
  endEvents_congr (s := drawOne s) (t := s) (fun _ => rfl) before ends

/-- A free value drawn changes nothing that ends depend on. -/
theorem EndsTaken.drawOne {ends : List VoiceEnd} {s t : State} (h : EndsTaken ends s t) :
    EndsTaken ends (drawOne s) (drawOne t) where
  only := by
    refine ⟨?_, h.only.2⟩
    rw [Machine.drawOne, h.only.1]
    rfl
  draws := congrArg (· + 1) h.draws
  port := h.port
  uses := h.uses
  base := h.base
  readers := h.readers
  events := by
    rw [endEvents_drawOne]
    exact h.events

/-- The set-up of voice `v` by a FIRE, at the state `u` behind its ends: its positions are resolved as it finds the clip (R84, R85). -/
def ringSetUp (s : State) (m : PortMerge) (v : Nat) (u : State) : State :=
  setUp (ringFire s m) (cueRecord s.shadow (ringFire s m).cue)
    (resolve (Config.noLoopPoints (bodyStart m s).draws) (cueRecord s.shadow (ringFire s m).cue)
      (clipOf s (cueRecord s.shadow (ringFire s m).cue).clip).length) v u

section
variable {s : State} {m : PortMerge} (hs : MemoryForm s) (h : Takes s m 0x01)
include hs h

theorem cueRecord_ringFire : cueRecord (bodyStart m s).shadow (ringFire s m).cue = cueRecord s.shadow (ringFire s m).cue :=
  cueRecord_bodyStart hs h (argsOf_b0_lt s m)

/-- Behind the trigger's merge a FIRE passes as before it, and allocates among the voices as retrigger and choke would leave them
then. -/
theorem processFire_bodyStart (hp : FirePasses s m) :
    processFire (ringFire s m) (bodyStart m s) =
      match allocate (voicesReached (ringFire s m).cue s) (cueRecord s.shadow (ringFire s m).cue).priority with
      | none => (cleared (ringFire s m).cue (bodyStart m s), .noVoice)
      | some (v, steal) =>
        (ringSetUp s m v
          (if steal = true then endVoice v .stolen (drawOne (cleared (ringFire s m).cue (bodyStart m s)))
          else drawOne (cleared (ringFire s m).cue (bodyStart m s))), .done) := by
  obtain ⟨hchecks, hignore⟩ := hp
  have hcue := cueRecord_ringFire hs h
  have hallocate : ∀ p, allocate (cleared (ringFire s m).cue (bodyStart m s)) p = allocate (voicesReached (ringFire s m).cue s) p :=
    fun p => by
      rw [allocate_cleared]
      refine allocate_congr (s := voicesReached _ (bodyStart m s)) (t := voicesReached _ s) (fun v => ?_) rfl _
      rw [voiceOf_voicesReached, voiceOf_voicesReached, hcue]
      rfl
  rw [processFire_passes (by rw [hcue]; exact hchecks) (by rw [hcue]; exact hignore), hcue, hallocate]
  rfl

section
variable (hp : FirePasses s m) {v : Nat}
include hp

theorem processFire_allocated
    (hv : allocate (voicesReached (ringFire s m).cue s) (cueRecord s.shadow (ringFire s m).cue).priority = some (v, false)) :
    processFire (ringFire s m) (bodyStart m s) =
      (ringSetUp s m v (drawOne (cleared (ringFire s m).cue (bodyStart m s))), .done) := by
  rw [processFire_bodyStart hs h hp, hv]
  rfl

/-- A voice that is not IDLE ends STOLEN first (R128). -/
theorem processFire_stolen
    (hv : allocate (voicesReached (ringFire s m).cue s) (cueRecord s.shadow (ringFire s m).cue).priority = some (v, true)) :
    processFire (ringFire s m) (bodyStart m s) =
      (ringSetUp s m v (endVoice v .stolen (drawOne (cleared (ringFire s m).cue (bodyStart m s)))), .done) := by
  rw [processFire_bodyStart hs h hp, hv]
  rfl

theorem processFire_noVoice
    (hv : allocate (voicesReached (ringFire s m).cue s) (cueRecord s.shadow (ringFire s m).cue).priority = none) :
    processFire (ringFire s m) (bodyStart m s) = (cleared (ringFire s m).cue (bodyStart m s), .noVoice) := by
  rw [processFire_bodyStart hs h hp, hv]

end

/-- A FIRE that comes to the state `u` with the code `code`. -/
theorem exec_fire {u : State} {code : ResultCode} (hu : processFire (ringFire s m) (bodyStart m s) = (u, code)) :
    exec .fire s = .next (arbitrate (handResult m.slot code u)) :=
  exec_of_body (i := .fire) hs h (by decide) hu

/-- What a FIRE leaves that sets up voice `v` behind these ends. -/
theorem ringSetUp_take (hp : FirePasses s m) {reached : Nat → Voice} {ends : List VoiceEnd} {v : Nat} {old : Voice} {u : State}
    (hv : v < 24) (hends : EndsTaken ends (drawOne (bodyStart m s)) u) (hkept : ReadyKept (drawOne (bodyStart m s)) u)
    (hreached : ∀ z, z < 24 → z ≠ v → voiceOf u z = reached z) (hold : voiceOf u v = old) :
    let t := arbitrate (handResult m.slot .done (ringSetUp s m v u))
    Answered m .done s t ∧ FireTakes (ringFire s m) reached ends v old s t ∧
      unchangedBut (takeParts ++ voiceParts ++ [.waiting]) s t := by
  have hcue : cueRecord (drawOne (bodyStart m s)).shadow (ringFire s m).cue = cueRecord s.shadow (ringFire s m).cue :=
    cueRecord_ringFire hs h
  have hready : (clipOf (drawOne (bodyStart m s)) (cueRecord s.shadow (ringFire s m).cue).clip).state = .ready := fireChecks_ready hp.1
  have honly : VoiceOnly (bodyStart m s) (ringSetUp s m v u) := ((drawOne_only _).trans hends.only).trans (setUp_only ..)
  obtain ⟨head, x, hset⟩ := fireSetUp_of_ends (f := ringFire s m) hv hends hkept (hcue.symm ▸ hready)
    (Config.noLoopPoints (bodyStart m s).draws)
  rw [hcue] at hset
  change FireSetUp (ringFire s m) ends v (drawOne (bodyStart m s)) u (ringSetUp s m v u) head x at hset
  obtain ⟨hsnap, hgets, hvoices, huses, hreaders, hevents⟩ := hset
  rw [hcue] at hgets huses
  refine ⟨answered_voiceTake honly .done h, ⟨head, x, ?_, ?_, hgets, fun z hz hne => ?_, fun k _ => usesCounted_take .done (huses k),
    fun k _ => readersCounted_take .done (hreaders k), ?_⟩, ?_⟩
  · rw [← hold]
    exact snapshotTaken_congr hcue rfl rfl rfl rfl (fun _ _ => rfl) hsnap
  · have hx := hvoices v
    rw [if_pos rfl] at hx
    rw [voiceOf_take honly, hx]
  · have hx := hvoices z
    rw [if_neg hne.symm, hreached z hz hne] at hx
    rw [voiceOf_take honly, hx]
  · rw [startEvents_congr hcue rfl rfl, endEvents_drawOne, endEvents_bodyStart] at hevents
    refine appended_take (es := endEvents s [] ends ++ startEvents (ringFire s m) head v s) .done hevents ?_
    rw [List.length_append]
    exact Nat.add_le_add (length_endEvents_le s [] ends) (length_startEvents_le _ head v s)
  · rw [List.append_assoc]
    exact unchangedBut_voiceTake honly .done (fun _ hp => by simp [hp]) (.inl (by simp))

end

/-- The ends that retrigger and choke bring are those that they would bring before the trigger's merge. -/
theorem endsByFire_bodyStart {s : State} {m : PortMerge} {cue : Nat}
    (hcue : cueRecord (bodyStart m s).shadow cue = cueRecord s.shadow cue) : endsByFire cue (bodyStart m s) = endsByFire cue s := by
  have hv : ∀ v, voiceOf (voicesReached cue (bodyStart m s)) v = voiceOf (voicesReached cue s) v := fun v => by
    rw [voiceOf_voicesReached, voiceOf_voicesReached, hcue]
    rfl
  have hs : ∀ v, voiceOf (bodyStart m s) v = voiceOf s v := fun _ => rfl
  simp only [endsByFire, endsAmong, hv, hs]

theorem cleared_of_plain {cue : Nat} {s : State} (hr : (cueRecord s.shadow cue).retrigger ≠ .restart)
    (hc : (cueRecord s.shadow cue).choke = 0) : cleared cue s = s := by
  rw [cleared, chokeStep, if_pos hc, retriggerStep, if_neg hr]

/-- Behind the trigger's merge, retrigger and choke leave the voices as they would before it. -/
theorem voiceOf_cleared_bodyStart {s : State} {m : PortMerge} {cue : Nat}
    (hcue : cueRecord (bodyStart m s).shadow cue = cueRecord s.shadow cue) (v : Nat) :
    voiceOf (cleared cue (bodyStart m s)) v = voiceOf (voicesReached cue s) v := by
  rw [(cleared_reached cue (bodyStart m s)).1, voiceOf_voicesReached, voiceOf_voicesReached, hcue]
  rfl

/-- Retrigger and choke of a FIRE, with the free value it draws. -/
theorem cleared_ends {s : State} {m : PortMerge} {cue : Nat} (hcue : cueRecord (bodyStart m s).shadow cue = cueRecord s.shadow cue) :
    EndsTaken (endsByFire cue s) (drawOne (bodyStart m s)) (drawOne (cleared cue (bodyStart m s))) ∧
      ReadyKept (drawOne (bodyStart m s)) (drawOne (cleared cue (bodyStart m s))) := by
  have hends := (cleared_reached cue (bodyStart m s)).2
  have hkept := cleared_readyKept cue (bodyStart m s)
  rw [endsByFire_bodyStart hcue] at hends
  exact ⟨hends.drawOne, ⟨hkept.entry, hkept.head, hkept.slot⟩⟩

/-- Settles O38: the set-up on the voice allocated, behind the ends of retrigger and choke. -/
theorem fireRestartsAndChokesThenAllocates : Obligations.FireRestartsAndChokesThenAllocates := by
  intro s m v hs h hp f reached hv hidle hlow
  have hcue := cueRecord_ringFire hs h
  have hvoices := voiceOf_cleared_bodyStart hcue
  have hfire := processFire_allocated hs h hp (allocate_idle _ hv hidle hlow)
  obtain ⟨hends, hkept⟩ := cleared_ends hcue
  exact ⟨_, exec_fire hs h hfire, ringSetUp_take hs h hp hv hends hkept (fun z _ _ => hvoices z) (hvoices v)⟩

/-- What a FIRE leaves that ends no voice before its set-up: head start as the take finds the slots, a use more of its clip, a reader
more of the head slot. -/
theorem ringSetUp_alone {s : State} {m : PortMerge} (hs : MemoryForm s) (h : Takes s m 0x01) {v : Nat} (hv : v < 24) :
    let c := cueRecord s.shadow (ringFire s m).cue
    let w := ringSetUp s m v (drawOne (bodyStart m s))
    ∃ head x, (∀ k, head = some k ↔ GetsHead c s k) ∧ SnapshotTaken (ringFire s m) head s (voiceOf s v) x ∧
      (∀ z, voiceOf w z = if v = z then x else voiceOf s z) ∧
      (∀ k, slotOf w k = if head = some k then { slotOf s k with readers := (slotOf s k).readers + 1 } else slotOf s k) ∧
      (∀ d, clipOf w d = if c.clip = d ∧ d < 128 then { clipOf s d with uses := (clipOf s d).uses + 1 } else clipOf s d) ∧
      AppendsIfRoom (startEvents (ringFire s m) head v s) (bodyStart m s) w := by
  intro c w
  have hcue : cueRecord (drawOne (bodyStart m s)).shadow (ringFire s m).cue = c := cueRecord_ringFire hs h
  let points := Config.noLoopPoints (bodyStart m s).draws
  have hsnap := fun head => newVoice_snapshot (ringFire s m) head (drawOne (bodyStart m s)) (voiceOf s v) points
  have hevents := setUp_events (ringFire s m) points v (drawOne (bodyStart m s))
  rw [hcue] at hsnap
  simp only [hcue] at hevents
  rw [startEvents_congr (t := s) hcue rfl rfl] at hevents
  exact ⟨_, _, headStart_getsHead (drawOne (bodyStart m s)) c points,
    snapshotTaken_congr hcue rfl rfl rfl rfl (fun _ _ => rfl) (hsnap _),
    fun z => voiceOf_setUp hv _ _ _ z _, fun k => slotOf_setUp _ _ _ v k _, fun d => clipOf_setUp _ _ _ v d _, hevents⟩

/-- Settles O37: with neither retrigger nor choke the set-up finds the part as the take has it. -/
theorem fireAllocatesLowestIdleVoice : Obligations.FireAllocatesLowestIdleVoice := by
  intro s m v hs h hp f c e hretrigger hchoke hv hidle hlow
  have hcue := cueRecord_ringFire hs h
  have hcleared : cleared (ringFire s m).cue (bodyStart m s) = bodyStart m s :=
    cleared_of_plain (by rw [hcue]; exact hretrigger) (by rw [hcue]; exact hchoke)
  have hvoices : ∀ w, voiceOf (voicesReached (ringFire s m).cue s) w = voiceOf s w := fun w => by
    rw [← voiceOf_cleared_bodyStart hcue, hcleared]
    rfl
  have hfire := processFire_allocated hs h hp
    (allocate_idle _ hv (by rw [hvoices]; exact hidle) (fun w hw => by rw [hvoices]; exact hlow w hw))
  rw [hcleared] at hfire
  have honly : VoiceOnly (bodyStart m s) (ringSetUp s m v (drawOne (bodyStart m s))) := (drawOne_only _).trans (setUp_only ..)
  obtain ⟨head, x, hgets, hsnap, hrec, hslots, hclips, hevents⟩ := ringSetUp_alone hs h hv
  have hclip : c.clip < 128 := cueRecord_clip_lt s.shadow f.cue
  refine ⟨_, head, x, exec_fire hs h hfire, answered_voiceTake honly .done h, hgets, hsnap, ?_, fun w hw => ?_, fun k => ?_, ?_,
    fun k hk => ?_, ?_, ?_⟩
  · rw [voiceOf_take honly, hrec, if_pos rfl]
  · rw [voiceOf_take honly, hrec, if_neg hw.symm]
  · rw [slotOf_arbitrate, slotOf_handResult]
    exact hslots k
  · rw [clipOf_arbitrate, clipOf_handResult]
    exact (hclips c.clip).trans (if_pos ⟨rfl, hclip⟩)
  · rw [clipOf_arbitrate, clipOf_handResult]
    exact (hclips k).trans (if_neg fun he => hk he.1.symm)
  · exact appended_take .done hevents (length_startEvents_le _ head v s)
  · rw [List.append_assoc]
    exact unchangedBut_voiceTake honly .done (fun _ hp => by simp [hp]) (.inl (by simp))

end Sys2Proof.Machine
end

section
/-!
PROOF. The allocation of a fire by its four tiers, and a FIRE that steals a voice or finds none (O39).
-/

namespace Sys2Proof.Machine

/-! ### The first of a list by a rank, in both directions -/

/-- `v` stands before `w`, or is `w`: by the rank, and among equals by the lower number. -/
def Before (less : Nat → Nat → Bool) (v w : Nat) : Prop := less v w = true ∨ less w v = false ∧ v ≤ w

/-- A rank that puts any two numbers in order, equals by the lower number (R127). -/
structure Ranks (less : Nat → Nat → Bool) : Prop where
  irrefl : ∀ v, less v v = false
  asymm : ∀ v w, less v w = true → less w v = false
  trans : ∀ u v w, Before less u v → Before less v w → Before less u w

theorem Before.refl {less : Nat → Nat → Bool} (h : Ranks less) (v : Nat) : Before less v v := .inr ⟨h.irrefl v, le_rfl⟩

theorem Before.antisymm {less : Nat → Nat → Bool} (h : Ranks less) {v w : Nat} (h1 : Before less v w) (h2 : Before less w v) :
    v = w := by
  rcases h1 with h1 | ⟨h1, hvw⟩ <;> rcases h2 with h2 | ⟨h2, hwv⟩
  · simp [h.asymm v w h1] at h2
  · simp [h1] at h2
  · simp [h1] at h2
  · exact Nat.le_antisymm hvw hwv

/-- The first of a rising list by a rank stands before every other. -/
theorem foldl_firstBy_before {less : Nat → Nat → Bool} (h : Ranks less) (xs : List Nat) (a : Nat)
    (hsorted : (a :: xs).Pairwise (· < ·)) : ∀ w ∈ a :: xs, Before less (xs.foldl (firstBy less) a) w := by
  induction xs generalizing a with
  | nil => exact fun w hw => (List.mem_singleton.mp hw) ▸ Before.refl h a
  | cons x xs ih =>
    obtain ⟨hax, hxs⟩ := List.pairwise_cons.mp hsorted
    obtain ⟨hx, hrest⟩ := List.pairwise_cons.mp hxs
    have hlt : a < x := hax x (by simp)
    have hfirst : (firstBy less a x = a ∨ firstBy less a x = x) ∧ Before less (firstBy less a x) a ∧
        Before less (firstBy less a x) x := by
      unfold firstBy
      split
      · rename_i hless
        exact ⟨.inr rfl, .inl hless, Before.refl h x⟩
      · rename_i hless
        exact ⟨.inl rfl, Before.refl h a, .inr ⟨by simpa using hless, hlt.le⟩⟩
    obtain ⟨hcase, hba, hbx⟩ := hfirst
    have hmin := ih (firstBy less a x) (List.pairwise_cons.mpr ⟨fun w hw => by
      rcases hcase with he | he <;> rw [he]
      · exact hax w (by simp [hw])
      · exact hx w hw, hrest⟩)
    have hself := hmin (firstBy less a x) (by simp)
    intro w hw
    rw [List.foldl_cons]
    rcases List.mem_cons.mp hw with rfl | hw
    · exact h.trans _ _ _ hself hba
    · rcases List.mem_cons.mp hw with rfl | hw
      · exact h.trans _ _ _ hself hbx
      · exact hmin w (by simp [hw])

theorem bestOf_eq_none {less : Nat → Nat → Bool} {xs : List Nat} : bestOf less xs = none ↔ xs = [] := by
  cases xs <;> simp [bestOf]

/-- The best of a rising list is the one that stands before all of it. -/
theorem bestOf_eq_some {less : Nat → Nat → Bool} (h : Ranks less) {xs : List Nat} (hsorted : xs.Pairwise (· < ·)) {v : Nat} :
    bestOf less xs = some v ↔ v ∈ xs ∧ ∀ w ∈ xs, Before less v w := by
  cases xs with
  | nil => simp [bestOf]
  | cons a xs =>
    have hmem := foldl_firstBy_mem less a xs
    have hmin := foldl_firstBy_before h xs a hsorted
    rw [bestOf, Option.some.injEq]
    constructor
    · rintro rfl
      exact ⟨hmem, hmin⟩
    · rintro ⟨hv, hbefore⟩
      exact Before.antisymm h (hmin v hv) (hbefore _ hmem)

/-! ### The tiers (R127) -/

section
variable {s : State} {p : Nat}

theorem before_tier2 {v w : Nat} : Before (tier2Less s) v w ↔
    (voiceOf s v).lastEnv < (voiceOf s w).lastEnv ∨ (voiceOf s v).lastEnv = (voiceOf s w).lastEnv ∧ v ≤ w := by
  simp only [Before, tier2Less, decide_eq_true_eq, decide_eq_false_iff_not]
  omega

theorem ranks_tier2 (s : State) : Ranks (tier2Less s) where
  irrefl v := by simp [tier2Less]
  asymm v w h := by
    simp only [tier2Less, decide_eq_true_eq, decide_eq_false_iff_not] at h ⊢
    omega
  trans u v w := by
    simp only [before_tier2]
    omega

theorem tier3Less_iff {v w : Nat} : tier3Less s v w = true ↔ (voiceOf s v).priority < (voiceOf s w).priority ∨
    (voiceOf s v).priority = (voiceOf s w).priority ∧ age s w < age s v := by
  simp [tier3Less]

theorem before_tier3 {v w : Nat} : Before (tier3Less s) v w ↔ (voiceOf s v).priority < (voiceOf s w).priority ∨
    (voiceOf s v).priority = (voiceOf s w).priority ∧ (age s w < age s v ∨ age s w = age s v ∧ v ≤ w) := by
  rw [Before, ← Bool.not_eq_true, tier3Less_iff, tier3Less_iff]
  omega

theorem ranks_tier3 (s : State) : Ranks (tier3Less s) where
  irrefl v := by simp [tier3Less]
  asymm v w h := by
    rw [← Bool.not_eq_true, tier3Less_iff]
    rw [tier3Less_iff] at h
    omega
  trans u v w := by
    simp only [before_tier3]
    omega

theorem mem_indices {n v : Nat} {q : Nat → Bool} : v ∈ indices n q ↔ v < n ∧ q v = true := by simp [indices]

theorem mem_tier2 {v : Nat} : v ∈ tier2 s p ↔ v < 24 ∧ (voiceOf s v).state = .falling ∧ (voiceOf s v).priority ≤ p := by
  simp [tier2, mem_indices]

theorem upright_iff {x : Voice} : upright x = true ↔ x.state ≠ .idle ∧ x.state ≠ .falling := by
  unfold upright
  cases x.state <;> decide

theorem mem_tier3 {v : Nat} : v ∈ tier3 s p ↔
    v < 24 ∧ ((voiceOf s v).state ≠ .idle ∧ (voiceOf s v).state ≠ .falling) ∧ (voiceOf s v).priority < p := by
  simp only [tier3, mem_indices, Bool.and_eq_true, upright_iff, decide_eq_true_eq]

/-- No voice is IDLE. -/
def NoneIdle (s : State) : Prop := ∀ w, w < 24 → (voiceOf s w).state ≠ .idle

theorem tier1_eq_nil : tier1 s = [] ↔ NoneIdle s := by
  simp [tier1, indices, NoneIdle]

/-- Voice `v` is the one of tier 2. -/
def FirstFalling (s : State) (p v : Nat) : Prop :=
  v ∈ tier2 s p ∧ ∀ w ∈ tier2 s p, Before (tier2Less s) v w

/-- Voice `v` is the one of tier 3. -/
def FirstUpright (s : State) (p v : Nat) : Prop :=
  v ∈ tier3 s p ∧ ∀ w ∈ tier3 s p, Before (tier3Less s) v w

theorem best_tier2 {v : Nat} : bestOf (tier2Less s) (tier2 s p) = some v ↔ FirstFalling s p v :=
  bestOf_eq_some (ranks_tier2 s) (indices_sorted _ _)

theorem best_tier3 {v : Nat} : bestOf (tier3Less s) (tier3 s p) = some v ↔ FirstUpright s p v :=
  bestOf_eq_some (ranks_tier3 s) (indices_sorted _ _)

theorem allocate_of_noneIdle (h : NoneIdle s) : allocate s p =
    match bestOf (tier2Less s) (tier2 s p) with
    | some v => some (v, true)
    | none => (bestOf (tier3Less s) (tier3 s p)).map (fun v => (v, true)) := by
  rw [allocate, tier1_eq_nil.mpr h]
  cases bestOf (tier2Less s) (tier2 s p) with
  | some v => rfl
  | none => cases bestOf (tier3Less s) (tier3 s p) <;> rfl

/-- With an IDLE voice none is stolen. -/
theorem allocate_of_idle (h : ¬ NoneIdle s) : ∃ v, v < 24 ∧ (voiceOf s v).state = .idle ∧ (∀ w, w < v → (voiceOf s w).state ≠ .idle) ∧
    allocate s p = some (v, false) := by
  have hsome : ∃ v, v < 24 ∧ (voiceOf s v).state = .idle := by
    simpa [NoneIdle] using h
  have hleast := Nat.find_spec hsome
  have hlow : ∀ w, w < Nat.find hsome → (voiceOf s w).state ≠ .idle := fun w hw hi =>
    Nat.find_min hsome hw ⟨hw.trans hleast.1, hi⟩
  exact ⟨_, hleast.1, hleast.2, hlow, allocate_idle p hleast.1 hleast.2 hlow⟩

theorem allocate_unstolen {v : Nat} : allocate s p = some (v, false) ↔
    v < 24 ∧ (voiceOf s v).state = .idle ∧ ∀ w, w < v → (voiceOf s w).state ≠ .idle := by
  refine ⟨fun h => ?_, fun ⟨hv, hi, hlow⟩ => allocate_idle p hv hi hlow⟩
  by_cases hn : NoneIdle s
  · rw [allocate_of_noneIdle hn] at h
    split at h
    · simp at h
    · simp at h
  · obtain ⟨w, hw, hi, hlow, ha⟩ := allocate_of_idle (p := p) hn
    rw [ha] at h
    simp only [Option.some.injEq, Prod.mk.injEq, and_true] at h
    exact h ▸ ⟨hw, hi, hlow⟩

theorem allocate_stolen {v : Nat} : allocate s p = some (v, true) ↔
    NoneIdle s ∧ (FirstFalling s p v ∨ tier2 s p = [] ∧ FirstUpright s p v) := by
  by_cases hn : NoneIdle s
  · rw [allocate_of_noneIdle hn, ← best_tier2, ← best_tier3, ← bestOf_eq_none (less := tier2Less s)]
    cases bestOf (tier2Less s) (tier2 s p) <;> simp [hn]
  · obtain ⟨w, -, -, -, ha⟩ := allocate_of_idle (p := p) hn
    simp [ha, hn]

theorem allocate_none : allocate s p = none ↔ NoneIdle s ∧ tier2 s p = [] ∧ tier3 s p = [] := by
  by_cases hn : NoneIdle s
  · rw [allocate_of_noneIdle hn, ← bestOf_eq_none (less := tier2Less s), ← bestOf_eq_none (less := tier3Less s)]
    cases bestOf (tier2Less s) (tier2 s p) <;> simp [hn]
  · obtain ⟨w, -, -, -, ha⟩ := allocate_of_idle (p := p) hn
    simp [ha, hn]

theorem tier2_eq_nil : tier2 s p = [] ↔ ∀ w, w < 24 → (voiceOf s w).state = .falling → p < (voiceOf s w).priority := by
  simp [List.eq_nil_iff_forall_not_mem, mem_tier2]

theorem tier3_eq_nil (h : NoneIdle s) :
    tier3 s p = [] ↔ ∀ w, w < 24 → (voiceOf s w).state ≠ .falling → p ≤ (voiceOf s w).priority := by
  simp only [List.eq_nil_iff_forall_not_mem, mem_tier3, not_and, Nat.not_lt, and_imp]
  exact forall₂_congr fun w hw => ⟨fun hw' hf => hw' (h w hw) hf, fun hw' _ hf => hw' hf⟩

theorem firstFalling_iff {v : Nat} : FirstFalling s p v ↔ v < 24 ∧ (voiceOf s v).state = .falling ∧ (voiceOf s v).priority ≤ p ∧
    ∀ w, w < 24 → (voiceOf s w).state = .falling → (voiceOf s w).priority ≤ p →
      (voiceOf s v).lastEnv < (voiceOf s w).lastEnv ∨ (voiceOf s v).lastEnv = (voiceOf s w).lastEnv ∧ v ≤ w := by
  simp only [FirstFalling, mem_tier2, before_tier2, and_imp, and_assoc]

theorem firstUpright_iff (h : NoneIdle s) {v : Nat} : FirstUpright s p v ↔
    v < 24 ∧ (voiceOf s v).state ≠ .falling ∧ (voiceOf s v).priority < p ∧
      ∀ w, w < 24 → (voiceOf s w).state ≠ .falling → (voiceOf s w).priority < p →
        (voiceOf s v).priority < (voiceOf s w).priority ∨ (voiceOf s v).priority = (voiceOf s w).priority ∧
          (age s w < age s v ∨ age s w = age s v ∧ v ≤ w) := by
  simp only [FirstUpright, mem_tier3, before_tier3, and_imp]
  constructor
  · rintro ⟨⟨hv, ⟨-, hf⟩, hp⟩, hfirst⟩
    exact ⟨hv, hf, hp, fun w hw hwf hwp => hfirst w hw (h w hw) hwf hwp⟩
  · rintro ⟨hv, hf, hp, hfirst⟩
    exact ⟨⟨hv, ⟨h v hv, hf⟩, hp⟩, fun w hw _ hwf hwp => hfirst w hw hwf hwp⟩

end

/-- R127 as a whole. -/
theorem allocate_tiers (s : State) (p : Nat) :
    let x := voiceOf s
    (∀ v, allocate s p = some (v, false) ↔ v < 24 ∧ (x v).state = .idle ∧ ∀ w, w < v → (x w).state ≠ .idle) ∧
    (∀ v, allocate s p = some (v, true) ↔ v < 24 ∧ (∀ w, w < 24 → (x w).state ≠ .idle) ∧
      (((x v).state = .falling ∧ (x v).priority ≤ p ∧
          ∀ w, w < 24 → (x w).state = .falling → (x w).priority ≤ p →
            (x v).lastEnv < (x w).lastEnv ∨ (x v).lastEnv = (x w).lastEnv ∧ v ≤ w) ∨
        ((∀ w, w < 24 → (x w).state = .falling → p < (x w).priority) ∧ (x v).state ≠ .falling ∧ (x v).priority < p ∧
          ∀ w, w < 24 → (x w).state ≠ .falling → (x w).priority < p →
            (x v).priority < (x w).priority ∨ (x v).priority = (x w).priority ∧ (age s w < age s v ∨ age s w = age s v ∧ v ≤ w)))) ∧
    (allocate s p = none ↔ ∀ v, v < 24 → (x v).state ≠ .idle ∧ ((x v).state = .falling → p < (x v).priority) ∧
      ((x v).state ≠ .falling → p ≤ (x v).priority)) := by
  refine ⟨fun v => allocate_unstolen, fun v => ?_, ?_⟩
  · rw [allocate_stolen]
    constructor
    · rintro ⟨hn, hf | ⟨hnil, hu⟩⟩
      · obtain ⟨hv, hfirst⟩ := firstFalling_iff.mp hf
        exact ⟨hv, hn, .inl hfirst⟩
      · obtain ⟨hv, hfirst⟩ := (firstUpright_iff hn).mp hu
        exact ⟨hv, hn, .inr ⟨tier2_eq_nil.mp hnil, hfirst⟩⟩
    · rintro ⟨hv, hn, hfirst | ⟨hnil, hfirst⟩⟩
      · exact ⟨hn, .inl (firstFalling_iff.mpr ⟨hv, hfirst⟩)⟩
      · exact ⟨hn, .inr ⟨tier2_eq_nil.mpr hnil, (firstUpright_iff hn).mpr ⟨hv, hfirst⟩⟩⟩
  · rw [allocate_none]
    constructor
    · rintro ⟨hn, h2, h3⟩ v hv
      exact ⟨hn v hv, tier2_eq_nil.mp h2 v hv, (tier3_eq_nil hn).mp h3 v hv⟩
    · intro h
      have hn : NoneIdle s := fun v hv => (h v hv).1
      exact ⟨hn, tier2_eq_nil.mpr fun v hv => (h v hv).2.1, (tier3_eq_nil hn).mpr fun v hv => (h v hv).2.2⟩

/-! ### Where retrigger and choke leave no voice IDLE -/

/-- What voices are reached by: an IDLE voice stays IDLE, and where none is IDLE afterwards nothing but voices has changed. -/
structure QuietUnlessIdle (s t : State) : Prop where
  idle : ∀ v, (voiceOf s v).state = .idle → (voiceOf t v).state = .idle
  quiet : NoneIdle t → t = { s with voices := t.voices }

theorem QuietUnlessIdle.refl (s : State) : QuietUnlessIdle s s := ⟨fun _ h => h, fun _ => rfl⟩

theorem QuietUnlessIdle.trans {s t u : State} (h1 : QuietUnlessIdle s t) (h2 : QuietUnlessIdle t u) : QuietUnlessIdle s u where
  idle v hv := h2.idle v (h1.idle v hv)
  quiet hu := by
    have ht : NoneIdle t := fun w hw hi => hu w hw (h2.idle w hi)
    rw [h2.quiet hu, h1.quiet ht]

section
variable {v : Nat} (hv : v < 24) (s : State)
include hv

/-- A voice that ends is IDLE. -/
theorem endVoice_quietUnlessIdle (r : EndReason) : QuietUnlessIdle s (endVoice v r s) := by
  have hrec := fun w => voiceOf_endVoice hv w r s
  refine ⟨fun w hw => ?_, fun hn => absurd ?_ (hn v hv)⟩
  · rw [hrec]
    split
    · rfl
    · exact hw
  · rw [hrec, if_pos rfl]
    rfl

/-- A voice that begins to fall changes nothing else. -/
theorem beginFall_quietUnlessIdle (len : Nat) (r : EndReason) (h : (voiceOf s v).state ≠ .idle) :
    QuietUnlessIdle s (beginFall v len r s) := by
  simp only [beginFall]
  split
  · exact endVoice_quietUnlessIdle hv s r
  · refine ⟨fun w hw => ?_, fun _ => rfl⟩
    rw [voiceOf_setVoice, if_neg (by rintro ⟨rfl, -⟩; exact h hw)]
    exact hw

theorem releaseVoice_quietUnlessIdle (len : Voice → Option Nat) (f c : EndReason) :
    QuietUnlessIdle s (releaseVoice len f c v s) := by
  simp only [releaseVoice]
  split
  · split
    · exact QuietUnlessIdle.refl s
    · exact endVoice_quietUnlessIdle hv s c
  · split
    case h_1 => exact QuietUnlessIdle.refl s
    case h_2 => exact endVoice_quietUnlessIdle hv s f
    case h_3 hst => exact beginFall_quietUnlessIdle hv s _ f (by simp [hst])
    case h_4 hst => exact beginFall_quietUnlessIdle hv s _ f (by simp [hst])
    case h_5 => exact QuietUnlessIdle.refl s

end

theorem eachVoice_quietUnlessIdle (p : Nat → Voice → Bool) {f : Nat → State → State}
    (hf : ∀ v s, v < 24 → QuietUnlessIdle s (f v s)) (s : State) : QuietUnlessIdle s (eachVoice p f s) := by
  have hfold : ∀ (vs : List Nat) (t : State), (∀ v ∈ vs, v < 24) →
      QuietUnlessIdle t (vs.foldl (fun t v => if p v (voiceOf t v) then f v t else t) t) := by
    intro vs
    induction vs with
    | nil => exact fun t _ => QuietUnlessIdle.refl t
    | cons v vs ih =>
      intro t hvs
      refine QuietUnlessIdle.trans ?_ (ih _ fun w hw => hvs w (by simp [hw]))
      dsimp only
      split
      · exact hf v t (hvs v (by simp))
      · exact QuietUnlessIdle.refl t
  exact hfold _ s fun v hv => List.mem_range.mp hv

theorem cleared_quietUnlessIdle (cue : Nat) (s : State) : QuietUnlessIdle s (cleared cue s) := by
  unfold cleared
  refine QuietUnlessIdle.trans (t := retriggerStep cue (cueRecord s.shadow cue) s) ?_ ?_
  · unfold retriggerStep
    split
    · exact eachVoice_quietUnlessIdle _ (fun v t hv => endVoice_quietUnlessIdle hv t .restarted) s
    · exact QuietUnlessIdle.refl s
  · unfold chokeStep
    split
    · exact QuietUnlessIdle.refl _
    · exact eachVoice_quietUnlessIdle _ (fun v t hv => releaseVoice_quietUnlessIdle hv t _ _ _) _

/-- A step that changes voices alone. -/
theorem same_of_voices {p : Part} {s t : State} (h : t = { s with voices := t.voices }) (hp : p ≠ .voices) : Same p s t := by
  cases p
  case voices => exact absurd rfl hp
  case stale =>
    rw [h]
    exact same_refl .stale s
  all_goals
    rw [h]
    simp [Same, Kept, writeBacksLeft, marksLeft, againLeft, CopyLeft]

/-- Where no voice is IDLE as retrigger and choke leave them, these have ended none. -/
theorem endsByFire_eq_nil {cue : Nat} {s : State} (h : NoneIdle (voicesReached cue s)) : endsByFire cue s = [] := by
  simp only [endsByFire, endsAmong_eq_nil fun v hv _ => h v hv]
  rfl

/-- Where no voice is IDLE after the retrigger and there is no choke, every voice is as it was. -/
theorem voiceOf_voicesReached_of_noneIdle {cue : Nat} {s : State} (h : NoneIdle (voicesReached cue s))
    (hc : (cueRecord s.shadow cue).choke = 0) {v : Nat} (hv : v < 24) : voiceOf (voicesReached cue s) v = voiceOf s v := by
  have hne := h v hv
  rw [voiceOf_voicesReached] at hne ⊢
  unfold reachedByFire at hne ⊢
  by_cases hi : (voiceOf s v).state = .idle
  · simp [hi]
  · by_cases hr : (voiceOf s v).cue = cue ∧ (cueRecord s.shadow cue).retrigger = .restart
    · simp [hi, hr, endedVoice] at hne
    · simp only [hi, if_false, hc]
      split
      · exact if_neg fun he => hr ⟨‹_›, he⟩
      · rfl

/-! ### FIRE that steals, and FIRE that finds no voice -/

section
variable {s : State} {m : PortMerge} (hs : MemoryForm s) (h : Takes s m 0x01) (hp : FirePasses s m)
include hs h hp

/-- A FIRE that finds no voice (R127). -/
theorem fire_noVoice
    (hnone : allocate (voicesReached (ringFire s m).cue s) (cueRecord s.shadow (ringFire s m).cue).priority = none) :
    ∃ t, exec .fire s = .next t ∧ Answered m .noVoice s t ∧
      (∀ v, v < 24 → voiceOf t v = servedVoice t.port v (voiceOf (voicesReached (ringFire s m).cue s) v)) ∧
      unchangedBut (.voices :: takeParts) s t ∧
      ((cueRecord s.shadow (ringFire s m).cue).choke = 0 → unchangedBut takeParts s t) := by
  have hcue := cueRecord_ringFire hs h
  have hrec := voiceOf_cleared_bodyStart hcue
  have hidle : NoneIdle (voicesReached (ringFire s m).cue s) := (allocate_none.mp hnone).1
  have hquiet := (cleared_quietUnlessIdle (ringFire s m).cue (bodyStart m s)).quiet fun v hv => by
    rw [hrec]
    exact hidle v hv
  have honly : VoiceOnly (bodyStart m s) (cleared (ringFire s m).cue (bodyStart m s)) := (cleared_reached _ _).2.only
  have hport : (cleared (ringFire s m).cue (bodyStart m s)).port = none := honly.2.free_iff.mpr rfl
  have hsame : ∀ p, p ≠ .voices → Same p (bodyStart m s) (cleared (ringFire s m).cue (bodyStart m s)) :=
    fun _ hvoices => same_of_voices hquiet hvoices
  refine ⟨_, exec_fire hs h (processFire_noVoice hs h hp hnone), answered_voiceTake honly .noVoice h, fun v _ => ?_, ?_, fun hchoke => ?_⟩
  · rw [voiceOf_take honly, hrec]
  · refine unchangedBut_mono (by simp [or_comm]) (by simp) (unchangedBut_take (extra := [.voices]) .noVoice hport fun p hp => hsame p ?_)
    exact fun he => hp (by simp [he])
  · refine unchangedBut_mono (by simp) (by simp) (unchangedBut_take (extra := []) .noVoice hport fun p _ => ?_)
    by_cases hvoices : p = .voices
    · subst hvoices
      intro v
      rw [hrec]
      by_cases hv : v < 24
      · exact voiceOf_voicesReached_of_noneIdle hidle hchoke hv
      · exact (voiceOf_beyond _ hv).trans (voiceOf_beyond s hv).symm
    · exact hsame p hvoices

/-- A FIRE that steals a voice (R128). -/
theorem fire_steals {v : Nat}
    (hsteal : allocate (voicesReached (ringFire s m).cue s) (cueRecord s.shadow (ringFire s m).cue).priority = some (v, true)) :
    ∃ t, exec .fire s = .next t ∧ Answered m .done s t ∧
      FireTakes (ringFire s m) (voiceOf (voicesReached (ringFire s m).cue s))
        [(v, voiceOf (voicesReached (ringFire s m).cue s) v, .stolen)] v
        (endedVoice .stolen (voiceOf (voicesReached (ringFire s m).cue s) v)) s t ∧
      unchangedBut (takeParts ++ voiceParts ++ [.waiting]) s t := by
  have hcue := cueRecord_ringFire hs h
  have hrec := voiceOf_cleared_bodyStart hcue
  have hv : v < 24 := (((allocate_tiers _ _).2.1 v).mp hsteal).1
  have hidle : NoneIdle (voicesReached (ringFire s m).cue s) := (allocate_stolen.mp hsteal).1
  obtain ⟨hends, hkept⟩ := cleared_ends hcue
  rw [endsByFire_eq_nil hidle] at hends
  have hvoice : ∀ w, voiceOf (drawOne (cleared (ringFire s m).cue (bodyStart m s))) w =
      voiceOf (voicesReached (ringFire s m).cue s) w := hrec
  have hstolen := endsTaken_endVoice hv .stolen (drawOne (cleared (ringFire s m).cue (bodyStart m s)))
  rw [hvoice] at hstolen
  refine ⟨_, exec_fire hs h (processFire_stolen hs h hp hsteal), ringSetUp_take hs h hp hv (hends.trans hstolen)
    (hkept.trans (endVoice_readyKept v .stolen _)) (fun z _ hne => ?_) ?_⟩
  · rw [voiceOf_endVoice hv, if_neg hne.symm, hvoice]
  · rw [voiceOf_endVoice hv, if_pos rfl, hvoice]

end

/-- Settles O39: the tiers, and the two takes that retrigger and choke leave without an IDLE voice. -/
theorem allocationGoesThroughTiers : Obligations.AllocationGoesThroughTiers :=
  ⟨fun s p => allocate_tiers s p,
    fun _ _ hs h hp => ⟨fire_noVoice hs h hp, fun _ hsteal => fire_steals hs h hp hsteal⟩⟩

end Sys2Proof.Machine
end

section
/-!
PROOF. The frame of a sounding voice, stage by stage (O59).
-/

namespace Sys2Proof.Machine

/-! ### The record, stage by stage -/

theorem afterTail_eq {o : Voice} (h : sounding o = true) :
    afterTail o =
      if o.loop = false ∧ o.tail = true ∧ 0 < o.fo ∧ o.state ≠ .falling ∧ o.due = max o.start (o.effEnd - o.fo) then
        fallen o o.fo .complete (if o.state = .steady ∨ o.sounded = false then 4096 else o.lastEnv)
      else o := by
  have hbegins : tailBegins o = true ↔
      o.loop = false ∧ o.tail = true ∧ 0 < o.fo ∧ o.state ≠ .falling ∧ o.due = max o.start (o.effEnd - o.fo) := by
    have hstate : (o.state == .rising || o.state == .steady) = true ↔ o.state ≠ .falling := by
      unfold sounding at h
      revert h
      cases o.state <;> decide
    simp only [tailBegins, tailPosition, Bool.and_eq_true, hstate, Bool.not_eq_true', decide_eq_true_eq, beq_iff_eq, and_assoc]
  have her : (if o.sounded = true then fallStart o else 4096) =
      if o.state = .steady ∨ o.sounded = false then 4096 else o.lastEnv := by
    unfold fallStart
    cases o.sounded <;> simp
  simp only [afterTail, hbegins, her]

theorem takeFrame_underrun {s : State} {x : Voice} : takeFrame s x = .underrun ↔ (frameTaken s x).isNone = true := by
  unfold takeFrame frameTaken
  cases x.headFlag
  · cases x.fifo <;> simp
  · simp

theorem takeFrame_samples (s : State) (x : Voice) :
    (takeFrame s x).samples =
      (((frameTaken s x).getD ⟨0, 0⟩).left.toInt, ((frameTaken s x).getD ⟨0, 0⟩).right.toInt) := by
  unfold takeFrame frameTaken
  cases x.headFlag
  · cases x.fifo <;> simp [FrameSource.samples]
  · simp [FrameSource.samples]

/-- Whether this frame is the last of the voice's rise (R134). -/
def riseOver (x : Voice) : Bool := x.state == .rising && x.n == x.fi

/-- The record behind stages 2 to 4, `under` saying that no frame was to be had, but for its head slot. -/
def advanced (step : Nat) (under : Bool) (x : Voice) : Voice :=
  { x with
    lc := rideLevel step x.lc x.lt, lastEnv := envelope x, sounded := true, due := wrapPos x (x.due + 1)
    state := if riseOver x = true then .steady else x.state
    boardFlag := x.boardFlag || riseOver x
    n := if x.state = .rising ∧ riseOver x = false then x.n + 1 else x.n
    m := if x.state = .falling ∧ x.m ≠ x.fallLength then x.m + 1 else x.m
    fifo := if x.headFlag = true then x.fifo else x.fifo.drop 1
    underruns := if under = true then min 65535 (x.underruns + 1) else x.underruns }

theorem afterCounters_eq (x : Voice) : afterCounters x =
    { x with
      state := if riseOver x = true then .steady else x.state
      boardFlag := x.boardFlag || riseOver x
      n := if x.state = .rising ∧ riseOver x = false then x.n + 1 else x.n
      m := if x.state = .falling ∧ x.m ≠ x.fallLength then x.m + 1 else x.m } := by
  rcases x with ⟨state⟩
  cases state
  case rising =>
    simp only [afterCounters, riseOver]
    split <;> simp_all
  case falling =>
    simp only [afterCounters]
    split <;> simp_all [riseOver]
  all_goals simp [afterCounters, riseOver]

theorem afterFrame_eq (s : State) (step : Nat) (x : Voice) : afterFrame step (takeFrame s x) x =
    { x with
      lc := rideLevel step x.lc x.lt, lastEnv := envelope x, sounded := true
      fifo := if x.headFlag = true then x.fifo else x.fifo.drop 1
      underruns := if (frameTaken s x).isNone = true then min 65535 (x.underruns + 1) else x.underruns } := by
  unfold takeFrame frameTaken
  cases hf : x.headFlag
  · cases hq : x.fifo <;> simp [afterFrame, satAdd, hf, hq]
  · simp [afterFrame, hf]

theorem advanced_eq (s : State) (step : Nat) (x : Voice) :
    afterPosition (afterCounters (afterFrame step (takeFrame s x) x)) = advanced step (frameTaken s x).isNone x := by
  rw [afterFrame_eq, afterCounters_eq]
  rfl

/-- The record of a voice that leaves its head slot, if it does (R151). -/
def offSlot (leaves : Bool) (x : Voice) : Voice :=
  { x with headFlag := x.headFlag && !leaves, headSlot := if leaves = true then 0 else x.headSlot }

/-- The record resynchronised behind an underrun (R152). -/
def resynced (x : Voice) : Voice := { x with fifo := [], inFlight := 0, epoch := x.epoch + 1, fetchPos := x.due }

/-! ### What the stages do beside the voice's record -/

/-- The access on the port: a burst of voice `v` turns stale, if it does (R154). -/
def staledIf (v : Nat) (yes : Bool) : Option PortAccess → Option PortAccess
  | some (.burst b) => some (.burst { b with stale := b.stale || (b.voice == v && yes) })
  | a => a

theorem staledIf_false (v : Nat) (a : Option PortAccess) : staledIf v false a = a := by
  unfold staledIf
  split <;> simp

theorem staledIf_or (v : Nat) (p q : Bool) (a : Option PortAccess) : staledIf v (p || q) a = staledIf v q (staledIf v p a) := by
  unfold staledIf
  split <;> simp [Bool.and_or_distrib_left, Bool.or_assoc]

theorem staledBy_single (v : Nat) (x : Voice) (r : EndReason) (a : Option PortAccess) : staledBy [(v, x, r)] a = staledIf v true a := by
  unfold staledBy staledIf
  split <;> simp [Bool.beq_comm]

/-- What stages of the frame of voice `v` do beside the voices' records: whether its burst turns stale, how many readers leave each head
slot, the ends that count for the clips, and the events. -/
structure StagesTaken (v : Nat) (stales : Bool) (left : Nat → Nat) (ends : List VoiceEnd) (es : List RaisedEvent) (s t : State) :
    Prop where
  only : VoiceOnly s t
  draws : t.draws = s.draws
  port : t.port = staledIf v stales s.port
  uses : ∀ c, UsesCounted ends 0 c s t
  base : ∀ c, (clipOf t c).state ≠ .empty → (clipOf t c).base = (clipOf s c).base
  readers : ∀ k, ReadersCounted (left k) 0 k s t
  events : AppendsIfRoom es s t

theorem StagesTaken.trans {v : Nat} {b1 b2 : Bool} {l1 l2 : Nat → Nat} {e1 e2 : List VoiceEnd} {es1 es2 : List RaisedEvent}
    {s t u : State} (h1 : StagesTaken v b1 l1 e1 es1 s t) (h2 : StagesTaken v b2 l2 e2 es2 t u) :
    StagesTaken v (b1 || b2) (fun k => l1 k + l2 k) (e1 ++ e2) (es1 ++ es2) s u where
  only := h1.only.trans h2.only
  draws := h2.draws.trans h1.draws
  port := by rw [staledIf_or, ← h1.port, h2.port]
  uses c := usesCounted_append (h1.uses c) (h2.uses c)
  base c hc := by
    have ht : (clipOf t c).state ≠ .empty := by
      intro he
      exact hc (by simpa [he] using (h2.uses c).2)
    rw [h2.base c hc, h1.base c ht]
  readers k := readersCounted_add (h1.readers k) (h2.readers k)
  events := appendsIfRoom_trans h1.only.rst_eq h1.only.sweep_eq h1.only.frameCounter_eq h1.events h2.events

theorem StagesTaken.congr {v : Nat} {b1 b2 : Bool} {l1 l2 : Nat → Nat} {e1 e2 : List VoiceEnd} {es1 es2 : List RaisedEvent} {s t : State}
    (h : StagesTaken v b1 l1 e1 es1 s t) (hb : b1 = b2) (hl : ∀ k, l1 k = l2 k) (he : e1 = e2) (hes : es1 = es2) :
    StagesTaken v b2 l2 e2 es2 s t := by
  rwa [← hb, ← funext hl, ← he, ← hes]

theorem usesCounted_of_kept {c : Nat} {s t : State} (huses : (clipOf t c).uses = (clipOf s c).uses)
    (hstate : (clipOf t c).state = (clipOf s c).state) : UsesCounted [] 0 c s t := by
  simp [UsesCounted, usesEnded, huses, hstate]

theorem readersCounted_of_kept {k : Nat} {s t : State} (h : slotOf t k = slotOf s k) : ReadersCounted 0 0 k s t := by
  simp [ReadersCounted, h]

/-- A stage that changes voice records and the pending queue alone, as an event of a kind that does not merge does. -/
theorem stagesTaken_of_events {v : Nat} {es : List RaisedEvent} {s t : State}
    (h : t = { s with voices := t.voices, queue := t.queue, lost := t.lost, nextSeq := t.nextSeq }) (hes : AppendsIfRoom es s t) :
    StagesTaken v false (fun _ => 0) [] es s t := by
  have hclip : ∀ c, clipOf t c = clipOf s c := fun c => by rw [h]; rfl
  refine ⟨⟨?_, .inl ?_⟩, ?_, ?_, fun c => usesCounted_of_kept (by rw [hclip]) (by rw [hclip]), fun c _ => by rw [hclip],
    fun k => readersCounted_of_kept ?_, hes⟩
  · rw [h]
  · rw [h]
  · rw [h]
  · rw [staledIf_false, h]
  · rw [h]
    rfl

theorem setVoice_stagesTaken (v : Nat) (x : Voice) (s : State) : StagesTaken v false (fun _ => 0) [] [] s (setVoice v x s) :=
  stagesTaken_of_events rfl (appendsIfRoom_nil rfl)

section
variable (v : Nat) (s : State)

/-- Leaving the head slot. -/
theorem leaveSlot_stagesTaken :
    StagesTaken v false (fun k => if (voiceOf s v).headFlag && (voiceOf s v).headSlot == k then 1 else 0) [] [] s (leaveSlot v s) := by
  have hclip := fun c => clipOf_leaveSlot v c s
  exact ⟨leaveSlot_only v s, leaveSlot_draws v s, by rw [leaveSlot_port, staledIf_false],
    fun c => usesCounted_of_kept (by rw [hclip]) (by rw [hclip]), fun c _ => by rw [hclip], fun k => leaveSlot_readers v k s,
    appendsIfRoom_nil (leaveSlot_queue v s)⟩

/-- Stage 4 from the record: the voice leaves its head slot where it has come to its head length (R151). -/
def comesToHeadLength (x : Voice) (s : State) : Bool := x.headFlag && x.due == (slotOf s x.headSlot).headLength

theorem handOver_eq : handOver v s = if comesToHeadLength (voiceOf s v) s = true then leaveSlot v s else s := by
  simp [handOver, comesToHeadLength]

theorem headFlag_of_comes {x : Voice} {s : State} (h : comesToHeadLength x s = true) : x.headFlag = true := by
  simp only [comesToHeadLength, Bool.and_eq_true] at h
  exact h.1

theorem handOver_stagesTaken :
    StagesTaken v false (fun k => if comesToHeadLength (voiceOf s v) s = true ∧ (voiceOf s v).headSlot = k then 1 else 0) [] [] s
      (handOver v s) := by
  rw [handOver_eq]
  cases hc : comesToHeadLength (voiceOf s v) s
  · simp only [Bool.false_eq_true, false_and, if_false]
    exact stagesTaken_of_events rfl (appendsIfRoom_nil rfl)
  · simpa [headFlag_of_comes hc] using leaveSlot_stagesTaken v s

theorem voiceOf_handOver {v : Nat} (hv : v < 24) (w : Nat) (s : State) :
    voiceOf (handOver v s) w = if v = w then offSlot (comesToHeadLength (voiceOf s v) s) (voiceOf s v) else voiceOf s w := by
  rw [handOver_eq]
  split
  · rename_i hc
    have hflag := headFlag_of_comes hc
    rw [voiceOf_leaveSlot hv]
    split
    · rename_i hw
      subst hw
      simp [offSlot, hc, hflag]
    · rfl
  · rename_i hc
    split
    · rename_i hw
      subst hw
      simp [offSlot, hc]
    · rfl

/-- A handover changes no event's count. -/
theorem handOver_queueAlike :
    (handOver v s).queue = s.queue ∧ (handOver v s).lost = s.lost ∧ (handOver v s).nextSeq = s.nextSeq := by
  rw [handOver_eq]
  split
  · rw [leaveSlot_eq]
    exact ⟨rfl, rfl, rfl⟩
  · exact ⟨rfl, rfl, rfl⟩

/-- A resynchronisation changes voices and the burst in flight. -/
theorem resync_eq : resync v s = { s with voices := (resync v s).voices, port := staledIf v true s.port } := by
  simp only [resync, emptyFifo, staleBurst_eq v Voice.blank .none, staledBy_single]
  rfl

theorem resync_stagesTaken : StagesTaken v true (fun _ => 0) [] [] s (resync v s) := by
  have h := resync_eq v s
  have hclip : ∀ c, clipOf (resync v s) c = clipOf s c := fun c => by rw [h]; rfl
  refine ⟨(emptyFifo_only v s).trans (setVoice_only v _ _), ?_, ?_, fun c => usesCounted_of_kept (by rw [hclip]) (by rw [hclip]),
    fun c _ => by rw [hclip], fun k => readersCounted_of_kept ?_, appendsIfRoom_nil ?_⟩
  · rw [h]
  · rw [h]
  · rw [h]
    rfl
  · rw [h]

theorem voiceOf_resync {v : Nat} (hv : v < 24) (w : Nat) (s : State) :
    voiceOf (resync v s) w = if v = w then resynced (voiceOf s v) else voiceOf s w := by
  simp only [resync, emptyFifo, voiceOf_setVoice, voiceOf_staleBurst, hv, and_self, if_true]
  by_cases hw : v = w
  · subst hw
    simp [hv, resynced]
  · simp [hw]

end

/-! ### The shares (R160, R161) -/

theorem sumOf_bankSet (t : Sums) (b c : Nat) (q : BusSum) : sumOf (bankSet t b q) c = if b = c ∧ c < 4 then q else sumOf t c :=
  bankGet_bankSet ..

theorem sumOf_foldl_shares (x : Voice) (l r : Int) (bs : List Nat) (hbs : bs.Nodup) (t : Sums) {b : Nat} (hb : b < 4) :
    sumOf (bs.foldl (fun u b => if x.mask.getLsbD b then bankSet u b (addToBus x.role l r (sumOf u b)) else u) t) b =
      if b ∈ bs ∧ x.mask.getLsbD b = true then addToBus x.role l r (sumOf t b) else sumOf t b := by
  induction bs generalizing t with
  | nil => simp
  | cons c cs ih =>
    obtain ⟨hc, hcs⟩ := List.nodup_cons.mp hbs
    rw [List.foldl_cons, ih hcs]
    have hstep : sumOf (if x.mask.getLsbD c = true then bankSet t c (addToBus x.role l r (sumOf t c)) else t) b =
        if b = c ∧ x.mask.getLsbD b = true then addToBus x.role l r (sumOf t b) else sumOf t b := by
      by_cases hbc : b = c
      · subst hbc
        split <;> simp_all [sumOf_bankSet]
      · split <;> simp [sumOf_bankSet, hbc, Ne.symm hbc]
    rw [hstep]
    by_cases hbc : b = c
    · subst hbc
      simp [hc]
    · simp [hbc]

/-- Each bus of the mask takes the shares, by the voice's role. -/
theorem sumOf_addShares (x : Voice) (l r : Int) (t : Sums) {b : Nat} (hb : b < 4) :
    sumOf (addShares x l r t) b =
      if x.mask.getLsbD b = false then sumOf t b
      else if x.role = .duckable then
        { sumOf t b with duckLeft := (sumOf t b).duckLeft + l, duckRight := (sumOf t b).duckRight + r }
      else { sumOf t b with
        restLeft := (sumOf t b).restLeft + l, restRight := (sumOf t b).restRight + r
        ducked := (sumOf t b).ducked || x.role == .ducker } := by
  rw [addShares, sumOf_foldl_shares x l r _ List.nodup_range t hb]
  cases hm : x.mask.getLsbD b
  · simp
  · cases hr : x.role <;> simp [hb, addToBus]

/-! ### The frame as far as the end -/

section
variable (v : Nat) (s : State) (x : Voice)

/-- The state behind stage 2, where the voice has the record `x` at its beginning: UNDERRUN is raised at the first one (R153). -/
def frameOutput : State :=
  let s2 := setVoice v (afterFrame (rideStep s.shadow) (takeFrame s x) x) s
  if takeFrame s x = .underrun ∧ x.underruns = 0 then raiseEvent .underrun x.cue v (underrunValue x) s2 else s2

/-- The state behind stage 4. -/
def frameMoved : State :=
  handOver v (setVoice v (afterPosition (afterCounters (afterFrame (rideStep s.shadow) (takeFrame s x) x))) (frameOutput v s x))

/-- The state as stage 5 finds it. -/
def frameReached : State := if takeFrame s x = .underrun then resync v (frameMoved v s x) else frameMoved v s x

/-- The event of the frame of a voice of record `x`. -/
def underrunEvents : List RaisedEvent :=
  if (frameTaken s x).isNone = true ∧ x.underruns = 0 then [(.underrun, x.cue, v, underrunValue x)] else []

/-- Whether the voice leaves its head slot with this frame. -/
def leavesSlot : Bool := x.headFlag && wrapPos x (x.due + 1) == (slotOf s x.headSlot).headLength

/-- The record as stage 5 finds it. -/
def reachedVoice : Voice :=
  let y := offSlot (leavesSlot s x) (advanced (rideStep s.shadow) (frameTaken s x).isNone x)
  if (frameTaken s x).isNone = true then resynced y else y

/-- How the voice ends with this frame, if it does (R135, R137). -/
def reachedEnd : Option EndReason := frameEnd (reachedVoice s x) (x.state == .falling && x.m == x.fallLength)

/-- The state behind the frame of voice `v`, that ends with this reason, if it does. -/
def frameDone (reason : Option EndReason) : State :=
  match reason with
  | none => frameReached v s x
  | some e => endVoice v e (frameReached v s x)

end

section
variable {v : Nat} (s : State) (x : Voice)

theorem voiceOf_frameOutput (w : Nat) : voiceOf (frameOutput v s x) w =
    if v = w ∧ w < 24 then afterFrame (rideStep s.shadow) (takeFrame s x) x else voiceOf s w := by
  simp only [frameOutput]
  split
  · rw [voiceOf_raiseEvent, voiceOf_setVoice]
  · rw [voiceOf_setVoice]

theorem slotOf_frameOutput (k : Nat) : slotOf (frameOutput v s x) k = slotOf s k := by
  simp only [frameOutput]
  split <;> simp [slotOf]

theorem frameOutput_stagesTaken :
    StagesTaken v false (fun _ => 0) [] (underrunEvents v s x) s (frameOutput v s x) := by
  refine stagesTaken_of_events ?_ ?_
  · simp only [frameOutput]
    split
    · rw [raiseEvent_only]
      rfl
    · rfl
  · simp only [frameOutput, underrunEvents, takeFrame_underrun]
    split
    · exact appendsIfRoom_raise rfl _ _ _ (setVoice v _ s)
    · exact appendsIfRoom_nil rfl

/-- The record before the handover. -/
theorem voiceOf_beforeMove (hv : v < 24) (t : State) :
    voiceOf (setVoice v (afterPosition (afterCounters (afterFrame (rideStep s.shadow) (takeFrame s x) x))) t) v =
      advanced (rideStep s.shadow) (frameTaken s x).isNone x := by
  rw [voiceOf_setVoice, if_pos ⟨rfl, hv⟩, advanced_eq]

theorem comesToHeadLength_beforeMove : comesToHeadLength (advanced (rideStep s.shadow) (frameTaken s x).isNone x)
    (setVoice v (afterPosition (afterCounters (afterFrame (rideStep s.shadow) (takeFrame s x) x))) (frameOutput v s x)) =
      leavesSlot s x := by
  rw [comesToHeadLength, slotOf_setVoice, slotOf_frameOutput]
  rfl

section
variable (hv : v < 24)
include hv

theorem voiceOf_frameMoved (w : Nat) : voiceOf (frameMoved v s x) w =
    if v = w then offSlot (leavesSlot s x) (advanced (rideStep s.shadow) (frameTaken s x).isNone x) else voiceOf s w := by
  rw [frameMoved, voiceOf_handOver hv, voiceOf_beforeMove s x hv, comesToHeadLength_beforeMove s x, voiceOf_setVoice,
    voiceOf_frameOutput]
  by_cases hw : v = w <;> simp [hw]

theorem voiceOf_frameReached (w : Nat) : voiceOf (frameReached v s x) w = if v = w then reachedVoice s x else voiceOf s w := by
  simp only [frameReached, reachedVoice, takeFrame_underrun]
  split
  · rw [voiceOf_resync hv, voiceOf_frameMoved s x hv, voiceOf_frameMoved s x hv, if_pos rfl]
    by_cases hw : v = w <;> simp [hw]
  · rw [voiceOf_frameMoved s x hv]

theorem frameMoved_stagesTaken :
    StagesTaken v false (fun k => if leavesSlot s x = true ∧ x.headSlot = k then 1 else 0) [] (underrunEvents v s x) s
      (frameMoved v s x) := by
  have hset := (frameOutput_stagesTaken (v := v) s x).trans
    (setVoice_stagesTaken v (afterPosition (afterCounters (afterFrame (rideStep s.shadow) (takeFrame s x) x))) (frameOutput v s x))
  have hmove := handOver_stagesTaken v
    (setVoice v (afterPosition (afterCounters (afterFrame (rideStep s.shadow) (takeFrame s x) x))) (frameOutput v s x))
  rw [voiceOf_beforeMove s x hv, comesToHeadLength_beforeMove s x] at hmove
  exact (hset.trans hmove).congr rfl (fun k => Nat.zero_add _) rfl (by simp)

theorem frameReached_stagesTaken :
    StagesTaken v (frameTaken s x).isNone (fun k => if leavesSlot s x = true ∧ x.headSlot = k then 1 else 0) []
      (underrunEvents v s x) s (frameReached v s x) := by
  have hmove := frameMoved_stagesTaken s x hv
  simp only [frameReached, takeFrame_underrun]
  split
  · rename_i hunder
    rw [hunder]
    exact (hmove.trans (resync_stagesTaken v _)).congr rfl (fun _ => rfl) rfl (List.append_nil _)
  · rename_i hunder
    rw [Bool.eq_false_iff.mpr hunder]
    exact hmove

/-- The end that comes with the frame. -/
theorem endVoice_stagesTaken (e : EndReason) :
    StagesTaken v true (fun k => (if leavesSlot s x = true ∧ x.headSlot = k then 1 else 0) + readersEnded k [(v, reachedVoice s x, e)])
      [(v, reachedVoice s x, e)] (underrunEvents v s x ++ endEvents s [] [(v, reachedVoice s x, e)]) s
      (endVoice v e (frameReached v s x)) := by
  have hrun := frameReached_stagesTaken s x hv
  have hend := endsTaken_endVoice hv e (frameReached v s x)
  rw [voiceOf_frameReached s x hv, if_pos rfl] at hend
  have hevents := hend.events
  rw [endEvents_behind hrun.uses hrun.base] at hevents
  have hlast : StagesTaken v true (fun k => readersEnded k [(v, reachedVoice s x, e)]) [(v, reachedVoice s x, e)]
      (endEvents s [] [(v, reachedVoice s x, e)]) (frameReached v s x) (endVoice v e (frameReached v s x)) :=
    ⟨hend.only, hend.draws, by rw [hend.port, staledBy_single], hend.uses, hend.base, hend.readers, hevents⟩
  exact (hrun.trans hlast).congr (Bool.or_true _) (fun _ => rfl) rfl rfl

/-- The state that the frame leaves: with the voice ended, if it ends with this frame. -/
theorem frameDone_stagesTaken (reason : Option EndReason) :
    let ends : List VoiceEnd := reason.toList.map (fun e => (v, reachedVoice s x, e))
    StagesTaken v ((frameTaken s x).isNone || reason.isSome)
      (fun k => if x.headFlag = true ∧ x.headSlot = k ∧ (leavesSlot s x = true ∨ reason.isSome = true) then 1 else 0) ends
      (underrunEvents v s x ++ endEvents s [] ends) s (frameDone v s x reason) := by
  have hflag : leavesSlot s x = true → x.headFlag = true := fun h => by
    simp only [leavesSlot, Bool.and_eq_true] at h
    exact h.1
  cases reason with
  | none =>
    refine (frameReached_stagesTaken s x hv).congr (Bool.or_false _).symm (fun k => if_congr ?_ rfl rfl) rfl (List.append_nil _).symm
    simp only [Option.isSome_none, Bool.false_eq_true, or_false]
    exact ⟨fun ⟨hl, hk⟩ => ⟨hflag hl, hk, hl⟩, fun ⟨_, hk, hl⟩ => ⟨hl, hk⟩⟩
  | some e =>
    refine (endVoice_stagesTaken s x hv e).congr (Bool.or_true _).symm (fun k => ?_) rfl rfl
    have hhead : (reachedVoice s x).headFlag = (x.headFlag && !leavesSlot s x) ∧
        (reachedVoice s x).headSlot = if leavesSlot s x = true then 0 else x.headSlot := by
      simp only [reachedVoice]
      split <;> exact ⟨rfl, rfl⟩
    simp only [readersEnded, List.filter_cons, List.filter_nil, hhead.1, hhead.2]
    cases hl : leavesSlot s x
    · cases hf : x.headFlag <;> by_cases hk : x.headSlot = k <;> simp [hk]
    · simp [hflag hl]

theorem voiceOf_frameDone (reason : Option EndReason) (w : Nat) : voiceOf (frameDone v s x reason) w =
    if v = w then (match reason with
      | none => reachedVoice s x
      | some e => endedVoice e (reachedVoice s x)) else voiceOf s w := by
  cases reason with
  | none => exact voiceOf_frameReached s x hv w
  | some e =>
    simp only [frameDone]
    rw [voiceOf_endVoice hv, voiceOf_frameReached s x hv]
    split <;> rfl

end

/-- The queue as the frame leaves it where the voice does not end. -/
theorem frameReached_queueAlike :
    (frameReached v s x).queue = (frameOutput v s x).queue ∧ (frameReached v s x).lost = (frameOutput v s x).lost ∧
      (frameReached v s x).nextSeq = (frameOutput v s x).nextSeq := by
  have hmove := handOver_queueAlike v
    (setVoice v (afterPosition (afterCounters (afterFrame (rideStep s.shadow) (takeFrame s x) x))) (frameOutput v s x))
  simp only [frameReached]
  split
  · rw [resync_eq]
    exact hmove
  · exact hmove

end

/-! ### The frame as a whole -/

/-- The sums behind the frame of a voice of record `x`. -/
def frameShares (s : State) (x : Voice) (t : Sums) : Sums :=
  let x2 := afterFrame (rideStep s.shadow) (takeFrame s x) x
  addShares x2 (shareOf (takeFrame s x).samples.1 x2.lc x2.lastEnv) (shareOf (takeFrame s x).samples.2 x2.lc x2.lastEnv) t

/-- The frame of a sounding voice, by its stages. -/
theorem voiceFrame_of_sounding {v : Nat} {r : FrameRun} (hv : v < 24) (h : sounding (voiceOf r.state v) = true) {x : Voice}
    (hx : afterTail (voiceOf r.state v) = x) {reason : Option EndReason} (hreason : reachedEnd r.state x = reason) :
    voiceFrame v r = ⟨frameDone v r.state x reason, frameShares r.state x r.sums,
      r.follows ++ if reason = some .complete ∧ x.followOn = true then [(v, x.followCue)] else []⟩ := by
  subst hx
  let u := frameReached v r.state (afterTail (voiceOf r.state v))
  have hrec : voiceOf u v = reachedVoice r.state (afterTail (voiceOf r.state v)) :=
    (voiceOf_frameReached _ _ hv v).trans (if_pos rfl)
  have hfollow : (voiceOf u v).followOn = (afterTail (voiceOf r.state v)).followOn ∧
      (voiceOf u v).followCue = (afterTail (voiceOf r.state v)).followCue := by
    rw [hrec]
    simp only [reachedVoice]
    split <;> exact ⟨rfl, rfl⟩
  have hrun : voiceFrame v r =
      match frameEnd (voiceOf u v)
        ((afterTail (voiceOf r.state v)).state == .falling &&
          (afterTail (voiceOf r.state v)).m == (afterTail (voiceOf r.state v)).fallLength) with
      | none => ⟨u, frameShares r.state (afterTail (voiceOf r.state v)) r.sums, r.follows⟩
      | some e => ⟨endVoice v e u, frameShares r.state (afterTail (voiceOf r.state v)) r.sums,
        if e = .complete ∧ (voiceOf u v).followOn = true then r.follows ++ [(v, (voiceOf u v).followCue)] else r.follows⟩ := by
    simp only [voiceFrame, h, if_true]
    rfl
  rw [hfollow.1, hfollow.2, hrec] at hrun
  rw [reachedEnd] at hreason
  rw [hreason] at hrun
  rw [hrun]
  cases reason with
  | none =>
    rw [if_neg (by simp), List.append_nil]
    rfl
  | some e =>
    simp only [Option.some.injEq]
    split
    · rfl
    · rw [List.append_nil]
      rfl

theorem envelope_eq (x : Voice) : envelope x =
    if x.state = .rising then 4096 * x.n / x.fi
    else if x.state = .falling then x.er * (x.fallLength - x.m) / x.fallLength else 4096 := by
  unfold envelope
  cases x.state <;> rfl

/-- The record as stage 5 finds it, field by field. -/
theorem reachedVoice_eq (s : State) (x : Voice) : reachedVoice s x =
    let under := (frameTaken s x).isNone
    let pos := wrapPos x (x.due + 1)
    { x with
      lc := rideLevel (rideStep s.shadow) x.lc x.lt, lastEnv := envelope x, sounded := true, due := pos
      state := if riseOver x = true then .steady else x.state
      boardFlag := x.boardFlag || riseOver x
      n := if x.state = .rising ∧ riseOver x = false then x.n + 1 else x.n
      m := if x.state = .falling ∧ x.m ≠ x.fallLength then x.m + 1 else x.m
      headFlag := x.headFlag && !leavesSlot s x
      headSlot := if leavesSlot s x = true then 0 else x.headSlot
      fifo := if x.headFlag = true then x.fifo else x.fifo.drop 1
      underruns := if under = true then min 65535 (x.underruns + 1) else x.underruns
      epoch := if under = true then x.epoch + 1 else x.epoch
      fetchPos := if under = true then pos else x.fetchPos
      inFlight := if under = true then 0 else x.inFlight } := by
  by_cases hu : (frameTaken s x).isNone = true
  · have hempty : (if x.headFlag = true then x.fifo else x.fifo.drop 1) = [] := by
      unfold frameTaken at hu
      cases hf : x.headFlag
      · rw [hf] at hu
        have hnil : x.fifo = [] := by simpa using hu
        simp [hnil]
      · simp [hf] at hu
    simp only [reachedVoice, hu, if_true, hempty]
    rfl
  · simp only [reachedVoice, if_neg hu]
    rw [Bool.not_eq_true] at hu
    simp only [offSlot, advanced, hu, Bool.false_eq_true, if_false]

/-- The voice ends as a tail, a fall or its effective end has it (R135, R137). -/
theorem reachedEnd_eq (s : State) (x : Voice) : reachedEnd s x =
    if x.loop = false ∧ wrapPos x (x.due + 1) = x.effEnd then some .complete
    else if x.state = .falling ∧ x.m = x.fallLength then some x.fallReason else none := by
  rw [reachedEnd, reachedVoice_eq]
  simp only [frameEnd, Bool.and_eq_true, beq_iff_eq]

/-- Each bus of the mask takes the shares of the frame. -/
theorem sumOf_frameShares (s : State) (x : Voice) (t : Sums) {b : Nat} (hb : b < 4) :
    let f := (frameTaken s x).getD ⟨0, 0⟩
    let l := shareOf f.left.toInt (rideLevel (rideStep s.shadow) x.lc x.lt) (envelope x)
    let r := shareOf f.right.toInt (rideLevel (rideStep s.shadow) x.lc x.lt) (envelope x)
    sumOf (frameShares s x t) b =
      if x.mask.getLsbD b = false then sumOf t b
      else if x.role = .duckable then
        { sumOf t b with duckLeft := (sumOf t b).duckLeft + l, duckRight := (sumOf t b).duckRight + r }
      else { sumOf t b with
        restLeft := (sumOf t b).restLeft + l, restRight := (sumOf t b).restRight + r
        ducked := (sumOf t b).ducked || x.role == .ducker } := by
  simp only [frameShares]
  rw [sumOf_addShares _ _ _ _ hb, takeFrame_samples, afterFrame_eq]

/-- UNDERRUN is raised as at the start of the frame, where the voice does not end with it. -/
theorem frameReached_raises {v : Nat} {s : State} {x : Voice} (h : (frameTaken s x).isNone = true ∧ x.underruns = 0) :
    Raises .underrun x.cue v (underrunValue x) s (frameReached v s x) := by
  refine raises_of_alike (q := setVoice v (afterFrame (rideStep s.shadow) (takeFrame s x) x) s) rfl ⟨rfl, rfl, rfl, rfl, rfl, rfl, rfl⟩ ?_
  have hq := frameReached_queueAlike (v := v) s x
  rw [frameOutput, if_pos (by rwa [takeFrame_underrun])] at hq
  exact hq

theorem frameReached_sameQueue {v : Nat} {s : State} {x : Voice} (h : ¬ ((frameTaken s x).isNone = true ∧ x.underruns = 0)) :
    Same .queue s (frameReached v s x) := by
  have hq := frameReached_queueAlike (v := v) s x
  rw [frameOutput, if_neg (by rwa [takeFrame_underrun])] at hq
  exact hq

theorem length_underrunEvents_le (v : Nat) (s : State) (x : Voice) : (underrunEvents v s x).length ≤ 1 := by
  unfold underrunEvents
  split <;> simp

/-- A step of the Voice Engine that grants nothing. -/
theorem unchangedBut_of_only {s t : State} (h : VoiceOnly s t) (hd : t.draws = s.draws) : unchangedBut voiceParts s t := by
  intro p hp
  have hgranted : granted voiceParts s t = none := by
    rw [granted]
    split
    · rename_i hport
      exact h.2.free_iff.mpr (hport.resolve_right (by simp [voiceParts]))
    · rfl
  rw [hgranted]
  by_cases hw : p = .waiting
  · subst hw
    exact ⟨by rw [h.1], hd⟩
  · exact h.same p (by simp [hw, hp])

/-- Settles O59: the record by its stages, and what they do beside it. -/
theorem voiceFrameFollowsItsStages : Obligations.VoiceFrameFollowsItsStages := by
  intro v r hv hs s o er x step lc env under f left right pos leaves risen y reason t ends underrun
  have hx : afterTail (voiceOf r.state v) = x := afterTail_eq hs
  have henv : envelope x = env := envelope_eq x
  have hy : reachedVoice s x = y := by
    rw [reachedVoice_eq, henv]
    rfl
  have hreason : reachedEnd s x = reason := reachedEnd_eq s x
  have hrun : t = ⟨frameDone v s x reason, frameShares s x r.sums, _⟩ := voiceFrame_of_sounding hv hs hx hreason
  have hrec := fun w => voiceOf_frameDone s x hv reason w
  have hstages := frameDone_stagesTaken s x hv reason
  rw [hy] at hrec hstages
  have hsums := fun b (hb : b < 4) => sumOf_frameShares s x r.sums hb
  rw [henv] at hsums
  rw [hrun]
  clear_value x y reason env
  refine ⟨?_, fun w hw => ?_, fun b hb => ?_, hsums, rfl, fun hnone => ?_, fun hroom => ?_, fun c _ => hstages.uses c,
    fun k _ => hstages.readers k, ?_⟩
  · exact (hrec v).trans (if_pos rfl)
  · exact (hrec w).trans (if_neg hw.symm)
  · have hport := hstages.port
    rw [hb] at hport
    exact hport
  · subst hnone
    exact ⟨frameReached_raises, frameReached_sameQueue⟩
  · refine hstages.events (canAppend_mono ?_ hroom)
    rw [List.length_append]
    exact Nat.add_le_add (length_underrunEvents_le v s x) (length_endEvents_le s [] _)
  · exact unchangedBut_of_only hstages.only hstages.draws

end Sys2Proof.Machine
end

section
/-!
PROOF. FIRE refused, by a check or by an IGNORE cue's own voice (O36).
-/

namespace Sys2Proof.Machine

/-- The code that refuses a fire of cue record `c`: the checks in their order, then an IGNORE cue's own voice (R82, R125). -/
def fireRefusal (f : Fire) (c : CueRecord) (s : State) : Option ResultCode :=
  (fireChecks f c s).or (if ignoreBlocks s f.cue c = true then some .alreadyPlaying else none)

/-- A refused fire changes nothing (R83, R124). -/
theorem processFire_refused {f : Fire} {s : State} {code : ResultCode} (h : fireRefusal f (cueRecord s.shadow f.cue) s = some code) :
    processFire f s = (s, code) := by
  unfold fireRefusal at h
  rcases hc : fireChecks f (cueRecord s.shadow f.cue) s with _ | check <;> rw [hc] at h
  · obtain ⟨hi, rfl⟩ : ignoreBlocks s f.cue (cueRecord s.shadow f.cue) = true ∧ ResultCode.alreadyPlaying = code := by simpa using h
    simp [processFire, hc, hi]
  · obtain rfl : check = code := by simpa using h
    simp [processFire, hc]

section
variable {s : State} {m : PortMerge}

/-- Behind the trigger's merge a FIRE is refused as before it. -/
theorem fireRefusal_bodyStart (f : Fire) (c : CueRecord) : fireRefusal f c (bodyStart m s) = fireRefusal f c s := rfl

theorem ringFire_preview : (ringFire s m).preview = false ↔ ¬ (argsOf s m).b1 % 2 = 1 := by simp [ringFire]

/-- A FIRE's refusal as one chain. -/
theorem fireRefusal_ringFire (c : CueRecord) : fireRefusal (ringFire s m) c s =
    if panicAsserted s = true then some .panicHeld
    else if c.armed = false then some .cueNotArmed
    else if (clipOf s c.clip).state ≠ .ready then some .clipNotReady
    else if effectiveEnd c (clipOf s c.clip).length ≤ c.start then some .cueRange
    else if ¬ (argsOf s m).b1 % 2 = 1 ∧ c.mask = 0 then some .noRoute
    else if ignoreBlocks s (ringFire s m).cue c = true then some .alreadyPlaying
    else none := by
  simp only [fireRefusal, fireChecks, ringFire_preview]
  split_ifs <;> rfl

theorem ignoreBlocks_iff (cue : Nat) (c : CueRecord) : ignoreBlocks s cue c = true ↔
    c.retrigger = .ignore ∧ (List.range 24).any (fun v => (voiceOf s v).cue == cue &&
      ((voiceOf s v).state == .priming || (voiceOf s v).state == .rising || (voiceOf s v).state == .steady)) = true := by
  rw [ignoreBlocks, Bool.and_eq_true, beq_iff_eq]
  rfl

end

/-- Settles O36: the chain is the refusal that fire processing finds, and a body that refuses leaves the take alone. -/
theorem fireIsRefusedByFirstFailingCheck : Obligations.FireIsRefusedByFirstFailingCheck := by
  intro s m hs h cue preview c e stop verdict code hverdict
  have hcode : fireRefusal (ringFire s m) c s = some code := by
    rw [fireRefusal_ringFire, ← hverdict]
    simp only [ignoreBlocks_iff]
    rfl
  rw [← fireRefusal_bodyStart] at hcode
  have hfire : processFire (ringFire s m) (bodyStart m s) = (bodyStart m s, code) :=
    processFire_refused (by rw [cueRecord_ringFire hs h]; exact hcode)
  exact exec_refused (i := .fire) hs h (by decide) hfire

end Sys2Proof.Machine
end

section
/-!
PROOF. CUE_LEVEL_EDIT (O33).
-/

namespace Sys2Proof.Machine

/-- A voice as a change of a cue's level leaves it (R81). -/
def levelEdited (cue level : Nat) (x : Voice) : Voice :=
  if x.cue = cue ∧ x.state ≠ .idle then { x with lt := min level 8192 } else x

/-- The pass of a level edit over the voices: it ends none. -/
theorem voiceOf_levelEdit (cue level : Nat) (s : State) {v : Nat} (hv : v < 24) :
    voiceOf (levelEdit cue level s) v = levelEdited cue level (voiceOf s v) := by
  have hsets := eachVoice_reached (r := .none) (p := fun _ x => x.cue == cue && x.state != .idle)
    (y := fun _ x => { x with lt := min level 8192 }) (f := fun v t => setVoice v { voiceOf t v with lt := min level 8192 } t)
    (s := s) (reached := fun v => levelEdited cue level (voiceOf s v))
    (fun v t hv hp => voiceReached_set hv .none (by simpa using (Bool.and_eq_true_iff.mp hp).2) t)
    (fun v => by simp [levelEdited])
  exact hsets.1 v hv

/-- A level edit changes voice records alone. -/
theorem levelEdit_voices (cue level : Nat) (s : State) : levelEdit cue level s = { s with voices := (levelEdit cue level s).voices } := by
  unfold levelEdit eachVoice
  generalize List.range 24 = vs
  induction vs generalizing s with
  | nil => rfl
  | cons v vs ih =>
    rw [List.foldl_cons, ih]
    split <;> rfl

section
variable {s : State} {m : PortMerge}

/-- A merge that changes a cue's level is the word's own write and the level edit (R25, R81). -/
theorem performMerge_levelEdit (h : isLevelEdit m s = true) :
    performMerge m s = levelEdit m.cue (cueLevel (mergedShadow m s.shadow) m.cue) (mergeWord m s) := by
  obtain ⟨hdeck, hlevel⟩ : regionPart m.off = .deck ∧ ¬ cueLevel s.shadow m.cue = cueLevel (mergedShadow m s.shadow) m.cue := by
    simpa [isLevelEdit] using h
  rw [performMerge, hdeck]
  exact if_neg hlevel

/-- The word's own write in the Cue Deck changes the parts every merge changes. -/
theorem same_mergeWord_deck (hdeck : regionPart m.off = .deck) {p : Part} (hp : p ∉ mergeParts) : Same p s (mergeWord m s) := by
  cases p
  case path | port | mem | shadow | writeBacks => exact absurd (by simp [mergeParts]) hp
  case stale =>
    intro b _ hb
    cases hb
  all_goals simp [Same, Kept, mergeWord, accessDone, portFree, PortMerge.isSlotWord, hdeck, servedVoice, voiceOf, marksLeft, againLeft,
    CopyLeft]

end

/-- Settles O33: the word's own write, then the pass over the voices of the cue. -/
theorem levelEditReachesVoicesOfCue : Obligations.LevelEditReachesVoicesOfCue := by
  intro s m _ hm hp
  have hdeck : regionPart m.off = .deck := by
    simp only [isLevelEdit, Bool.and_eq_true, beq_iff_eq] at hp
    exact hp.1
  have hport := performMerge_port m s
  have hvoices := fun v (hv : v < 24) => voiceOf_levelEdit m.cue (cueLevel (mergedShadow m s.shadow) m.cue) (mergeWord m s) hv
  have honly := levelEdit_voices m.cue (cueLevel (mergedShadow m s.shadow) m.cue) (mergeWord m s)
  rw [← performMerge_levelEdit hp] at hvoices honly
  refine ⟨_, exec_merges (i := .cueLevelEdit) (by simp [mergeRows]) hp hm, fun v hv => ?_, unchangedBut_arbitrated (fun p hq => ?_) ?_⟩
  · have hshadow : (arbitrate (performMerge m s)).shadow = mergedShadow m s.shadow := by
      rw [arbitrate_shadow, honly]
      rfl
    rw [voiceOf_arbitrate_free hport, hvoices v hv, hshadow]
    rfl
  · obtain ⟨hmerge, hvoice⟩ : p ∉ mergeParts ∧ p ≠ .voices := by simpa [not_or] using hq
    have hpp : p ≠ .port := fun he => hmerge (by simp [he, mergeParts])
    by_cases hstale : p = .stale
    · subst hstale
      intro b _ hb
      exact absurd (hport.symm.trans hb) (by simp)
    · exact same_trans hpp hstale (same_mergeWord_deck hdeck hmerge) (same_of_voices honly hvoice)
  · simp [hport, mergeParts]

end Sys2Proof.Machine
end

section
/-!
SUPPORT. The forming of a bus (R161 to R165): the record it gives the bus, whether a side clamps, and what both depend on.
-/

namespace Sys2Proof.Machine

section
variable (sums : Sums) (b : Nat) (s : State)

/-- The duck gain of bus `b` once it has stepped (R161, R162). -/
def steppedDuck : Nat :=
  stepDuck (duckDown s.shadow b) (duckUp s.shadow b) (duckTarget s (sumOf sums b).ducked b) (busOf s b).duck

/-- The left side of bus `b` before its limit (R163). -/
def trimmedLeft : Int := trimmed (sumOf sums b).duckLeft (sumOf sums b).restLeft (steppedDuck sums b s) (trim s.shadow b)

/-- The right side of bus `b` before its limit (R163). -/
def trimmedRight : Int := trimmed (sumOf sums b).duckRight (sumOf sums b).restRight (steppedDuck sums b s) (trim s.shadow b)

/-- A side of bus `b` clamps (R164). -/
def busClamps : Bool := clips (trimmedLeft sums b s) || clips (trimmedRight sums b s)

/-- The record of bus `b` once it is formed. -/
def formedBus : Bus :=
  let l := clampSample (trimmedLeft sums b s)
  let r := clampSample (trimmedRight sums b s)
  ⟨steppedDuck sums b s, satAdd 65535 (busOf s b).clips (bit (clips (trimmedLeft sums b s)) + bit (clips (trimmedRight sums b s))), l, r,
    if play s.shadow then l else 0, if play s.shadow then r else 0⟩

/-- A bus formed is its record written, and one event where a side clamps. -/
theorem formBus_eq : formBus sums b s =
    if busClamps sums b s = true then
      raiseEvent .busClip b (bit (clips (trimmedLeft sums b s)) + 2 * bit (clips (trimmedRight sums b s)))
        (BitVec.ofInt 32 (if clips (trimmedLeft sums b s) then trimmedLeft sums b s else trimmedRight sums b s))
        (setBus b (formedBus sums b s) s)
    else setBus b (formedBus sums b s) s := rfl

/-- Forming a bus changes the buses and the pending queue alone. -/
theorem formBus_only : formBus sums b s = { s with
    buses := (formBus sums b s).buses, queue := (formBus sums b s).queue, lost := (formBus sums b s).lost
    nextSeq := (formBus sums b s).nextSeq } := by
  rw [formBus_eq]
  split
  · rw [raiseEvent_only]
    rfl
  · rfl

theorem formBus_buses : (formBus sums b s).buses = (setBus b (formedBus sums b s) s).buses := by
  rw [formBus_eq]
  split
  · rw [raiseEvent_only]
  · rfl

theorem busOf_formBus (a : Nat) : busOf (formBus sums b s) a = if b = a ∧ a < 4 then formedBus sums b s else busOf s a := by
  rw [busOf, formBus_buses]
  exact busOf_setBus ..

theorem formBus_quiet {sums : Sums} {b : Nat} {s : State} (h : busClamps sums b s = false) :
    formBus sums b s = setBus b (formedBus sums b s) s := by
  rw [formBus_eq, h]
  rfl

end

/-- The duck target, as the sums and TALK give it (R161). -/
theorem duckTarget_eq (s : State) (ducked : Bool) (b : Nat) : duckTarget s ducked b =
    if ducked = true ∨ talkAsserted s = true ∧ talkEnable s.shadow = true ∧ talkDuck s.shadow b = true then duckDepth s.shadow b
    else 4096 := by
  simp only [duckTarget, Bool.or_eq_true, Bool.and_eq_true, and_assoc]

theorem clips_iff (q : Int) : clips q = true ↔ q < -32768 ∨ 32767 < q := by simp [clips]

theorem clampSample_eq (q : Int) : clampSample q = max (-32768) (min 32767 q) := by
  unfold clampSample
  split_ifs <;> omega

theorem bit_clips (q : Int) : bit (clips q) = if q < -32768 ∨ 32767 < q then 1 else 0 := by simp only [bit, clips_iff]

theorem bit_eq_one (x : Bool) : bit x = 1 ↔ x = true := by cases x <;> simp [bit]

theorem busClamps_iff (sums : Sums) (b : Nat) (s : State) :
    busClamps sums b s = true ↔ 0 < bit (clips (trimmedLeft sums b s)) + bit (clips (trimmedRight sums b s)) := by
  unfold busClamps
  cases clips (trimmedLeft sums b s) <;> cases clips (trimmedRight sums b s) <;> simp [bit]

/-- A bus whose clip counter stays, below its ceiling, has not clamped (R164). -/
theorem busClamps_of_clips {sums : Sums} {b : Nat} {s : State} (hb : b < 4)
    (h : (busOf (formBus sums b s) b).clips = (busOf s b).clips) (hlow : (busOf s b).clips < 65535) : busClamps sums b s = false := by
  rw [busOf_formBus, if_pos ⟨rfl, hb⟩] at h
  rw [Bool.eq_false_iff, Ne, busClamps_iff]
  simp only [formedBus, satAdd] at h
  omega

/-- An event of a merging kind too depends on the queue, its counts, the stamp, RST#, the sweep and the port alone. -/
theorem raises_of_queueAlike {k : EventKind} {a b : Nat} {value : Word} {p s u : State} (h : QueueAlike p s)
    (hu : u.queue = (raiseEvent k a b value s).queue ∧ u.lost = (raiseEvent k a b value s).lost ∧
      u.nextSeq = (raiseEvent k a b value s).nextSeq) : Raises k a b value p u := by
  have hgrant := raises_arbitrate h hu
  rwa [Raises, arbitrate_queue, arbitrate_lost, arbitrate_nextSeq] at hgrant

/-- A bus of which a side clamps raises one BUS_CLIP (R164). -/
theorem formBus_raises {sums : Sums} {b : Nat} {s : State} (h : busClamps sums b s = true) :
    Raises .busClip b (bit (clips (trimmedLeft sums b s)) + 2 * bit (clips (trimmedRight sums b s)))
      (BitVec.ofInt 32 (if clips (trimmedLeft sums b s) = true then trimmedLeft sums b s else trimmedRight sums b s)) s
      (formBus sums b s) := by
  rw [formBus_eq, if_pos h]
  exact raises_of_queueAlike (s := setBus b (formedBus sums b s) s) ⟨rfl, rfl, rfl, rfl, rfl, rfl, rfl⟩ ⟨rfl, rfl, rfl⟩

/-- A step outside the grant that leaves the port keeps every part by itself. -/
theorem unchangedBut_of_same {ps : List Part} {s t : State} (hport : t.port = s.port) (hps : .port ∉ ps)
    (h : ∀ p, p ∉ ps → Same p s t) : unchangedBut ps s t := by
  have hgranted : granted ps s t = none := by
    rw [granted]
    split
    · rename_i hfree
      rw [hport]
      exact hfree.resolve_right hps
    · rfl
  rw [unchangedBut, hgranted]
  exact h

end Sys2Proof.Machine
end

section
/-!
SUPPORT. A voice's frame reads neither the Frame Clock nor the board interval count: with other values of these it gives the same.
-/

namespace Sys2Proof.Machine

/-- The state with other values of the Frame Clock and of the board interval count. -/
def reclocked (c : FrameClock) (n : Nat) (s : State) : State := { s with clock := c, boardCount := n }

section
variable (c : FrameClock) (n : Nat) (s : State)

theorem raiseEvent_reclocked (k : EventKind) (a b : Nat) (value : Word) :
    raiseEvent k a b value (reclocked c n s) = reclocked c n (raiseEvent k a b value s) := by
  simp only [raiseEvent, apply_ite (reclocked c n)]
  rfl

theorem dropReader_reclocked (k : Nat) : dropReader k (reclocked c n s) = reclocked c n (dropReader k s) := by
  simp only [dropReader, apply_ite (reclocked c n)]
  rfl

theorem leaveSlot_reclocked (v : Nat) : leaveSlot v (reclocked c n s) = reclocked c n (leaveSlot v s) := by
  simp only [leaveSlot, apply_ite (reclocked c n), ← dropReader_reclocked]
  rfl

theorem staleBurst_reclocked (v : Nat) : staleBurst v (reclocked c n s) = reclocked c n (staleBurst v s) := by
  rw [staleBurst_eq v Voice.blank .none, staleBurst_eq v Voice.blank .none]
  rfl

theorem emptyFifo_reclocked (v : Nat) : emptyFifo v (reclocked c n s) = reclocked c n (emptyFifo v s) := by
  simp only [emptyFifo, ← staleBurst_reclocked]
  rfl

theorem lowerUse_reclocked (k : Nat) : lowerUse k (reclocked c n s) = reclocked c n (lowerUse k s) := by
  simp only [lowerUse, apply_ite (reclocked c n), ← raiseEvent_reclocked]
  rfl

theorem endVoice_reclocked (v : Nat) (reason : EndReason) : endVoice v reason (reclocked c n s) = reclocked c n (endVoice v reason s) := by
  simp only [endVoice, ← lowerUse_reclocked, ← raiseEvent_reclocked, ← emptyFifo_reclocked, ← leaveSlot_reclocked]
  rfl

theorem handOver_reclocked (v : Nat) : handOver v (reclocked c n s) = reclocked c n (handOver v s) := by
  simp only [handOver, apply_ite (reclocked c n), ← leaveSlot_reclocked]
  rfl

theorem resync_reclocked (v : Nat) : resync v (reclocked c n s) = reclocked c n (resync v s) := by
  simp only [resync, emptyFifo_reclocked]
  rfl

section
variable (v : Nat) (x : Voice)

theorem frameOutput_reclocked : frameOutput v (reclocked c n s) x = reclocked c n (frameOutput v s x) := by
  simp only [frameOutput, apply_ite (reclocked c n), ← raiseEvent_reclocked]
  rfl

theorem frameMoved_reclocked : frameMoved v (reclocked c n s) x = reclocked c n (frameMoved v s x) := by
  simp only [frameMoved, frameOutput_reclocked, ← handOver_reclocked]
  rfl

theorem frameReached_reclocked : frameReached v (reclocked c n s) x = reclocked c n (frameReached v s x) := by
  simp only [frameReached, frameMoved_reclocked, resync_reclocked, apply_ite (reclocked c n)]
  rfl

theorem frameDone_reclocked (reason : Option EndReason) :
    frameDone v (reclocked c n s) x reason = reclocked c n (frameDone v s x reason) := by
  cases reason with
  | none => exact frameReached_reclocked c n s v x
  | some e =>
    simp only [frameDone, frameReached_reclocked]
    exact endVoice_reclocked c n _ v e

end

/-- The frame of a sounding voice is the same, and leaves those values. -/
theorem voiceFrame_reclocked {v : Nat} (hv : v < 24) (h : sounding (voiceOf s v) = true) (sums : Sums) (follows : List (Nat × Nat)) :
    voiceFrame v ⟨reclocked c n s, sums, follows⟩ =
      ⟨reclocked c n (voiceFrame v ⟨s, sums, follows⟩).state, (voiceFrame v ⟨s, sums, follows⟩).sums,
        (voiceFrame v ⟨s, sums, follows⟩).follows⟩ := by
  rw [voiceFrame_of_sounding (r := ⟨reclocked c n s, sums, follows⟩) hv h rfl rfl,
    voiceFrame_of_sounding (r := ⟨s, sums, follows⟩) hv h rfl rfl, frameDone_reclocked]
  rfl

end

end Sys2Proof.Machine
end

section
/-!
SUPPORT. The tasks of a frame event: each comes once, whatever the order; what the forming of the buses leaves, wherever a follow fire
stands among it.
-/

namespace Sys2Proof.Machine

/-! ### Orders -/

theorem nodup_eraseDups {α : Type} [BEq α] [LawfulBEq α] : ∀ xs : List α, xs.eraseDups.Nodup
  | [] => by simp
  | x :: xs => by
    rw [List.eraseDups_cons, List.nodup_cons]
    exact ⟨by simp, nodup_eraseDups _⟩
termination_by xs => xs.length
decreasing_by exact Nat.lt_succ_of_le (List.length_filter_le _ _)

theorem mem_orderTasks {choice tasks : List FrameTask} {k : FrameTask} : k ∈ orderTasks choice tasks ↔ k ∈ tasks := by
  simp only [orderTasks, List.mem_append, List.mem_eraseDups, List.mem_filter, List.contains_iff_mem, Bool.not_eq_true',
    ← Bool.not_eq_true]
  tauto

theorem nodup_orderTasks {choice tasks : List FrameTask} (h : tasks.Nodup) : (orderTasks choice tasks).Nodup := by
  refine List.nodup_append'.mpr ⟨nodup_eraseDups _, h.filter _, fun k hnamed hrest => ?_⟩
  simp only [List.mem_eraseDups, List.mem_filter, List.contains_iff_mem, Bool.not_eq_true', ← Bool.not_eq_true]
    at hnamed hrest
  exact hrest.2 hnamed.1

/-- A fold whose tasks do nothing. -/
theorem foldl_of_idle {α β : Type} {f : β → α → β} {xs : List α} (h : ∀ a ∈ xs, ∀ b, f b a = b) (b : β) :
    xs.foldl f b = b := by
  induction xs with
  | nil => rfl
  | cons a xs ih =>
    rw [List.foldl_cons, h a (by simp)]
    exact ih fun c hc => h c (by simp [hc])

/-- A task that comes once, with others before and behind it. -/
theorem split_once {α : Type} {xs : List α} {k : α} (hn : xs.Nodup) (hk : k ∈ xs) :
    ∃ pre post, xs = pre ++ k :: post ∧ k ∉ pre ∧ k ∉ post ∧ pre.Nodup ∧ post.Nodup ∧ ∀ a ∈ pre, a ∉ post := by
  obtain ⟨pre, post, rfl⟩ := List.append_of_mem hk
  obtain ⟨hpre, hpost, hapart⟩ := List.nodup_append'.mp hn
  obtain ⟨hkpost, hpost⟩ := List.nodup_cons.mp hpost
  exact ⟨pre, post, rfl, fun h => hapart h (by simp), hkpost, hpre, hpost, fun a ha hb => hapart ha (by simp [hb])⟩

/-! ### The first phase with one sounding voice -/

/-- In FREERUN, with one sounding voice, the first phase is that voice's frame. -/
theorem foldl_firstTask_lone {ks : List FrameTask} {v : Nat} (hn : ks.Nodup) (hv : .voice v ∈ ks)
    (hks : ∀ k ∈ ks, k = .voice v ∨ k = .clock) (r : FrameRun) :
    ks.foldl (fun r k => firstTask none k r) r = voiceFrame v r := by
  obtain ⟨pre, post, rfl, hpre, hpost, -⟩ := split_once hn hv
  have hidle : ∀ k, k = .voice v ∨ k = .clock → k ≠ .voice v → ∀ r, firstTask none k r = r := by
    rintro k (rfl | rfl) hne r
    · exact absurd rfl hne
    · rfl
  rw [List.foldl_append, List.foldl_cons,
    foldl_of_idle fun k hk => hidle k (hks k (by simp [hk])) fun he => hpre (he ▸ hk),
    foldl_of_idle fun k hk => hidle k (hks k (by simp [hk])) fun he => hpost (he ▸ hk)]
  rfl

/-! ### What the forming of a bus depends on -/

/-- What the forming of bus `b` depends on is the same in `s` and `t`: the Setup Block, the TALK line and the bus itself. -/
structure BusAlike (b : Nat) (s t : State) : Prop where
  shadow : t.shadow = s.shadow
  lines : t.lines = s.lines
  bus : busOf t b = busOf s b

section
variable {sums : Sums} {b : Nat} {s t u : State}

theorem BusAlike.refl (b : Nat) (s : State) : BusAlike b s s := ⟨rfl, rfl, rfl⟩

theorem BusAlike.trans (h1 : BusAlike b s t) (h2 : BusAlike b t u) : BusAlike b s u :=
  ⟨h2.shadow.trans h1.shadow, h2.lines.trans h1.lines, h2.bus.trans h1.bus⟩

theorem BusAlike.steppedDuck_eq (h : BusAlike b s t) : steppedDuck sums b t = steppedDuck sums b s := by
  have htalk : talkAsserted t = talkAsserted s := by rw [talkAsserted, lineOf, h.lines, talkAsserted, lineOf]
  rw [steppedDuck, steppedDuck, duckTarget, duckTarget, htalk, h.shadow, h.bus]

theorem BusAlike.formedBus_eq (h : BusAlike b s t) : formedBus sums b t = formedBus sums b s := by
  simp only [formedBus, trimmedLeft, trimmedRight, h.steppedDuck_eq, h.shadow, h.bus]

theorem BusAlike.busClamps_eq (h : BusAlike b s t) : busClamps sums b t = busClamps sums b s := by
  simp only [busClamps, trimmedLeft, trimmedRight, h.steppedDuck_eq, h.shadow]

theorem VoiceOnly.buses_eq (h : VoiceOnly s t) : t.buses = s.buses := by rw [h.1]

theorem VoiceOnly.busAlike (h : VoiceOnly s t) : BusAlike b s t :=
  ⟨h.shadow_eq, h.lines_eq, by rw [busOf, busOf, h.buses_eq]⟩

theorem formBus_busAlike {a : Nat} (h : b ≠ a) : BusAlike a s (formBus sums b s) :=
  ⟨by rw [formBus_only], by rw [formBus_only], by rw [busOf_formBus, if_neg fun hb => h hb.1]⟩

end

/-! ### The buses behind the second phase -/

section
variable (sums : Sums) (follows : List (Nat × Nat))

/-- A task of the second phase, in a frame event without an event of the Frame Clock. -/
def laterStep (s : State) (k : FrameTask) : State := laterTask none sums follows k s

/-- A task other than the forming of bus `b` leaves what that depends on. -/
theorem laterStep_busAlike {b : Nat} {k : FrameTask} (h : k ≠ .bus b) (s : State) : BusAlike b s (laterStep sums follows s k) := by
  cases k with
  | voice v => exact BusAlike.refl b s
  | clock => exact BusAlike.refl b s
  | bus a => exact formBus_busAlike fun he => h (by rw [he])
  | timer n => exact (fireReported_only _ s).busAlike
  | follow v =>
    simp only [laterStep, laterTask]
    split
    · exact (fireReported_only _ s).busAlike
    · exact BusAlike.refl b s

theorem foldl_laterStep_busAlike {b : Nat} {ks : List FrameTask} (h : .bus b ∉ ks) (s : State) :
    BusAlike b s (ks.foldl (laterStep sums follows) s) := by
  induction ks generalizing s with
  | nil => exact BusAlike.refl b s
  | cons k ks ih =>
    obtain ⟨hk, hks⟩ : FrameTask.bus b ≠ k ∧ .bus b ∉ ks := by simpa [not_or] using h
    exact (laterStep_busAlike sums follows hk.symm s).trans (ih hks _)

/-- The second phase forms a bus from the sums, whatever comes before it and behind it. -/
theorem busOf_foldl_laterStep {b : Nat} (hb : b < 4) {ks : List FrameTask} (hn : ks.Nodup) (hmem : .bus b ∈ ks) (s : State) :
    busOf (ks.foldl (laterStep sums follows) s) b = formedBus sums b s := by
  obtain ⟨pre, post, rfl, hpre, hpost, -⟩ := split_once hn hmem
  rw [List.foldl_append, List.foldl_cons]
  have hbefore := foldl_laterStep_busAlike sums follows hpre s
  generalize pre.foldl (laterStep sums follows) s = q at hbefore
  rw [(foldl_laterStep_busAlike sums follows hpost _).bus]
  change busOf (formBus sums b q) b = _
  rw [busOf_formBus, if_pos ⟨rfl, hb⟩, hbefore.formedBus_eq]

end

/-! ### The forming of buses alone -/

/-- `t` is `s` but for the Frame Clock, the board interval count, the buses and the pending queue. -/
def MixOnly (s t : State) : Prop :=
  t = { s with
    clock := t.clock, boardCount := t.boardCount, buses := t.buses, queue := t.queue, lost := t.lost, nextSeq := t.nextSeq }

theorem MixOnly.refl (s : State) : MixOnly s s := rfl

theorem MixOnly.trans {s t u : State} (h1 : MixOnly s t) (h2 : MixOnly t u) : MixOnly s u := by
  unfold MixOnly at *
  rw [h2, h1]

theorem mixOnly_reclocked (c : FrameClock) (n : Nat) (s : State) : MixOnly s (reclocked c n s) := rfl

theorem mixOnly_formBus (sums : Sums) (b : Nat) (s : State) : MixOnly s (formBus sums b s) := by
  unfold MixOnly
  rw [formBus_only]

theorem mixOnly_raise (k : EventKind) (a b : Nat) (value : Word) (s : State) : MixOnly s (raiseEvent k a b value s) := by
  unfold MixOnly
  rw [raiseEvent_only]

/-- The parts of the frame that it may change. -/
def mixParts : List Part := [.clock, .buses, .interval]

theorem MixOnly.port_eq {s t : State} (h : MixOnly s t) : t.port = s.port := by rw [h]

theorem MixOnly.same {p : Part} {s t : State} (h : MixOnly s t) (hp : p ∉ mixParts) (hq : p ≠ .queue ∨ Same .queue s t) :
    Same p s t := by
  cases p
  case clock | buses | interval => exact absurd (by simp [mixParts]) hp
  case queue => exact hq.resolve_left (by simp)
  case stale =>
    rw [h]
    exact same_refl .stale s
  all_goals
    rw [h]
    simp [Same, Kept, servedVoice, writeBacksLeft, marksLeft, againLeft, CopyLeft, voiceOf]

/-- A task that forms a bus, or is the Frame Clock's. -/
def Mixes (k : FrameTask) : Prop := k = .clock ∨ ∃ b, b < 4 ∧ k = .bus b

section
variable (sums : Sums) (follows : List (Nat × Nat))

theorem foldl_laterStep_mixOnly {ks : List FrameTask} (hks : ∀ k ∈ ks, Mixes k) (s : State) :
    MixOnly s (ks.foldl (laterStep sums follows) s) := by
  induction ks generalizing s with
  | nil => exact MixOnly.refl s
  | cons k ks ih =>
    refine MixOnly.trans ?_ (ih (fun j hj => hks j (by simp [hj])) _)
    rcases hks k (by simp) with rfl | ⟨b, -, rfl⟩
    · exact MixOnly.refl s
    · exact mixOnly_formBus sums b s

/-- Buses of which none clamps are formed without an event. -/
theorem foldl_laterStep_quiet {ks : List FrameTask} (hn : ks.Nodup) (hks : ∀ k ∈ ks, Mixes k) {s : State}
    (h : ∀ b, .bus b ∈ ks → busClamps sums b s = false) : Same .queue s (ks.foldl (laterStep sums follows) s) := by
  induction ks generalizing s with
  | nil => exact same_refl .queue s
  | cons k ks ih =>
    obtain ⟨hk, hn⟩ := List.nodup_cons.mp hn
    have hrest : ∀ b, .bus b ∈ ks → busClamps sums b (laterStep sums follows s k) = false := fun b hb => by
      rw [(laterStep_busAlike sums follows (fun he : k = .bus b => hk (he ▸ hb)) s).busClamps_eq]
      exact h b (by simp [hb])
    refine same_trans (by simp) (by simp) ?_ (ih hn (fun j hj => hks j (by simp [hj])) hrest)
    rcases hks k (by simp) with rfl | ⟨b, -, rfl⟩
    · exact same_refl .queue s
    · change Same .queue s (formBus sums b s)
      rw [formBus_quiet (h b (by simp))]
      exact ⟨rfl, rfl, rfl⟩

end

end Sys2Proof.Machine
end

section
/-!
PROOF. A bus formed, and the frame event in FREERUN of one sounding voice (O60).
-/

namespace Sys2Proof.Machine

/-! ### A fire among the forming of the buses -/

section
variable {f : Fire} {p q u : State} {alone : Prop} (hq : MixOnly p q) (hu : MixOnly (fireReported f q) u)
  (hquiet : alone → Same .queue p q ∧ Same .queue (fireReported f q) u)
include hq

theorem MixOnly.fireChecks_eq (c : CueRecord) : fireChecks f c q = fireChecks f c p := by
  rw [show q = _ from hq]
  rfl

theorem MixOnly.ignoreBlocks_eq (cue : Nat) (c : CueRecord) : ignoreBlocks q cue c = ignoreBlocks p cue c := by
  rw [show q = _ from hq]
  rfl

theorem MixOnly.cueRecord_eq (cue : Nat) : cueRecord q.shadow cue = cueRecord p.shadow cue := by
  rw [show q = _ from hq]

theorem MixOnly.voiceOf_eq (v : Nat) : voiceOf q v = voiceOf p v := by
  rw [show q = _ from hq]
  rfl

theorem MixOnly.clipOf_eq (c : Nat) : clipOf q c = clipOf p c := by
  rw [show q = _ from hq]
  rfl

/-- The queue alike too, an event is raised as before. -/
theorem MixOnly.queueAlike (h : Same .queue p q) : QueueAlike p q := by
  refine ⟨?_, ?_, hq.port_eq, ?_, h⟩ <;> rw [show q = _ from hq]

/-- What a fire that starts leaves is told from the state before the mixing. -/
theorem FireStarted.mixed {v : Nat} {head : Option Nat} {x : Voice} {t : State} (h : FireStarted f v head x q t) :
    (∀ k, head = some k ↔ GetsHead (cueRecord p.shadow f.cue) p k) ∧ SnapshotTaken f head p (voiceOf p v) x ∧
      (∀ w, voiceOf t w = if v = w then x else voiceOf p w) ∧
      clipOf t (cueRecord p.shadow f.cue).clip =
        { clipOf p (cueRecord p.shadow f.cue).clip with uses := (clipOf p (cueRecord p.shadow f.cue).clip).uses + 1 } ∧
      AppendsIfRoom (startEvents f head v p) q t := by
  obtain ⟨hgets, hsnapshot, hvoices, huses, hevents⟩ := h
  have hstart : startEvents f head v q = startEvents f head v p := by
    rw [show q = _ from hq]
    rfl
  rw [show q = _ from hq] at hgets hsnapshot hvoices huses
  rw [hstart] at hevents
  exact ⟨hgets, hsnapshot, hvoices, huses, hevents⟩

include hu hquiet

/-- A refused fire, the buses formed before it and behind it (R83). -/
theorem fireRefused_mixed {code : ResultCode}
    (h : fireReported f q = raiseEvent .cueRefused f.cue (f.source.code + 0x100 * f.number) (BitVec.ofNat 32 code.code) q) :
    (alone → Raises .cueRefused f.cue (f.source.code + 0x100 * f.number) (BitVec.ofNat 32 code.code) p (arbitrate u)) ∧
      unchangedBut (.queue :: mixParts) p (arbitrate u) := by
  rw [h] at hu hquiet
  have hall : MixOnly p u := (hq.trans (mixOnly_raise _ _ _ _ q)).trans hu
  refine ⟨fun ha => raises_arbitrate (hq.queueAlike (hquiet ha).1) (hquiet ha).2,
    unchangedBut_arbitrated (fun part hpart => ?_) (by simp [hall.port_eq, mixParts])⟩
  obtain ⟨hqueue, hmix⟩ : part ≠ .queue ∧ part ∉ mixParts := by simpa [not_or] using hpart
  exact hall.same hmix (.inl hqueue)

/-- A fire comes to the Voice Engine as if it came alone, the buses formed before it and behind it. -/
theorem fireComes_mixed : FireComes f mixParts alone p (arbitrate u) := by
  constructor
  · intro code hcode
    rw [← hq.fireChecks_eq, ← hq.ignoreBlocks_eq, ← hq.cueRecord_eq] at hcode
    exact fireRefused_mixed hq hu hquiet (fireReported_refused hcode)
  · intro v hc hi hr hk hv hidle hlow
    rw [← hq.fireChecks_eq, ← hq.cueRecord_eq] at hc
    rw [← hq.ignoreBlocks_eq, ← hq.cueRecord_eq] at hi
    rw [← hq.cueRecord_eq] at hr hk
    simp only [← hq.voiceOf_eq] at hidle hlow
    obtain ⟨head, x, hstarted⟩ := fireReported_started hc hi hr hk hv hidle hlow
    obtain ⟨hgets, hsnapshot, hvoices, huses, hevents⟩ := FireStarted.mixed hq hstarted
    have honly := fireReported_only f q
    have hfree : u.port = none ↔ p.port = none := by rw [hu.port_eq, honly.2.free_iff, hq.port_eq]
    have hholds : ∀ w, VoiceHolds p (arbitrate u) w (if v = w then x else voiceOf p w) := fun w => by
      rw [← hvoices w, ← hu.voiceOf_eq]
      exact voiceHolds_arbitrate hfree w
    refine ⟨⟨head, x, hgets, hsnapshot, by simpa using hholds v, fun ha hroom => ?_⟩, fun w hw => by simpa [hw.symm] using hholds w,
      ?_, unchangedBut_arbitrated (fun part hpart => ?_) (by simpa [mixParts, voiceParts] using hfree)⟩
    · obtain ⟨hbefore, hbehind⟩ := hquiet ha
      obtain ⟨hrst, hsweep, -, hstamp, hqueue, -⟩ := hq.queueAlike hbefore
      have hev : Appended (startEvents f head v p) q (fireReported f q) := by
        refine hevents (canAppend_mono (length_startEvents_le f head v p) ?_)
        rwa [CanAppend, hrst, hsweep, hqueue]
      rw [Appended, hqueue, hstamp, ← hbehind.1] at hev
      rwa [Appended, arbitrate_queue]
    · rw [clipOf_arbitrate, hu.clipOf_eq]
      exact huses
    · obtain ⟨hvoice, hmix⟩ : part ∉ Part.waiting :: voiceParts ∧ part ∉ mixParts := by
        simp only [List.mem_append, List.mem_cons, not_or] at hpart ⊢
        tauto
      have hqueue : part ≠ .queue := fun he => hvoice (by simp [he, voiceParts])
      have hstale : part ≠ .stale := fun he => hvoice (by simp [he, voiceParts])
      by_cases hport : part = .port
      · subst hport
        rcases honly.2 with h | ⟨b, hb, h⟩
        · exact .inr (.inl (hu.port_eq.trans (h.trans hq.port_eq)))
        · exact .inr (.inr ⟨b, hq.port_eq ▸ hb, hu.port_eq.trans h⟩)
      · exact same_trans hport hstale (same_trans hport hstale (hq.same hmix (.inl hqueue)) (honly.same part hvoice))
          (hu.same hmix (.inl hqueue))

end

/-! ### The frame event -/

theorem eachTimer_countTimer_still {s : State} (h : ∀ k, k < 4 → (timerOf s k).phase ≠ .counting) : eachTimer countTimer s = s :=
  foldl_eq_self fun k hk => by simp [countTimer, reachesZero, h k (List.mem_range.mp hk)]

theorem firingTimers_still {s : State} (h : ∀ k, k < 4 → (timerOf s k).phase ≠ .counting) : firingTimers s = [] := by
  simp only [firingTimers, indices, List.filter_eq_nil_iff, List.mem_range]
  intro k hk
  simp [reachesZero, h k hk]

/-- The board interval count, short of the interval. -/
theorem countBoard_short {s : State} (h : boardInterval s.shadow = 0 ∨ s.boardCount + 1 < boardInterval s.shadow) :
    ∃ n, countBoard s = { s with boardCount := n } := by
  have hshort : reachesInterval s = false := by
    rw [Bool.eq_false_iff]
    simp only [reachesInterval, Ne, Bool.and_eq_true, decide_eq_true_eq]
    omega
  simp only [countBoard, hshort, Bool.false_eq_true, if_false]
  split
  · exact ⟨s.boardCount, rfl⟩
  · exact ⟨s.boardCount + 1, rfl⟩

/-- The beginning of a frame event that fires no timer and does not end the board interval. -/
theorem beginFrame_short {s : State} (htimers : ∀ k, k < 4 → (timerOf s k).phase ≠ .counting)
    (h : boardInterval s.shadow = 0 ∨ s.boardCount + 1 < boardInterval s.shadow) :
    ∃ n, beginFrame s = { s with frameCounter := s.frameCounter + 1, boardCount := n } := by
  obtain ⟨n, hboard⟩ := countBoard_short (s := { s with frameCounter := s.frameCounter + 1 }) h
  exact ⟨n, by rw [beginFrame, eachTimer_countTimer_still (s := { s with frameCounter := s.frameCounter + 1 }) htimers, hboard]⟩

/-- The frame timer's expiry in FREERUN is a frame event, and no change of clock state (R167). -/
theorem frameExpiry_freerun (order : FrameChoice) {s : State} (h : s.clock.state = .freerun) : frameExpiry order s =
    frameEvent order none { s with clock := { s.clock with frameTimer := Config.framePeriod } } := by
  have hclock : setClock { s.clock with frameTimer := Config.framePeriod } s =
      { s with clock := { s.clock with frameTimer := Config.framePeriod } } := if_pos rfl
  rw [← hclock]
  simp only [frameExpiry]
  split
  · rename_i hhouse
    rw [h] at hhouse
    cases hhouse
  · rfl

/-- The second phase of a frame event in which no timer fires and the Frame Clock raises nothing, behind what `r` says of the first. -/
def secondPhase (order : FrameChoice) (r : FrameRun) (s : State) : State :=
  (laterTasks order [] r.follows).foldl (laterStep r.sums r.follows) s

/-- A frame event that fires no timer, by its beginning and its first phase. -/
theorem frameEvent_of_phases {order : FrameChoice} {s s1 q : State} {r : FrameRun} (hrst : s.rst = false) (hbegin : beginFrame s = s1)
    (hfirst : (firstTasks order s1).foldl (fun r k => firstTask none k r) ⟨s1, Vector.replicate 4 BusSum.zero, []⟩ =
      ⟨q, r.sums, r.follows⟩)
    (hfiring : firingTimers s = []) : frameEvent order none s = secondPhase order r q := by
  subst hbegin
  simp only [frameEvent, hrst, hfiring, hfirst, Bool.false_eq_true, if_false]
  rfl

/-- The tasks of the second phase where no timer fires: the follow fires, the four buses, the Frame Clock's event. -/
theorem mem_laterTasks {order : FrameChoice} {follows : List (Nat × Nat)} {k : FrameTask} (h : k ∈ laterTasks order [] follows) :
    (∃ f ∈ follows, k = .follow f.1) ∨ Mixes k := by
  rw [laterTasks, mem_orderTasks] at h
  simp only [List.map_nil, List.append_nil, List.mem_append, List.mem_map, List.mem_range] at h
  rcases h with (⟨f, hf, rfl⟩ | ⟨b, hb, rfl⟩) | h
  · exact .inl ⟨f, hf, rfl⟩
  · exact .inr (.inr ⟨b, hb, rfl⟩)
  · split at h
    · cases h
    · exact .inr (.inl (List.mem_singleton.mp h))

theorem bus_mem_laterTasks (order : FrameChoice) (follows : List (Nat × Nat)) {b : Nat} (hb : b < 4) :
    .bus b ∈ laterTasks order [] follows := by
  rw [laterTasks, mem_orderTasks]
  simp [hb]

theorem follow_mem_laterTasks (order : FrameChoice) (v c : Nat) : .follow v ∈ laterTasks order [] [(v, c)] := by
  rw [laterTasks, mem_orderTasks]
  simp

theorem nodup_laterTasks (order : FrameChoice) {follows : List (Nat × Nat)} (h : (follows.map Prod.fst).Nodup) :
    (laterTasks order [] follows).Nodup := by
  refine nodup_orderTasks ?_
  have hfollow : (follows.map (fun f => FrameTask.follow f.1)).Nodup := by
    have hmap : ((follows.map Prod.fst).map FrameTask.follow).Nodup := h.map fun a b hab => FrameTask.follow.inj hab
    rwa [List.map_map] at hmap
  have hbus : ((List.range 4).map FrameTask.bus).Nodup := by decide
  have hclock : (if order.first.contains .clock then [] else [FrameTask.clock]).Nodup := by split <;> simp
  simp only [List.map_nil, List.append_nil]
  refine List.nodup_append'.mpr ⟨List.nodup_append'.mpr ⟨hfollow, hbus, fun k hf hb => ?_⟩, hclock, ?_⟩
  · obtain ⟨f, -, rfl⟩ := List.mem_map.mp hf
    simp at hb
  · split <;> simp [List.disjoint_left]

section
variable {s : State} {v : Nat}

/-- The state as the voice's frame finds it, the Frame Clock and the board interval apart. -/
def frameBegun (s : State) : State := { elapse s.clock.frameTimer s with frameCounter := s.frameCounter + 1 }

/-- The frame of voice `v`, the first of the frame event. -/
def loneFrame (v : Nat) (s : State) : FrameRun := voiceFrame v ⟨frameBegun s, Vector.replicate 4 BusSum.zero, []⟩

theorem loneFrame_follows (hv : v < 24) (hs : sounding (voiceOf s v) = true) :
    (loneFrame v s).follows = [] ∨ ∃ c, (loneFrame v s).follows = [(v, c)] := by
  rw [loneFrame, voiceFrame_of_sounding (r := ⟨frameBegun s, _, []⟩) hv hs rfl rfl]
  simp only [List.nil_append]
  split
  · exact .inr ⟨_, rfl⟩
  · exact .inl rfl

theorem soundingVoices_lone (hv : v < 24) (hs : sounding (voiceOf s v) = true)
    (hothers : ∀ w, w < 24 → w ≠ v → sounding (voiceOf s w) = false) {k : FrameTask} :
    k ∈ (soundingVoices s).map FrameTask.voice ↔ k = .voice v := by
  simp only [soundingVoices, indices, List.mem_map, List.mem_filter, List.mem_range]
  constructor
  · rintro ⟨w, ⟨hw, hsw⟩, rfl⟩
    by_contra hne
    rw [hothers w hw fun he => hne (by rw [he])] at hsw
    cases hsw
  · rintro rfl
    exact ⟨v, ⟨hv, hs⟩, rfl⟩

/-- The first phase of the frame event of one sounding voice is that voice's frame. -/
theorem firstTasks_lone (order : FrameChoice) (hv : v < 24) (hs : sounding (voiceOf s v) = true)
    (hothers : ∀ w, w < 24 → w ≠ v → sounding (voiceOf s w) = false) (r : FrameRun) :
    (firstTasks order s).foldl (fun r k => firstTask none k r) r = voiceFrame v r := by
  have hlone := fun k => soundingVoices_lone (k := k) hv hs hothers
  refine foldl_firstTask_lone (nodup_orderTasks (List.nodup_append'.mpr ⟨?_, ?_, ?_⟩)) ?_ (fun k hk => ?_) r
  · exact (List.nodup_range.filter _).map fun a b hab => FrameTask.voice.inj hab
  · split <;> simp
  · intro k hk
    rw [(hlone k).mp hk]
    split <;> simp
  · rw [mem_orderTasks]
    exact List.mem_append_left _ ((hlone _).mpr rfl)
  · rw [mem_orderTasks, List.mem_append, hlone] at hk
    refine hk.imp_right fun h => ?_
    split at h
    · exact List.mem_singleton.mp h
    · cases h

/-- The frame event in FREERUN of one sounding voice: its frame, then the second phase. -/
theorem exec_frameTimerExpiry_lone (order : FrameChoice) (hrst : s.rst = false) (hclock : s.clock.state = .freerun)
    (hsoon : Soonest s.clock.frameTimer s) (hshort : boardInterval s.shadow = 0 ∨ s.boardCount + 1 < boardInterval s.shadow)
    (htimers : ∀ k, k < 4 → (timerOf s k).phase ≠ .counting) (hv : v < 24) (hs : sounding (voiceOf s v) = true)
    (hothers : ∀ w, w < 24 → w ≠ v → sounding (voiceOf s w) = false) :
    ∃ c n, exec (.frameTimerExpiry order) s =
      .next (arbitrate (secondPhase order (loneFrame v s) (reclocked c n (loneFrame v s).state))) := by
  let e := elapse s.clock.frameTimer s
  let c : FrameClock := { e.clock with frameTimer := Config.framePeriod }
  obtain ⟨n, hbegin⟩ : ∃ n, beginFrame { e with clock := c } = reclocked c n (frameBegun s) :=
    beginFrame_short (s := { e with clock := c }) htimers hshort
  have hframe := voiceFrame_reclocked c n (frameBegun s) hv hs (Vector.replicate 4 BusSum.zero) []
  rw [← firstTasks_lone order (s := reclocked c n (frameBegun s)) hv hs hothers] at hframe
  change _ = FrameRun.mk (reclocked c n (loneFrame v s).state) (loneFrame v s).sums (loneFrame v s).follows at hframe
  have hevent := frameEvent_of_phases (s := { e with clock := c }) hrst hbegin hframe (firingTimers_still htimers)
  rw [← frameExpiry_freerun order (s := e) hclock] at hevent
  exact ⟨c, n, (afterTime_next (frameExpiry order) hsoon).trans (by rw [hevent])⟩

end

/-- Forming a bus changes the buses and the pending queue alone, part by part. -/
theorem formBus_same (sums : Sums) (b : Nat) (s : State) {p : Part} (hp : p ∉ [Part.buses, .queue]) : Same p s (formBus sums b s) := by
  cases p
  case buses | queue => exact absurd (by simp) hp
  case clock | interval =>
    rw [formBus_only]
    rfl
  all_goals exact (mixOnly_formBus sums b s).same (by simp [mixParts]) (.inl (by simp))

/-! ### The second phase behind a lone voice's frame -/

section
variable {order : FrameChoice} {r : FrameRun} {q : State}

/-- Every bus is formed from the sums of the voice's frame. -/
theorem busOf_secondPhase (hn : (r.follows.map Prod.fst).Nodup) (hq : MixOnly r.state q) {b : Nat} (hb : b < 4)
    (hbuses : q.buses = r.state.buses) : busOf (secondPhase order r q) b = busOf (formBus r.sums b r.state) b := by
  have halike : BusAlike b r.state q := ⟨by rw [hq], by rw [hq], by rw [busOf, busOf, hbuses]⟩
  rw [busOf_formBus, if_pos ⟨rfl, hb⟩, ← halike.formedBus_eq]
  exact busOf_foldl_laterStep r.sums r.follows hb (nodup_laterTasks order hn) (bus_mem_laterTasks order _ hb) q

/-- Without a follow fire the second phase forms the buses, and raises nothing where none clamps. -/
theorem secondPhase_unfollowed (hf : r.follows = []) : MixOnly q (secondPhase order r q) ∧
    ((∀ b, b < 4 → busClamps r.sums b q = false) → Same .queue q (secondPhase order r q)) := by
  have hmixes : ∀ k ∈ laterTasks order [] r.follows, Mixes k := fun k hk => (mem_laterTasks hk).resolve_left (by simp [hf])
  refine ⟨foldl_laterStep_mixOnly _ _ hmixes q, fun hnone =>
    foldl_laterStep_quiet _ _ (nodup_laterTasks order (by simp [hf])) hmixes fun b hb => ?_⟩
  obtain h | ⟨a, ha, he⟩ := hmixes _ hb
  · cases h
  · cases he
    exact hnone b ha

/-- A follow fire stands among the forming of the buses, which raises nothing where none clamps. -/
theorem secondPhase_followed {v c : Nat} (hf : r.follows = [(v, c)]) :
    ∃ p, MixOnly q p ∧ MixOnly (followFire c p) (secondPhase order r q) ∧
      ((∀ b, b < 4 → busClamps r.sums b q = false) → Same .queue q p ∧ Same .queue (followFire c p) (secondPhase order r q)) := by
  obtain ⟨pre, post, htasks, hpre, hpost, hnpre, hnpost, hapart⟩ :=
    split_once (nodup_laterTasks order (follows := [(v, c)]) (by simp)) (follow_mem_laterTasks order v c)
  have hmixes : ∀ k ∈ pre ++ .follow v :: post, k ≠ .follow v → Mixes k := fun k hk hne =>
    (mem_laterTasks (htasks ▸ hk)).resolve_left (by simpa using hne)
  have hbefore : ∀ k ∈ pre, Mixes k := fun k hk => hmixes k (by simp [hk]) fun he => hpre (he ▸ hk)
  have hbehind : ∀ k ∈ post, Mixes k := fun k hk => hmixes k (by simp [hk]) fun he => hpost (he ▸ hk)
  have hfire : ∀ t, laterStep r.sums [(v, c)] t (.follow v) = followFire c t := fun t => by simp [laterStep, laterTask]
  rw [secondPhase, hf, htasks, List.foldl_append, List.foldl_cons, hfire]
  refine ⟨_, foldl_laterStep_mixOnly _ _ hbefore q, foldl_laterStep_mixOnly _ _ hbehind _, fun hnone => ?_⟩
  have hclamps : ∀ b, FrameTask.bus b ∈ pre ++ .follow v :: post → busClamps r.sums b q = false := fun b hb => by
    obtain h | ⟨a, ha, he⟩ := hmixes _ hb (by simp)
    · cases h
    · cases he
      exact hnone b ha
  refine ⟨foldl_laterStep_quiet _ _ hnpre hbefore fun b hb => hclamps b (by simp [hb]),
    foldl_laterStep_quiet _ _ hnpost hbehind fun b hb => ?_⟩
  have halike := (foldl_laterStep_busAlike r.sums [(v, c)] (fun hm => hapart _ hm hb) q).trans
    (fireReported_only ⟨.follow, 0, c, false⟩ _).busAlike
  exact halike.busClamps_eq.trans (hclamps b (by simp [hb]))

/-- Behind the grant, where no follow cue is fired: every voice as its frame left it, and no event but those of the buses. -/
theorem arbitrate_unfollowed {c : FrameClock} {n : Nat} (hf : r.follows = []) :
    let t := arbitrate (secondPhase order r (reclocked c n r.state))
    (∀ w, VoiceHolds r.state t w (voiceOf r.state w)) ∧ unchangedBut (.queue :: mixParts) r.state t ∧
      ((∀ b, b < 4 → busClamps r.sums b r.state = false) → unchangedBut mixParts r.state t) := by
  obtain ⟨hphase, hquiet⟩ := secondPhase_unfollowed (order := order) (q := reclocked c n r.state) hf
  have hmix := (mixOnly_reclocked c n r.state).trans hphase
  refine ⟨fun w => ?_, unchangedBut_arbitrated (fun p hp => ?_) (by simp [hmix.port_eq, mixParts]),
    fun hnone => unchangedBut_arbitrated (fun p hp => hmix.same hp (.inr (hquiet hnone))) (by simp [hmix.port_eq, mixParts])⟩
  · rw [← hmix.voiceOf_eq]
    exact voiceHolds_arbitrate (by rw [hmix.port_eq]) w
  · obtain ⟨hqueue, hparts⟩ : p ≠ .queue ∧ p ∉ mixParts := by simpa [not_or] using hp
    exact hmix.same hparts (.inl hqueue)

/-- Behind the grant, where a follow cue is fired. -/
theorem arbitrate_followed {c : FrameClock} {n v cue : Nat} {alone : Prop} (hf : r.follows = [(v, cue)])
    (hnone : alone → ∀ b, b < 4 → busClamps r.sums b r.state = false) :
    FireComes ⟨.follow, 0, cue, false⟩ mixParts alone r.state (arbitrate (secondPhase order r (reclocked c n r.state))) := by
  obtain ⟨p, hbefore, hbehind, hquiet⟩ := secondPhase_followed (order := order) (q := reclocked c n r.state) hf
  exact fireComes_mixed ((mixOnly_reclocked c n r.state).trans hbefore) hbehind fun ha => hquiet (hnone ha)

end

/-- Settles O60: the bus by its record, and the frame event by its two phases. -/
theorem busesAreFormedFromTheirSums : Obligations.BusesAreFormedFromTheirSums := by
  constructor
  · intro sums b s hb q old target d ql qr cl cr l r t
    have hd : steppedDuck sums b s = d := by
      rw [steppedDuck, duckTarget_eq]
      rfl
    have hql : trimmedLeft sums b s = ql := by
      rw [trimmedLeft, hd]
      rfl
    have hqr : trimmedRight sums b s = qr := by
      rw [trimmedRight, hd]
      rfl
    have hcl : bit (clips ql) = cl := bit_clips ql
    have hcr : bit (clips qr) = cr := bit_clips qr
    have hclamps := busClamps_iff sums b s
    have hraises := formBus_raises (sums := sums) (b := b) (s := s)
    simp only [hql, hqr, ← bit_eq_one (clips ql), hcl, hcr] at hclamps hraises
    have hformed : formedBus sums b s = ⟨d, min 65535 (old.clips + (cl + cr)), l, r, if play s.shadow = true then l else 0,
        if play s.shadow = true then r else 0⟩ := by
      simp only [formedBus, hql, hqr, hd, hcl, hcr, clampSample_eq]
      rfl
    refine ⟨?_, fun a ha => ?_, fun hclip => hraises (hclamps.mpr hclip), fun hclip => ?_, ?_⟩
    · rw [busOf_formBus, if_pos ⟨rfl, hb⟩, hformed]
    · rw [busOf_formBus, if_neg fun h => ha h.1.symm]
    · rw [show t = _ from formBus_quiet (Bool.eq_false_iff.mpr fun h => (hclamps.mp h).ne' hclip)]
      exact ⟨rfl, rfl, rfl⟩
    · exact unchangedBut_of_same (mixOnly_formBus sums b s).port_eq (by simp) fun p hp => formBus_same sums b s hp
  · intro order s v hrst hclock hsoon hshort htimers hv hs hothers r changed noneClamps
    obtain ⟨c, n, hexec⟩ := exec_frameTimerExpiry_lone order hrst hclock hsoon hshort htimers hv hs hothers
    have hfollows := loneFrame_follows hv hs
    change exec _ s = .next (arbitrate (secondPhase order r (reclocked c n r.state))) at hexec
    change r.follows = [] ∨ ∃ c, r.follows = [(v, c)] at hfollows
    clear_value r
    have hnone : noneClamps → ∀ b, b < 4 → busClamps r.sums b r.state = false :=
      fun h b hb => busClamps_of_clips hb (h b hb).1 (h b hb).2
    have hnodup : (r.follows.map Prod.fst).Nodup := by
      obtain hf | ⟨cue, hf⟩ := hfollows <;> simp [hf]
    refine ⟨_, hexec, fun b hb => ?_, fun hf => ?_, fun cue hf => arbitrate_followed hf hnone⟩
    · rw [busOf, arbitrate_buses]
      exact busOf_secondPhase hnodup (mixOnly_reclocked c n r.state) hb rfl
    · obtain ⟨hvoices, hframe, hquiet⟩ := arbitrate_unfollowed (order := order) (c := c) (n := n) hf
      exact ⟨hvoices, hframe, fun ha => hquiet (hnone ha)⟩

end Sys2Proof.Machine
end

section
/-!
PROOF. What a step can do to the Trigger Intake (O4): a take advances its values, power-on and the release of RST# restart them, and
everything else leaves them alone.
-/

namespace Sys2Proof.Machine

/-! ### The Intake's values -/

/-- The Intake's values: E, S and the last taken sequence number (R91). -/
def intakeOf (s : State) : Nat × Nat × Nat := (s.expSlot, s.expSeq, s.lastSeq)

/-- The form is about these values alone. -/
theorem intakeForm_congr {s t : State} (h : intakeOf t = intakeOf s) : IntakeForm t ↔ IntakeForm s := by
  obtain ⟨hslot, hseq, hlast⟩ : t.expSlot = s.expSlot ∧ t.expSeq = s.expSeq ∧ t.lastSeq = s.lastSeq := by simpa [intakeOf] using h
  simp only [IntakeForm, hslot, hseq, hlast]

section
variable {s t : State}

theorem EffectsOnly.intakeOf_eq (h : EffectsOnly s t) : intakeOf t = intakeOf s := by
  unfold intakeOf
  rw [h.1]

theorem PressOnly.intakeOf_eq (h : PressOnly s t) : intakeOf t = intakeOf s := h.effectsOnly.intakeOf_eq

theorem VoiceOnly.intakeOf_eq (h : VoiceOnly s t) : intakeOf t = intakeOf s := h.pressOnly.intakeOf_eq

theorem CommandOnly.intakeOf_eq (h : CommandOnly s t) : intakeOf t = intakeOf s := by
  unfold intakeOf
  rw [h.1]

theorem MixOnly.intakeOf_eq (h : MixOnly s t) : intakeOf t = intakeOf s := by
  unfold intakeOf
  rw [h]

theorem ServiceOnly.intakeOf_eq (h : ServiceOnly s t) : intakeOf t = intakeOf s := by
  unfold intakeOf
  rw [h]

end

theorem foldl_intakeOf {α : Type} {f : State → α → State} (hf : ∀ s a, intakeOf (f s a) = intakeOf s) (xs : List α) (s : State) :
    intakeOf (xs.foldl f s) = intakeOf s := by
  induction xs generalizing s with
  | nil => rfl
  | cons a xs ih => exact (ih (f s a)).trans (hf s a)

/-! ### The shared operations -/

@[simp] theorem intakeOf_raiseEvent (k : EventKind) (a b : Nat) (value : Word) (s : State) :
    intakeOf (raiseEvent k a b value s) = intakeOf s := (raise_only k a b value s).intakeOf_eq

@[simp] theorem intakeOf_setClock (c : FrameClock) (s : State) : intakeOf (setClock c s) = intakeOf s :=
  (effectsOnly_setClock c s).intakeOf_eq

@[simp] theorem intakeOf_fireReported (f : Fire) (s : State) : intakeOf (fireReported f s) = intakeOf s :=
  (fireReported_only f s).intakeOf_eq

@[simp] theorem intakeOf_classifyHeld (s : State) : intakeOf (classifyHeld s) = intakeOf s := (classifyHeld_only s).intakeOf_eq

@[simp] theorem intakeOf_startLines (s : State) : intakeOf (startLines s) = intakeOf s := (startLines_pressOnly s).intakeOf_eq

@[simp] theorem intakeOf_filterExpiry (n : Nat) (s : State) : intakeOf (filterExpiry n s) = intakeOf s :=
  (filterExpiry_pressOnly n s).intakeOf_eq

@[simp] theorem intakeOf_setPenalty (n p : Nat) (s : State) : intakeOf (setPenalty n p s) = intakeOf s :=
  (pressOnly_setPenalty n p s).intakeOf_eq

@[simp] theorem intakeOf_pinEdge (n : Nat) (high : Bool) (s : State) : intakeOf (pinEdge n high s) = intakeOf s :=
  (judgedEdge_pressOnly n _ _ (setPin n high s)).intakeOf_eq

@[simp] theorem intakeOf_arbitrateAside (aside : Bool) (s : State) : intakeOf (arbitrateAside aside s) = intakeOf s := by
  obtain ⟨hslot, hseq, hlast⟩ := unchangedBut_arbitrate (ps := []) aside (fun p _ => same_refl p s) (by simp) .intake (by simp)
  rw [intakeOf, hslot, hseq, hlast]
  rfl

@[simp] theorem intakeOf_arbitrate (s : State) : intakeOf (arbitrate s) = intakeOf s := intakeOf_arbitrateAside false s

@[simp] theorem intakeOf_portFree (s : State) : intakeOf (portFree s) = intakeOf s := rfl

@[simp] theorem intakeOf_partWrite (addr : Nat) (bytes : List Byte) (orphan : Bool) (s : State) :
    intakeOf (partWrite addr bytes orphan s) = intakeOf s := rfl

/-! ### Frame events -/

/-- A voice that gives a frame goes through its stages, which stay within the Voice Engine; any other does nothing. -/
@[simp] theorem intakeOf_voiceFrame (v : Nat) (r : FrameRun) : intakeOf (voiceFrame v r).state = intakeOf r.state := by
  by_cases h : sounding (voiceOf r.state v) = true
  · by_cases hv : v < 24
    · rw [voiceFrame_of_sounding hv h rfl rfl]
      exact (frameDone_stagesTaken _ _ hv _).only.intakeOf_eq
    · rw [voiceOf_beyond _ hv] at h
      exact absurd h (by decide)
  · rw [voiceFrame, if_neg h]

@[simp] theorem intakeOf_raiseClock (e : Option ClockEvent) (s : State) : intakeOf (raiseClock e s) = intakeOf s := by
  cases e with
  | none => rfl
  | some e => exact intakeOf_raiseEvent _ _ _ _ s

@[simp] theorem intakeOf_formBus (sums : Sums) (b : Nat) (s : State) : intakeOf (formBus sums b s) = intakeOf s :=
  (mixOnly_formBus sums b s).intakeOf_eq

theorem intakeOf_firstTask (e : Option ClockEvent) (k : FrameTask) (r : FrameRun) :
    intakeOf (firstTask e k r).state = intakeOf r.state := by
  cases k with
  | voice v => exact intakeOf_voiceFrame v r
  | clock => exact intakeOf_raiseClock e r.state
  | follow _ | bus _ | timer _ => rfl

theorem intakeOf_foldl_firstTask (e : Option ClockEvent) (ks : List FrameTask) (r : FrameRun) :
    intakeOf (ks.foldl (fun r k => firstTask e k r) r).state = intakeOf r.state := by
  induction ks generalizing r with
  | nil => rfl
  | cons k ks ih => exact (ih _).trans (intakeOf_firstTask e k r)

theorem intakeOf_laterTask (e : Option ClockEvent) (sums : Sums) (follows : List (Nat × Nat)) (k : FrameTask) (s : State) :
    intakeOf (laterTask e sums follows k s) = intakeOf s := by
  cases k with
  | voice _ => rfl
  | follow v =>
    simp only [laterTask]
    split
    · exact intakeOf_fireReported _ s
    · rfl
  | bus b => exact intakeOf_formBus sums b s
  | timer n => exact intakeOf_fireReported _ s
  | clock => exact intakeOf_raiseClock e s

theorem intakeOf_countTimer (s : State) (k : Nat) : intakeOf (countTimer k s) = intakeOf s := by
  simp only [countTimer]
  split
  · rfl
  · split <;> rfl

theorem intakeOf_countBoard (s : State) : intakeOf (countBoard s) = intakeOf s := by
  unfold countBoard
  split
  · rfl
  · split <;> rfl

theorem intakeOf_beginFrame (s : State) : intakeOf (beginFrame s) = intakeOf s := by
  rw [beginFrame, intakeOf_countBoard, eachTimer, foldl_intakeOf intakeOf_countTimer]
  rfl

@[simp] theorem intakeOf_frameEvent (choice : FrameChoice) (e : Option ClockEvent) (s : State) :
    intakeOf (frameEvent choice e s) = intakeOf s := by
  simp only [frameEvent]
  split
  · rfl
  · rw [foldl_intakeOf (fun t k => intakeOf_laterTask e _ _ k t), intakeOf_foldl_firstTask, intakeOf_beginFrame]

@[simp] theorem intakeOf_frameExpiry (choice : FrameChoice) (s : State) : intakeOf (frameExpiry choice s) = intakeOf s := by
  simp only [frameExpiry]
  split
  · split <;> simp
  · simp

@[simp] theorem intakeOf_wclkRise (choice : FrameChoice) (s : State) : intakeOf (wclkRise choice s) = intakeOf s := by
  simp only [wclkRise]
  split <;> split <;> simp

/-! ### Accesses and writes that end -/

@[simp] theorem intakeOf_arrive (a : Access) (s : State) : intakeOf (arrive a s) = intakeOf s := by
  unfold arrive
  split
  · rfl
  · exact (serve_only _ a s).intakeOf_eq

@[simp] theorem intakeOf_endDirect (a : Access) (s : State) : intakeOf (endDirect a s) = intakeOf s := by
  unfold endDirect
  split <;> rfl

@[simp] theorem intakeOf_endConverted (a : Access) (todo : List HalfWrite) (s : State) :
    intakeOf (endConverted a todo s) = intakeOf s := by
  cases todo with
  | nil => rfl
  | cons h hs =>
    simp only [endConverted]
    split <;> rfl

@[simp] theorem intakeOf_endVerify (a : Access) (j : VerifyJob) (s : State) : intakeOf (endVerify a j s) = intakeOf s := by
  simp only [endVerify]
  split
  · rfl
  · split <;> rfl

theorem intakeOf_performMerge (m : PortMerge) (s : State) : intakeOf (performMerge m s) = intakeOf s :=
  (performMerge_effectsOnly m s).intakeOf_eq

@[simp] theorem intakeOf_endMerge (m : PortMerge) (s : State) : intakeOf (endMerge m s) = intakeOf s := by
  unfold endMerge
  split
  · rfl
  · exact intakeOf_performMerge m s

@[simp] theorem intakeOf_landBurst (b : Burst) (s : State) : intakeOf (landBurst b s) = intakeOf s := by
  unfold landBurst
  split <;> rfl

@[simp] theorem intakeOf_landFill (b : FillBurst) (s : State) : intakeOf (landFill b s) = intakeOf s := by
  unfold intakeOf
  rw [landFill_only]

theorem intakeOf_appendLost (s : State) : intakeOf (appendLost s) = intakeOf s := by
  unfold appendLost
  split <;> rfl

@[simp] theorem intakeOf_reportWritten (k : ReportKind) (s : State) : intakeOf (reportWritten k s) = intakeOf s := by
  cases k with
  | event => exact intakeOf_appendLost _
  | clamp off =>
    simp only [reportWritten, clampWritten]
    split
    · rfl
    · split <;> rfl
  | result _ | status _ | mirror _ | board _ _ => rfl

/-! ### Takes -/

theorem intakeOf_advanceIntake {s t : State} (h : intakeOf t = intakeOf s) :
    intakeOf (advanceIntake t) = intakeOf (advanceIntake s) := by
  simp only [intakeOf, Prod.mk.injEq] at h
  simp [intakeOf, h]

/-- The command of a trigger leaves the Intake alone: a take is its advance (R93). -/
theorem intakeOf_takeTrigger {body : CommandBody} (hb : BodyOnly body) (m : PortMerge) (s : State) :
    intakeOf (takeTrigger body m s) = intakeOf (advanceIntake s) :=
  (hb (commandArgs (advanceIntake (performMerge m s)).shadow m.slot) _).intakeOf_eq.trans
    (intakeOf_advanceIntake (intakeOf_performMerge m s))

/-! ### Resets and the sweep -/

theorem intakeOf_heldMet (s : State) : intakeOf (heldMet s) = intakeOf s := by
  unfold intakeOf
  rw [heldMet_only]

theorem intakeOf_assertReset (s : State) : intakeOf (assertReset s) = intakeOf s := rfl

theorem intakeOf_poweredOn (straps : BitVec 4) (s : State) : intakeOf (poweredOn straps s) = (0, 1, 0) := rfl

theorem intakeOf_releaseReset (straps : BitVec 4) (s : State) : intakeOf (releaseReset straps s) = (0, 1, 0) := rfl

theorem intakeOf_markAll (s : State) : intakeOf (markAll s) = intakeOf s := rfl

theorem intakeOf_raiseRun (os : List OwedEmpty) (s : State) : intakeOf (raiseRun os s) = intakeOf s := by
  unfold intakeOf
  rw [raiseRun_only]

theorem intakeOf_raiseOwed (s : State) : intakeOf (raiseOwed s) = intakeOf s := intakeOf_raiseRun _ { s with owed := [] }

theorem intakeOf_endSweep (s : State) : intakeOf (endSweep s) = intakeOf s := by
  rw [endSweep, intakeOf_classifyHeld, intakeOf_raiseOwed, intakeOf_markAll, intakeOf_raiseEvent]
  rfl

@[simp] theorem intakeOf_sweepWriteEnds (addr : Nat) (bytes : List Byte) (s : State) :
    intakeOf (sweepWriteEnds addr bytes s) = intakeOf s := by
  simp only [sweepWriteEnds]
  split
  · simp
  · split
    · exact intakeOf_arbitrateAside true _
    · simp [intakeOf_endSweep]

/-! ### Steps -/

/-- What a step can do to the Intake's values: nothing, the advance of a take (R93), or a restart (R91). -/
inductive IntakeStep (s t : State) : Prop where
  | kept (h : intakeOf t = intakeOf s)
  | advanced (h : intakeOf t = intakeOf (advanceIntake s))
  | restarted (h : intakeOf t = (0, 1, 0))

/-- What matters of both states is their Intake's values. -/
theorem IntakeStep.congr {s s' t t' : State} (h : IntakeStep s t) (hs : intakeOf s = intakeOf s') (ht : intakeOf t' = intakeOf t) :
    IntakeStep s' t' := by
  cases h with
  | kept h => exact .kept ((ht.trans h).trans hs)
  | advanced h => exact .advanced ((ht.trans h).trans (intakeOf_advanceIntake hs))
  | restarted h => exact .restarted (ht.trans h)

/-- Each of these keeps the form: an advance takes S as the last taken, and passes from 65535 to 1 (R91). -/
theorem IntakeStep.form {s t : State} (h : IntakeStep s t) (hs : IntakeForm s) : IntakeForm t := by
  cases h with
  | kept h => exact (intakeForm_congr h).mpr hs
  | advanced h =>
    obtain ⟨-, hlow, hhigh, -, -⟩ := hs
    refine (intakeForm_congr h).mpr ⟨Nat.mod_lt _ (by decide), ?_, ?_, hhigh, rfl⟩
    · rw [advanceIntake_expSeq]
      split <;> omega
    · rw [advanceIntake_expSeq]
      split <;> omega
  | restarted h => exact (intakeForm_congr (s := State.reset) h).mpr (by unfold IntakeForm; decide)

/-- The next state, where the outcome is one, is such a step from `s`. -/
def NextIntake (s : State) (o : Outcome) : Prop := ∀ t, o = .next t → IntakeStep s t

theorem nextIntake_next {s t : State} (h : IntakeStep s t) : NextIntake s (.next t) := by
  rintro _ ⟨⟩
  exact h

theorem nextIntake_kept {s t : State} (h : intakeOf t = intakeOf s) : NextIntake s (.next t) := nextIntake_next (.kept h)

section
variable (s : State)

theorem arriveAs_intake (p : Arrival → Bool) (a : Access) : NextIntake s (arriveAs p a s) := by
  unfold arriveAs
  split <;> exact nextIntake_kept (by simp)

theorem mergeStep_intake (p : PortMerge → State → Bool) : NextIntake s (mergeStep p s) := by
  unfold mergeStep
  split
  · split <;> exact nextIntake_kept (by simp)
  · exact nextIntake_kept rfl

/-- A take advances the Intake's values, whatever its command. -/
theorem commandStep_intake (p : Nat → Bool) {body : CommandBody} (hb : BodyOnly body) : NextIntake s (commandStep p body s) := by
  unfold commandStep
  split
  · split
    · exact nextIntake_next (.advanced ((intakeOf_arbitrate _).trans (intakeOf_takeTrigger hb _ s)))
    · exact nextIntake_kept rfl
  · exact nextIntake_kept rfl

theorem commandRow_intake {i : Instr} (h : i ∈ commandRows.map Prod.fst) : NextIntake s (exec i s) := by
  obtain ⟨⟨_, byte⟩, hrow, rfl⟩ := List.mem_map.mp h
  rw [exec_of_commandRows hrow]
  exact commandStep_intake s _ (bodyOf_only byte)

theorem reportStep_intake (p : ReportKind → Bool) : NextIntake s (reportStep p s) := by
  unfold reportStep
  split
  · split
    · refine nextIntake_kept ?_
      split <;> simp
    · exact nextIntake_kept rfl
  · exact nextIntake_kept rfl

theorem afterTime_intake (d : Nat) {event : State → State} (he : ∀ t, intakeOf (event t) = intakeOf t) :
    NextIntake s (afterTime d event s) := by
  unfold afterTime
  split
  · exact nextIntake_kept (by rw [intakeOf_arbitrate, he]; rfl)
  · exact nextIntake_kept rfl

theorem execPowerOn_intake (straps : BitVec 4) : NextIntake s (execPowerOn straps s) :=
  nextIntake_next (.restarted (by rw [intakeOf_arbitrate, intakeOf_startLines, intakeOf_poweredOn]))

/-- A taken trigger that the reset meets is taken before it (R100). -/
theorem takeBeforeReset_intake : IntakeStep s (takeBeforeReset s) := by
  unfold takeBeforeReset
  split
  · split
    · exact .advanced (intakeOf_takeTrigger (bodyOf_only _) _ s)
    · exact .kept rfl
  · exact .kept rfl

/-- The assertion of RST# leaves the Intake to the release (R91). -/
theorem execRstAssert_intake : NextIntake s (execRstAssert s) := by
  unfold execRstAssert
  split
  · exact nextIntake_kept rfl
  · exact nextIntake_next ((takeBeforeReset_intake s).congr rfl (by rw [intakeOf_assertReset, intakeOf_heldMet]))

theorem execRstRelease_intake (straps : BitVec 4) : NextIntake s (execRstRelease straps s) := by
  unfold execRstRelease
  split
  · exact nextIntake_next (.restarted
      (by rw [intakeOf_arbitrate, intakeOf_classifyHeld, intakeOf_startLines, intakeOf_releaseReset]))
  · exact nextIntake_kept rfl

theorem execSweepWrite_intake : NextIntake s (execSweepWrite s) := by
  unfold execSweepWrite
  split
  · split <;> exact nextIntake_kept (by simp)
  · exact nextIntake_kept rfl

theorem freeFrameStep_intake : NextIntake s (freeFrameStep s) := afterTime_intake s _ (fun _ => intakeOf_frameExpiry _ _)

theorem execFilterTimerExpiry_intake (line : Fin 10) : NextIntake s (execFilterTimerExpiry line s) := by
  unfold execFilterTimerExpiry
  split
  · exact afterTime_intake s _ (intakeOf_filterExpiry _)
  · exact nextIntake_kept rfl

theorem execPenaltyEnd_intake (line : Fin 8) : NextIntake s (execPenaltyEnd line s) := by
  unfold execPenaltyEnd
  split
  · exact afterTime_intake s _ (intakeOf_setPenalty _ 0)
  · exact nextIntake_kept rfl

theorem execGapTimerExpiry_intake : NextIntake s (execGapTimerExpiry s) := by
  unfold execGapTimerExpiry
  split
  · exact afterTime_intake s _ (fun _ => intakeOf_setClock _ _)
  · exact nextIntake_kept rfl

/-- A command, whatever it is, keeps, advances or restarts the Intake's values. -/
theorem exec_intake (i : Instr) : NextIntake s (exec i s) := by
  by_cases hrow : i ∈ commandRows.map Prod.fst
  · exact commandRow_intake s hrow
  cases i <;> dsimp only [exec]
  case powerOn => exact execPowerOn_intake s _
  case rstAssert => exact execRstAssert_intake s
  case rstRelease => exact execRstRelease_intake s _
  case sweepWrite => exact execSweepWrite_intake s
  case plainAccess | reportAreaWrite | clipExtentWrite | loadWindowWrite | verifyRead | shadowedWriteArrival =>
    exact arriveAs_intake s _ _
  case controlRegionRead =>
    simp only [execControlRegionRead]
    split
    · exact arriveAs_intake s _ _
    · exact nextIntake_kept rfl
  case noLaneWrite =>
    simp only [execNoLaneWrite]
    split <;> exact nextIntake_kept rfl
  case memoryAccessEnd | convertedWriteHalfEnd | verifyReadHalfEnd | fetchBurstLand | headFillBurstLand =>
    simp only [execMemoryAccessEnd, execConvertedWriteHalfEnd, execVerifyReadHalfEnd, execFetchBurstLand,
      execHeadFillBurstLand]
    split <;> exact nextIntake_kept (by simp)
  case shadowWrite | rdWrite | lwbWrite | lineModeWrite | polarityWrite | timerPreloadWrite | clockPreferenceWrite |
      boardIntervalWrite | cueLevelEdit => exact mergeStep_intake s _
  case unknownCommand => exact commandStep_intake s _ unknownBody_only
  case fire | release | lockArm | lockRearm | lockReset | timerStart | timerStop | loadOpen | loadClose | loadAbort | clipDiscard |
      pin | unpin | meterClear =>
    exact absurd (by decide) hrow
  case resultWrite | clampWriteBack | eventRecordWrite | statusBlockWrite | directoryMirrorWrite | voiceBoardQuarterWrite =>
    exact reportStep_intake s _
  case lineEdge => exact afterTime_intake s _ (intakeOf_pinEdge _ _)
  case filterTimerExpiry => exact execFilterTimerExpiry_intake s _
  case penaltyEnd => exact execPenaltyEnd_intake s _
  case timerExpiry | boardIntervalExpiry =>
    simp only [execTimerExpiry, execBoardIntervalExpiry]
    split
    · exact freeFrameStep_intake s
    · exact nextIntake_kept rfl
  case frameTimerExpiry => exact afterTime_intake s _ (intakeOf_frameExpiry _)
  case wclkEdge => exact afterTime_intake s _ (intakeOf_wclkRise _)
  case gapTimerExpiry => exact execGapTimerExpiry_intake s

theorem takeDue_intake (d : Due) : NextIntake s (takeDue d s) := by
  cases d with
  | filter n => exact execFilterTimerExpiry_intake s n
  | penalty n => exact execPenaltyEnd_intake s n
  | frame => exact freeFrameStep_intake s
  | gap => exact execGapTimerExpiry_intake s

/-- The draw that an idle part makes is not the Intake's. -/
theorem chooseDue_intakeOf (d : Due) (ds : List Due) : intakeOf (chooseDue s d ds).2 = intakeOf s := by
  cases ds <;> rfl

theorem idle_intake : NextIntake s (idle s) := by
  unfold idle
  split
  · exact nextIntake_kept rfl
  · rename_i d ds _
    exact fun t h => (takeDue_intake _ _ t h).congr (chooseDue_intakeOf s d ds) rfl

end
/-- A step keeps, advances or restarts the Intake's values: the command at the front of the queue, or what an idle part does. -/
theorem step_intake {s t : State} (h : step s = .next t) : IntakeStep s t := by
  unfold step at h
  split at h
  · rename_i c cs _
    have hs : intakeOf { s with pending := cs } = intakeOf s := rfl
    exact (exec_intake _ c t h).congr hs rfl
  · exact idle_intake s t h

/-- Settles O4: what a step can do to the Intake's values keeps their form. -/
theorem stepKeepsIntakeForm : Obligations.StepKeepsIntakeForm := fun _ _ hs h => (step_intake h).form hs

end Sys2Proof.Machine
end

section
/-!
PROOF. A trigger that is not taken (O28): a write of the ring has no row of its own, and its merge raises RING_SEQ.
-/

namespace Sys2Proof.Machine

section
variable {s : State} {m : PortMerge}

/-- A write of the Trigger Ring touches no field of the Setup Block and no level of a cue, so that it has no row of its own. -/
theorem hasOwnRow_of_ring (hs : MemoryForm s) (hv : m.verdict ≠ .taken) (hring : regionPart m.off = .ring) : hasOwnRow m s = false := by
  obtain ⟨hlow, -⟩ := regionPart_ring hring
  have htouch : ∀ (lanes : Lanes) (foff width : Nat), foff + width ≤ 0x100 → touches m.off lanes foff width = false :=
    fun lanes _ _ h => touches_disjoint lanes (.inr (by omega))
  have hmode : isLineModeWrite m s = false := List.any_eq_false.mpr fun n hn => by
    simp [lineMode_mergedShadow hs hv (.inr (by omega)) (List.mem_range.mp hn)]
  obtain ⟨hpol, hpref⟩ := polarities_mergedShadow hs hv (.inr (by omega : 0x30 ≤ m.off))
  have hpolarity : isPolarityWrite m s = false := List.any_eq_false.mpr fun n hn => by simp [hpol n (List.mem_range.mp hn)]
  have hpreload : isPreloadWrite m s = false := List.any_eq_false.mpr fun k hk => by
    have hk4 : k < 4 := List.mem_range.mp hk
    simp [PortMerge.writes, htouch _ (0x34 + 8 * k) 3 (by omega)]
  simp [hasOwnRow, hmode, hpolarity, hpreload, isRdWrite, isLwbWrite, isPreferenceWrite, isIntervalWrite, isLevelEdit, PortMerge.writes,
    htouch, hpref, hring]

theorem port_of_portMerge (h : portMerge s = some m) : s.port = some .controller := by
  unfold portMerge at h
  split at h
  · rename_i hport
    exact (onPort_eq_some hport).1
  · cases h

/-- A merge takes the controller's access off the port, which is no record's write: an event is raised behind it as before it. -/
theorem raises_mergeWord (hport : s.port = some .controller) (k : EventKind) (a b : Nat) (value : Word) :
    Raises k a b value s (arbitrate (raiseEvent k a b value (mergeWord m s))) := by
  have hgranted : headGranted (mergeWord m s) = headGranted s := by
    rw [headGranted, headGranted, hport]
    rfl
  have hself : mergeWord m s = { mergeWord m s with
      rst := s.rst, sweep := s.sweep, frameCounter := s.frameCounter, queue := s.queue, lost := s.lost, nextSeq := s.nextSeq } := rfl
  rw [Raises, arbitrate_queue, arbitrate_lost, arbitrate_nextSeq]
  simp only [raiseEvent, splitQueue, hgranted]
  rw [hself]
  split_ifs <;> exact ⟨rfl, rfl, rfl⟩

/-- A trigger that is not taken is merged, and RING_SEQ raised with what it carried (R94). -/
theorem performMerge_misplaced (hrow : hasOwnRow m s = false) (hv : m.verdict = .misplaced) (hring : regionPart m.off = .ring) :
    performMerge m s = raiseEvent .ringSeq ((m.off - 0x5000) / 16) (m.access.data.toNat % 65536)
      (BitVec.ofNat 32 (s.expSeq + 0x10000 * s.expSlot + 0x1000000 * (laneOf m.access.data 2).toNat)) (mergeWord m s) := by
  have hseq : (m.access.data.extractLsb' 0 16).toNat = m.access.data.toNat % 65536 := by simp
  rw [performMerge_of_noRow hrow, if_pos hring, ringEffects, if_pos hv, hseq]
  rfl

end

/-- Settles O28: the trigger's own write, and one event behind it. -/
theorem misplacedTriggerRaisesRingSeq : Obligations.MisplacedTriggerRaisesRingSeq := by
  intro s m hs hm hv hring
  have hrow := hasOwnRow_of_ring hs hm.1.2 hring
  have hframe := unchangedBut_plainMerge (performMerge_of_noRow_only hrow)
  refine ⟨_, exec_merges (p := fun m t => !hasOwnRow m t) (by simp [mergeRows]) (by simp [hrow]) hm, ?_,
    hframe .intake (by simp [mergeParts]), hframe⟩
  rw [performMerge_misplaced hrow hv hring]
  exact raises_mergeWord (port_of_portMerge hm.1.1) _ _ _ _

end Sys2Proof.Machine
end

section
/-!
PROOF. TIMER_START and TIMER_STOP (O42): what a start leaves of a timer, and a take whose body writes one timer.
-/

namespace Sys2Proof.Machine

/-! ### A timer started (R117) -/

/-- Timer `k` as a start leaves it: in the phase of its mode from its counter or its preload, or as it was. -/
def startedTimer (s : State) (k : Nat) : CueTimer :=
  let x := timerOf s k
  let p := timerPreload s.shadow k
  if x.phase ≠ .stopped ∨ panicAsserted s = true ∨ x.counter = 0 ∧ p = 0 then x
  else ⟨if timerMode s.shadow k = .hold ∨ timerMode s.shadow k = .win ∧ s.lockout.state ≠ .locked then .waiting else .counting,
    if x.counter = 0 then p else x.counter⟩

theorem startPhase_eq (s : State) (k : Nat) : startPhase s k =
    if timerMode s.shadow k = .hold ∨ timerMode s.shadow k = .win ∧ s.lockout.state ≠ .locked then .waiting else .counting := by
  unfold startPhase
  cases timerMode s.shadow k <;> simp

theorem startTimer_eq (k : Nat) (s : State) : startTimer k s = setTimer k (startedTimer s k) s := by
  simp only [startTimer, startedTimer, startPhase_eq, running, Bool.or_eq_true, Bool.and_eq_true, bne_iff_ne, beq_iff_eq, or_assoc]
  split
  · exact (setTimer_self k s).symm
  · rfl

/-! ### The take -/

section
variable {s : State} {m : PortMerge} {byte k : Nat}

/-- The trigger changes nothing that a start goes by. -/
theorem startedTimer_bodyStart (hs : MemoryForm s) (h : Takes s m byte) (hk : k < 4) :
    startedTimer (bodyStart m s) k = startedTimer s k := by
  have hmode : timerModeCode (bodyStart m s).shadow k = timerModeCode s.shadow k :=
    congrArg (· % 4) (byteAt_bodyStart hs h (by omega))
  obtain ⟨-, hlow⟩ := slotOffset_slot h
  have hpreload : timerPreload (bodyStart m s).shadow k = timerPreload s.shadow k :=
    readLe_congr fun i hi => readByte_bodyStart hs (.inl (by omega))
  simp only [startedTimer, timerMode, hmode, hpreload]
  rfl

/-- A take whose body writes timer `k` alone. -/
theorem timer_take (h : Takes s m byte) (hk : k < 4) (y : CueTimer) :
    let t := arbitrate (handResult m.slot .done (setTimer k y (bodyStart m s)))
    Answered m .done s t ∧ timerOf t k = y ∧ (∀ j, j ≠ k → timerOf t j = timerOf s j) ∧ unchangedBut (takeParts ++ [.timers]) s t := by
  intro t
  have htimer : ∀ j, timerOf t j = if k = j ∧ j < 4 then y else timerOf s j := fun j =>
    (timerOf_arbitrate _ j).trans (timerOf_setTimer k j y (bodyStart m s))
  refine ⟨answered_arbitrate h .done rfl, ?_, fun j hj => ?_, unchangedBut_take .done rfl (same_of_linesBlock rfl (.inr rfl) (.inr rfl)
    (.inl (by simp)) (.inr rfl) (.inr rfl) (.inr ⟨rfl, rfl, rfl⟩))⟩
  · rw [htimer, if_pos ⟨rfl, hk⟩]
  · rw [htimer, if_neg fun he => hj he.1.symm]

/-- A start whose arguments are in range is carried out. -/
theorem bodyOf_timerStart (hs : MemoryForm s) (h : Takes s m byte) (hk : (argsOf s m).b0 ≤ 3)
    (hmode : timerMode s.shadow (argsOf s m).b0 = .hold → lineMode s.shadow (timerLine s.shadow (argsOf s m).b0) = .hold) :
    bodyOf 0x18 (argsOf s m) (bodyStart m s) = (setTimer (argsOf s m).b0 (startedTimer s (argsOf s m).b0) (bodyStart m s), .done) := by
  have hgood : ¬ timerStartBad (bodyStart m s) (argsOf s m).b0 = true := by
    rw [timerStartBad_bodyStart hs h (argsOf_b0_lt s m), timerStartBad_iff]
    rintro (hbig | ⟨hhold, hline⟩)
    · exact absurd hk (Nat.not_le.mpr hbig)
    · exact hline (hmode hhold)
  rw [← startedTimer_bodyStart hs h (Nat.lt_succ_of_le hk), ← startTimer_eq]
  exact if_neg hgood

/-- So is a stop. -/
theorem bodyOf_timerStop (hk : (argsOf s m).b0 ≤ 3) : bodyOf 0x19 (argsOf s m) (bodyStart m s) =
    (setTimer (argsOf s m).b0 (panicStopped s.shadow (argsOf s m).b0 (timerOf s (argsOf s m).b0)) (bodyStart m s), .done) := by
  have hstop := stopTimer_eq (argsOf s m).b0 (bodyStart m s)
  exact (if_neg (Nat.not_lt.mpr hk)).trans (congrArg (·, ResultCode.done) hstop)

end

/-- Settles O42: each body writes the one timer. -/
theorem timerCommandsStartAndStop : Obligations.TimerCommandsStartAndStop := by
  intro s m byte hs h k x p hk
  have hk4 : k < 4 := Nat.lt_succ_of_le hk
  constructor
  · rintro rfl hmode
    exact ⟨_, exec_of_body (i := .timerStart) hs h (by decide) (bodyOf_timerStart hs h hk hmode), timer_take h hk4 _⟩
  · rintro rfl
    exact ⟨_, exec_of_body (i := .timerStop) hs h (by decide) (bodyOf_timerStop hk), timer_take h hk4 _⟩

end Sys2Proof.Machine
end

section
/-!
PROOF. METER_CLEAR (O46): the clip counters in its mask, and the bytes of the Status Block that show them.
-/

namespace Sys2Proof.Machine

/-- METER_CLEAR of one bus. -/
def clearMeter (mask : BitVec 4) (s : State) (b : Nat) : State :=
  if mask.getLsbD b then setBus b { busOf s b with clips := 0 } s else s

theorem clearMeter_only (mask : BitVec 4) (s : State) (b : Nat) :
    clearMeter mask s b = { s with buses := (clearMeter mask s b).buses } := by
  unfold clearMeter
  split <;> rfl

theorem busOf_clearMeter (mask : BitVec 4) (s : State) (c : Nat) {b : Nat} (hb : b < 4) :
    busOf (clearMeter mask s c) b = if c = b ∧ mask.getLsbD b = true then { busOf s b with clips := 0 } else busOf s b := by
  unfold clearMeter
  split
  · rename_i hm
    rw [busOf_setBus]
    by_cases hcb : c = b
    · subst hcb
      rw [if_pos ⟨rfl, hb⟩, if_pos ⟨rfl, hm⟩]
    · rw [if_neg fun he => hcb he.1, if_neg fun he => hcb he.1]
  · rename_i hm
    rw [if_neg]
    rintro ⟨rfl, hset⟩
    exact hm hset

/-- A pass over buses clears those of the mask; a bus that it comes to twice is as after the first time. -/
theorem foldl_clearMeter (mask : BitVec 4) (bs : List Nat) (s : State) :
    bs.foldl (clearMeter mask) s = { s with buses := (bs.foldl (clearMeter mask) s).buses } ∧
      ∀ b, b < 4 → busOf (bs.foldl (clearMeter mask) s) b =
        if b ∈ bs ∧ mask.getLsbD b = true then { busOf s b with clips := 0 } else busOf s b := by
  induction bs generalizing s with
  | nil => exact ⟨rfl, fun b _ => by simp⟩
  | cons c bs ih =>
    obtain ⟨honly, hbuses⟩ := ih (clearMeter mask s c)
    refine ⟨?_, fun b hb => ?_⟩
    · rw [List.foldl_cons, honly, clearMeter_only]
    · rw [List.foldl_cons, hbuses b hb, busOf_clearMeter mask s c hb]
      by_cases hcb : c = b
      · subst hcb
        cases mask.getLsbD c <;> simp
      · simp [hcb, Ne.symm hcb]

/-- METER_CLEAR changes the buses alone. -/
theorem clearMeters_only (mask : BitVec 4) (s : State) : clearMeters mask s = { s with buses := (clearMeters mask s).buses } :=
  (foldl_clearMeter mask (List.range 4) s).1

theorem busOf_clearMeters (n : Nat) (s : State) {b : Nat} (hb : b < 4) : busOf (clearMeters (BitVec.ofNat 4 n) s) b =
    if n / 2 ^ b % 2 = 1 then { busOf s b with clips := 0 } else busOf s b := by
  have hbit : (BitVec.ofNat 4 n).getLsbD b = true ↔ n / 2 ^ b % 2 = 1 := by
    rw [BitVec.getLsbD_ofNat]
    simp [hb, Nat.testBit_eq_decide_div_mod_eq]
  refine ((foldl_clearMeter _ (List.range 4) s).2 b hb).trans (if_congr ?_ rfl rfl)
  rw [hbit, List.mem_range, and_iff_right hb]

/-- Block 4 of the Status Block shows the clip counters behind the four duck gains (R23). -/
theorem statusBytes_clips (s : State) {b : Nat} (hb : b < 4) :
    ((statusBytes s 4).drop (8 + 2 * b)).take 2 = leBytes 2 (busOf s b).clips := by
  interval_cases b <;> rfl

/-- The frame of a change of the buses alone. -/
theorem same_of_buses {p : Part} {s t : State} (h : t = { s with buses := t.buses }) (hp : p ≠ .buses) : Same p s t := by
  cases p
  case buses => exact absurd rfl hp
  case stale =>
    rw [h]
    exact same_refl .stale s
  all_goals
    rw [h]
    simp [Same, Kept, servedVoice, writeBacksLeft, marksLeft, againLeft, CopyLeft, voiceOf]

/-- Settles O46: the pass over the four buses, and nothing else of the take. -/
theorem meterClearClearsMaskedCounters : Obligations.MeterClearClearsMaskedCounters := by
  intro s m hs h
  have honly := clearMeters_only (BitVec.ofNat 4 (argsOf s m).b0) (bodyStart m s)
  have hbody : bodyOf 0x30 (argsOf s m) (bodyStart m s) = (clearMeters (BitVec.ofNat 4 (argsOf s m).b0) (bodyStart m s), .done) := rfl
  refine ⟨_, exec_of_body (i := .meterClear) hs h (by decide) hbody, answered_arbitrate h .done (by rw [honly]), fun b hb => ?_,
    fun b hb => statusBytes_clips _ hb, unchangedBut_take .done (by rw [honly]; rfl) fun p hp => ?_⟩
  · rw [busOf, arbitrate_buses]
    exact busOf_clearMeters _ (bodyStart m s) hb
  · exact same_of_buses honly fun he => hp (by simp [he])

end Sys2Proof.Machine
end

section
/-!
PROOF. Presses and releases that the filter timer brings (O54, O55).
-/

namespace Sys2Proof.Machine

/-- Settles O54: the expiry takes the press or the release, which the line's mode serves. -/
theorem filterExpiryTakesPressOrRelease : Obligations.FilterExpiryTakesPressOrRelease := by
  refine fun n s => ⟨fun h h8 => ⟨_, exec_pressComing h, pressServed_takePress n.isLt h8 ?_ ?_⟩,
    fun h h8 => ⟨_, exec_releaseComing h, releaseServed_takeRelease n.isLt ?_ ?_⟩⟩
  · simp [atPress, lineOf_setFilter]
  · simp [atPress, lineOf_setFilter]
  · simp [atRelease, lineOf_setFilter]
  · simp [atRelease, lineOf_setFilter]

/-- Settles O55: the expiry takes the press, and the line's mode hands it to the lockout. -/
theorem lockoutPressIsJudged : Obligations.LockoutPressIsJudged := by
  intro n s hn h hmode
  have htaken : takePress n (atPress n s) = lockoutPress n (atPress n s) := takePress_lockout hn hmode
  refine ⟨_, exec_pressComing h, ?_⟩
  rw [htaken]
  exact lockoutJudged_lockoutPress n.isLt (by simp [atPress, lineOf_setFilter])

end Sys2Proof.Machine
end

section
/-!
PROOF. LOCK_ARM, LOCK_REARM and LOCK_RESET (O41): the lockout written, and the WIN timers where it leaves LOCKED.
-/

namespace Sys2Proof.Machine

/-! ### WIN timers as the lockout leaves LOCKED (R120) -/

/-- A timer where the lockout leaves LOCKED. -/
def winLeft (sh : Cells) (i : Nat) (x : CueTimer) : CueTimer :=
  if timerMode sh i = .win ∧ x.phase = .counting then ⟨if timerPreload sh i = 0 then .stopped else .waiting, timerPreload sh i⟩ else x

theorem winLeave_eq (i : Nat) (s : State) : winLeave i s = setTimer i (winLeft s.shadow i (timerOf s i)) s := by
  simp only [winLeave, winLeft]
  split
  · rfl
  · exact (setTimer_self i s).symm

section
variable {s : State} {m : PortMerge} {byte : Nat}

/-- A trigger changes neither the mode nor the preload of a timer. -/
theorem winLeft_bodyStart (hs : MemoryForm s) (h : Takes s m byte) {k : Nat} (hk : k < 4) (x : CueTimer) :
    winLeft (bodyStart m s).shadow k x = winLeft s.shadow k x := by
  obtain ⟨-, hlow⟩ := slotOffset_slot h
  have hmode : timerModeCode (bodyStart m s).shadow k = timerModeCode s.shadow k :=
    congrArg (· % 4) (byteAt_bodyStart hs h (by omega))
  have hsame : timerMode (bodyStart m s).shadow k = timerMode s.shadow k := by rw [timerMode, timerMode, hmode]
  have hpreload : timerPreload (bodyStart m s).shadow k = timerPreload s.shadow k :=
    readLe_congr fun i hi => readByte_bodyStart hs (.inl (by omega))
  simp only [winLeft, hsame, hpreload]

/-! ### The takes -/

/-- A take whose body writes the lockout alone. -/
theorem lockout_take (h : Takes s m byte) (lo : Lockout) :
    let t := arbitrate (handResult m.slot .done (setLockout lo (bodyStart m s)))
    Answered m .done s t ∧ t.lockout = lo ∧ unchangedBut (takeParts ++ [.lockout, .marks]) s t := by
  have honly := setLockout_only lo (bodyStart m s)
  refine ⟨answered_arbitrate h .done (by rw [honly]), (arbitrate_lockout _).trans (setLockout_lockout lo _),
    unchangedBut_take .done (by rw [honly]; rfl) (same_of_linesBlock ?_ (.inr ?_) (.inl (by simp)) (.inr ?_) (.inr ?_) (.inl (by simp))
      (.inr ?_))⟩ <;> rw [honly]
  exact ⟨rfl, rfl, rfl⟩

/-- A take whose body takes the lockout out of LOCKED. -/
theorem lockout_take_left (hs : MemoryForm s) (h : Takes s m byte) (lo : Lockout) :
    let t := arbitrate (handResult m.slot .done (eachTimer winLeave (setLockout lo (bodyStart m s))))
    Answered m .done s t ∧ t.lockout = lo ∧ (∀ k, k < 4 → timerOf t k = winLeft s.shadow k (timerOf s k)) ∧
      unchangedBut (takeParts ++ [.lockout, .timers, .marks]) s t := by
  have honly := setLockout_only lo (bodyStart m s)
  obtain ⟨⟨ts, hts⟩, htimers⟩ := eachTimer_sets winLeave_eq (setLockout lo (bodyStart m s))
  have hu : eachTimer winLeave (setLockout lo (bodyStart m s)) =
      { bodyStart m s with lockout := lo, marks := (setLockout lo (bodyStart m s)).marks, timers := ts } := by
    rw [hts, honly]
  refine ⟨answered_arbitrate h .done (by rw [hu]), ?_, fun k hk => ?_, unchangedBut_take .done (by rw [hu]; rfl)
    (same_of_linesBlock ?_ (.inr ?_) (.inl (by simp)) (.inl (by simp)) (.inr ?_) (.inl (by simp)) (.inr ?_))⟩
  · rw [arbitrate_lockout, hu]
    rfl
  · have hresult : ∀ u : State, timerOf (handResult m.slot .done u) k = timerOf u k := fun _ => rfl
    have hsame : timerOf (setLockout lo (bodyStart m s)) k = timerOf s k := by rw [honly]; rfl
    rw [timerOf_arbitrate, hresult, htimers k hk, setLockout_shadow, hsame, winLeft_bodyStart hs h hk]
  all_goals rw [hu]
  exact ⟨rfl, rfl, rfl⟩

/-! ### The bodies (R114) -/

theorem bodyOf_lockArm (a : CommandArgs) (u : State) : bodyOf 0x10 a u =
    if u.lockout.state = .unlocked then
      (setLockout { u.lockout with state := .armed, barred := 0, late := [], reaction := 0, armClock := 0 } u, .done)
    else (u, .lockState) := rfl

/-- The lines barred behind a LOCK_REARM: the winner too. -/
def barredWithWinner (lo : Lockout) : BitVec 8 :=
  match lo.winner with
  | some n => lo.barred ||| BitVec.twoPow 8 n
  | none => lo.barred

theorem getLsbD_barredWithWinner (lo : Lockout) {n : Nat} (hn : n < 8) :
    (barredWithWinner lo).getLsbD n = (lo.barred.getLsbD n || lo.winner == some n) := by
  unfold barredWithWinner
  cases lo.winner with
  | none => simp
  | some w => simp [hn, Bool.beq_eq_decide_eq, eq_comm]

theorem bodyOf_lockRearm (a : CommandArgs) (u : State) : bodyOf 0x11 a u =
    if u.lockout.state = .locked then
      (eachTimer winLeave (setLockout
        { u.lockout with state := .armed, winner := none, barred := barredWithWinner u.lockout, late := [] } u), .done)
    else (u, .lockState) := rfl

theorem bodyOf_lockReset (a : CommandArgs) (u : State) : bodyOf 0x12 a u =
    let opened := setLockout { u.lockout with state := .unlocked, winner := none, barred := 0, late := [] } u
    if u.lockout.state = .unlocked then (u, .done)
    else (if u.lockout.state = .locked then eachTimer winLeave opened else opened, .done) := rfl

theorem lockArm_moves (hs : MemoryForm s) (h : Takes s m 0x10) : ∃ t, exec .lockArm s = .next t ∧
    (s.lockout.state = .unlocked → Answered m .done s t ∧
      t.lockout = { s.lockout with state := .armed, barred := 0, late := [], reaction := 0, armClock := 0 } ∧
      unchangedBut (takeParts ++ [.lockout, .marks]) s t) ∧
    (s.lockout.state ≠ .unlocked → Answered m .lockState s t ∧ unchangedBut takeParts s t) := by
  by_cases hstate : s.lockout.state = .unlocked
  · exact ⟨_, exec_of_body (i := .lockArm) hs h (by decide) ((bodyOf_lockArm _ _).trans (if_pos hstate)),
      fun _ => lockout_take h _, fun hno => absurd hstate hno⟩
  · exact ⟨_, exec_of_body (i := .lockArm) hs h (by decide) ((bodyOf_lockArm _ _).trans (if_neg hstate)),
      fun hyes => absurd hyes hstate, fun _ => refused_take h .lockState⟩

theorem lockRearm_moves (hs : MemoryForm s) (h : Takes s m 0x11) : ∃ t, exec .lockRearm s = .next t ∧
    (s.lockout.state = .locked → Answered m .done s t ∧
      t.lockout = { s.lockout with state := .armed, winner := none, barred := barredWithWinner s.lockout, late := [] } ∧
      (∀ k, k < 4 → timerOf t k = winLeft s.shadow k (timerOf s k)) ∧
      unchangedBut (takeParts ++ [.lockout, .timers, .marks]) s t) ∧
    (s.lockout.state ≠ .locked → Answered m .lockState s t ∧ unchangedBut takeParts s t) := by
  by_cases hstate : s.lockout.state = .locked
  · exact ⟨_, exec_of_body (i := .lockRearm) hs h (by decide) ((bodyOf_lockRearm _ _).trans (if_pos hstate)),
      fun _ => lockout_take_left hs h _, fun hno => absurd hstate hno⟩
  · exact ⟨_, exec_of_body (i := .lockRearm) hs h (by decide) ((bodyOf_lockRearm _ _).trans (if_neg hstate)),
      fun hyes => absurd hyes hstate, fun _ => refused_take h .lockState⟩

/-- LOCK_RESET by the lockout's state: OPEN stays, ARMED opens, LOCKED opens and is left. -/
theorem lockReset_moves (hs : MemoryForm s) (h : Takes s m 0x12) :
    let opened : Lockout := { s.lockout with state := .unlocked, winner := none, barred := 0, late := [] }
    ∃ t, exec .lockReset s = .next t ∧ Answered m .done s t ∧
      (s.lockout.state = .unlocked → unchangedBut takeParts s t) ∧
      (s.lockout.state = .armed → t.lockout = opened ∧ unchangedBut (takeParts ++ [.lockout, .marks]) s t) ∧
      (s.lockout.state = .locked → t.lockout = opened ∧ (∀ k, k < 4 → timerOf t k = winLeft s.shadow k (timerOf s k)) ∧
        unchangedBut (takeParts ++ [.lockout, .timers, .marks]) s t) := by
  intro opened
  have hbody := bodyOf_lockReset (argsOf s m) (bodyStart m s)
  have hlockout : (bodyStart m s).lockout = s.lockout := rfl
  simp only [hlockout] at hbody
  rcases hstate : s.lockout.state with _ | _ | _ <;>
    simp only [hstate, reduceCtorEq, if_true, if_false, false_implies, true_implies, and_true, true_and] at hbody ⊢
  · obtain ⟨hanswer, hframe⟩ := refused_take h .done
    exact ⟨_, exec_of_body (i := .lockReset) hs h (by decide) hbody, hanswer, hframe⟩
  · exact ⟨_, exec_of_body (i := .lockReset) hs h (by decide) hbody, lockout_take h opened⟩
  · exact ⟨_, exec_of_body (i := .lockReset) hs h (by decide) hbody, lockout_take_left hs h opened⟩

end

/-- Settles O41: each command by the lockout's state. -/
theorem lockCommandsMoveTheLockout : Obligations.LockCommandsMoveTheLockout := by
  refine fun s m byte hs h => ⟨?_, ?_, ?_⟩
  · rintro rfl
    exact lockArm_moves hs h
  · rintro rfl
    obtain ⟨t, hexec, hlocked, hother⟩ := lockRearm_moves hs h
    refine ⟨t, hexec, fun hstate => ?_, hother⟩
    obtain ⟨hanswer, hlockout, htimers, hframe⟩ := hlocked hstate
    refine ⟨hanswer, ?_, fun n hn => ?_, htimers, hframe⟩
    · simp only [hlockout]
    · rw [hlockout]
      exact getLsbD_barredWithWinner s.lockout hn
  · rintro rfl
    exact lockReset_moves hs h

end Sys2Proof.Machine
end

section
/-!
PROOF. Line modes and polarities at a merge (O30, O31): what each line's own effects leave of it, one line after the other.
-/

namespace Sys2Proof.Machine

/-! ### A pass over lines -/

/-- A pass over lines, each visited once: `view` is what is told of a line, `y` what a visit makes of that, and `keeps` what the visits
rely on and leave. -/
theorem foldl_lineViews {β : Type} {view : Line → β} {keeps : State → Prop} {f : State → Nat → State} {y : Nat → β → β}
    (hf : ∀ t n, n < 10 → keeps t → keeps (f t n) ∧ view (lineOf (f t n) n) = y n (view (lineOf t n)) ∧
      ∀ j, j ≠ n → lineOf (f t n) j = lineOf t j)
    (ns : List Nat) (hn : ns.Nodup) (hns : ∀ n ∈ ns, n < 10) {s : State} (hs : keeps s) (j : Nat) :
    view (lineOf (ns.foldl f s) j) = if j ∈ ns then y j (view (lineOf s j)) else view (lineOf s j) := by
  induction ns generalizing s with
  | nil => simp
  | cons n ns ih =>
    obtain ⟨hnot, hn⟩ := List.nodup_cons.mp hn
    obtain ⟨hkeeps, hown, hothers⟩ := hf s n (hns n (by simp)) hs
    rw [List.foldl_cons, ih hn (fun k hk => hns k (by simp [hk])) hkeeps]
    by_cases hj : j = n
    · subst hj
      simp [hnot, hown]
    · simp [hj, hothers j hj]

/-! ### Line modes (R104) -/

/-- Line `n` as a change of its mode from the shadow `old` to `new` leaves it. -/
def modeLeft (old new : Cells) (n : Nat) (l : Line) : Line :=
  { l with
    penalty := if lineMode old n = .lockout ∧ lineMode new n ≠ .lockout then none else l.penalty
    heldCue := if lineMode old n = .momentary ∧ lineMode new n ≠ .momentary then none else l.heldCue }

theorem lineModeEffect_lines (old : Cells) (n : Nat) (s : State) :
    (lineModeEffect old n s).lines = (setLine n (modeLeft old s.shadow n (lineOf s n)) s).lines := by
  have hkept : modeLeft old s.shadow n (lineOf s n) = lineOf s n →
      s.lines = (setLine n (modeLeft old s.shadow n (lineOf s n)) s).lines := fun h => by rw [h, setLine_self]
  simp only [lineModeEffect]
  by_cases hsame : lineMode old n = lineMode s.shadow n
  · rw [if_pos hsame]
    exact hkept (by simp [modeLeft, hsame])
  rw [if_neg hsame]
  by_cases hlock : lineMode old n = .lockout
  · have hnow : lineMode s.shadow n ≠ .lockout := fun h => hsame (hlock.trans h.symm)
    simp [modeLeft, hlock, hnow, setPenalty_lines, penaltyOf]
  by_cases hmom : lineMode old n = .momentary
  · have hnow : lineMode s.shadow n ≠ .momentary := fun h => hsame (hmom.trans h.symm)
    simp [modeLeft, hmom, hnow, setHeldCue]
  · rw [if_neg hlock, if_neg hmom]
    exact hkept (by simp [modeLeft, hlock, hmom])

/-- Every line's change of mode is taken. -/
def modesTaken (old : Cells) (s : State) : State := (List.range 8).foldl (fun t n => lineModeEffect old n t) s

theorem modesTaken_pressOnly (old : Cells) (s : State) : PressOnly s (modesTaken old s) :=
  foldl_pressOnly _ (fun t n => lineModeEffect_pressOnly old n t) _ s

theorem PressOnly.shadow_eq {s t : State} (h : PressOnly s t) : t.shadow = s.shadow := by rw [h.1]
theorem PressOnly.rst_eq {s t : State} (h : PressOnly s t) : t.rst = s.rst := by rw [h.1]

theorem lineOf_modesTaken (old : Cells) (s : State) (j : Nat) :
    lineOf (modesTaken old s) j = if j < 8 then modeLeft old s.shadow j (lineOf s j) else lineOf s j := by
  have hpass := foldl_lineViews (view := id) (keeps := fun t => t.shadow = s.shadow) (f := fun t n => lineModeEffect old n t)
    (y := modeLeft old s.shadow) (fun t n hn ht => ?_) (List.range 8) List.nodup_range
    (fun n hn => Nat.lt_trans (List.mem_range.mp hn) (by decide)) rfl j
  · simpa [modesTaken] using hpass
  · have hline : ∀ k, lineOf (lineModeEffect old n t) k = if n = k ∧ k < 10 then modeLeft old t.shadow n (lineOf t n) else lineOf t k :=
      fun k => by
        rw [lineOf, lineModeEffect_lines]
        exact lineOf_setLine ..
    refine ⟨(lineModeEffect_pressOnly old n t).shadow_eq.trans ht, ?_, fun k hk => ?_⟩
    · rw [hline, if_pos ⟨rfl, hn⟩, ht]
      rfl
    · rw [hline, if_neg fun h => hk h.1.symm]

/-- They change lines and marks alone. -/
theorem modesTaken_only (old : Cells) (s : State) :
    modesTaken old s = { s with lines := (modesTaken old s).lines, marks := (modesTaken old s).marks } := by
  unfold modesTaken
  generalize List.range 8 = ns
  induction ns generalizing s with
  | nil => rfl
  | cons n ns ih =>
    rw [List.foldl_cons, ih]
    simp only [lineModeEffect, setHeldCue, setLine]
    split_ifs
    · rfl
    · rw [setPenalty_only]
    · rfl
    · rfl

/-! ### Polarities (R103) -/

/-- What the polarity of a line goes by and moves: its pin's level, its filter, its filter timer. -/
def filterView (l : Line) : Bool × FilterState × Nat := (l.high, l.filter, l.timer)

/-- What line `n`'s filter becomes where the polarities go from the shadow `old` to `new`. -/
def repolarized (old new : Cells) (n : Nat) (x : Bool × FilterState × Nat) : Bool × FilterState × Nat :=
  (x.1, afterEdge (glitch new) (x.1 == activeHigh old n) (x.1 == activeHigh new n) x.2.1 x.2.2)

/-- A change of polarity is an edge of the line with its pin as it was. -/
theorem polarityEffect_edgeTaken (old : Cells) {n : Nat} (hn : n < 10) {s : State} (hrst : s.rst = false) :
    EdgeTaken n (lineOf s n).high (readsActive old n (lineOf s n)) (readsActive s.shadow n (lineOf s n)) s
      (arbitrate (polarityEffect old n s)) := by
  have hpin : setPin n (lineOf s n).high s = s := setLine_self n s
  have hedge := edgeTaken_judgedEdge (n := n) (high := (lineOf s n).high) (was := readsActive old n (lineOf s n))
    (now := readsActive s.shadow n (lineOf s n)) hn hrst
  rw [hpin] at hedge
  exact hedge

/-- Every line's change of polarity is taken. -/
def polaritiesTaken (old : Cells) (s : State) : State := (List.range 10).foldl (fun t n => polarityEffect old n t) s

theorem polaritiesTaken_pressOnly (old : Cells) (s : State) : PressOnly s (polaritiesTaken old s) :=
  foldl_pressOnly _ (fun t n => judgedEdge_pressOnly n _ _ t) _ s

theorem filterView_polaritiesTaken (old : Cells) {s : State} (hrst : s.rst = false) {j : Nat} (hj : j < 10) :
    filterView (lineOf (polaritiesTaken old s) j) = repolarized old s.shadow j (filterView (lineOf s j)) := by
  have hpass := foldl_lineViews (view := filterView) (keeps := fun t => t.shadow = s.shadow ∧ t.rst = false)
    (f := fun t n => polarityEffect old n t) (y := repolarized old s.shadow) (fun t n hn ht => ?_) (List.range 10) List.nodup_range
    (fun n hn => List.mem_range.mp hn) ⟨rfl, hrst⟩ j
  · simpa [polaritiesTaken, hj] using hpass
  · obtain ⟨hshadow, hrst⟩ := ht
    have honly : PressOnly t (polarityEffect old n t) := judgedEdge_pressOnly n _ _ t
    obtain ⟨hpin, hothers, hmoved, -, -, -⟩ := polarityEffect_edgeTaken old hn hrst
    simp only [lineOf_arbitrate] at hpin hothers hmoved
    rw [hshadow] at hmoved
    refine ⟨⟨honly.shadow_eq.trans hshadow, honly.rst_eq.trans hrst⟩, ?_, hothers⟩
    exact Prod.ext hpin hmoved

/-- Where no line is judged otherwise nothing is done. -/
theorem polarityEffect_same {old : Cells} {n : Nat} {s : State}
    (h : readsActive old n (lineOf s n) = readsActive s.shadow n (lineOf s n)) : polarityEffect old n s = s := by
  simp [polarityEffect, judgedEdge, h]

/-- Where one line alone is judged otherwise its own effect is all. -/
theorem polaritiesTaken_one {old : Cells} {n : Nat} (hn : n < 10) {s : State} (hrst : s.rst = false)
    (h : ∀ j, j < 10 → j ≠ n → readsActive old j (lineOf s j) = readsActive s.shadow j (lineOf s j)) :
    polaritiesTaken old s = polarityEffect old n s := by
  obtain ⟨pre, post, hsplit, hpre, hpost, -, -, -⟩ := split_once List.nodup_range (List.mem_range.mpr hn)
  have hlt : ∀ j ∈ pre ++ n :: post, j < 10 := fun j hj => List.mem_range.mp (hsplit ▸ hj)
  have honly : PressOnly s (polarityEffect old n s) := judgedEdge_pressOnly n _ _ s
  have hothers := (polarityEffect_edgeTaken old hn hrst).others
  simp only [lineOf_arbitrate] at hothers
  rw [polaritiesTaken, hsplit, List.foldl_append, List.foldl_cons,
    foldl_eq_self fun j hj => polarityEffect_same (h j (hlt j (by simp [hj])) fun he => hpre (he ▸ hj))]
  refine foldl_eq_self fun j hj => polarityEffect_same ?_
  have hne : j ≠ n := fun he => hpost (he ▸ hj)
  rw [hothers j hne, honly.shadow_eq]
  exact h j (hlt j (by simp [hj])) hne

/-! ### The merge (R32) -/

/-- A change of the clock preference is taken. -/
def preferenceTaken (old : Cells) (s : State) : State :=
  if preferInternal old = preferInternal s.shadow then s else preferenceChanged s

/-- The owners of the Setup Block's fields, one after the other. -/
theorem setupEffects_eq (old : Cells) (m : PortMerge) (s : State) : setupEffects old m s =
    ownersAct m (preferenceTaken old (eachTimer (preloadEffect m) (polaritiesTaken old (modesTaken old s)))) := rfl

theorem preloadEffect_eq (m : PortMerge) (i : Nat) (s : State) : preloadEffect m i s =
    setTimer i (if m.writes (0x34 + 8 * i) 3 = true ∧ (timerOf s i).phase = .stopped then ⟨.stopped, timerPreload s.shadow i⟩
      else timerOf s i) s := by
  unfold preloadEffect
  split
  · rfl
  · exact (setTimer_self i s).symm

theorem preferenceTaken_lines (old : Cells) (s : State) : (preferenceTaken old s).lines = s.lines := by
  simp only [preferenceTaken, preferenceChanged, raiseClock]
  split_ifs
  · rfl
  · split
    · rfl
    · rw [setClock_only]
    · rw [raiseEvent_lines, setClock_only]
  · rfl

/-- Modes and polarities alone reach the lines. -/
theorem setupEffects_lines (old : Cells) (m : PortMerge) (s : State) :
    (setupEffects old m s).lines = (polaritiesTaken old (modesTaken old s)).lines := by
  rw [setupEffects_eq, ownersAct_only]
  exact (preferenceTaken_lines _ _).trans (eachTimer_lines (y := fun sh i x =>
    if m.writes (0x34 + 8 * i) 3 = true ∧ x.phase = .stopped then ⟨.stopped, timerPreload sh i⟩ else x) (preloadEffect_eq m) _)

section
variable {s : State} {m : PortMerge}

/-- A merge that writes no preload, no Rd and no board interval, and changes no clock preference, reaches the lines alone. -/
theorem setupEffects_linesAlone (hpreload : isPreloadWrite m s = false) (hpref : isPreferenceWrite m s = false)
    (hrd : isRdWrite m s = false) (hinterval : isIntervalWrite m s = false) :
    setupEffects s.shadow m (mergeWord m s) = polaritiesTaken s.shadow (modesTaken s.shadow (mergeWord m s)) := by
  have honly := (modesTaken_pressOnly s.shadow (mergeWord m s)).trans (polaritiesTaken_pressOnly s.shadow _)
  have hshadow : (polaritiesTaken s.shadow (modesTaken s.shadow (mergeWord m s))).shadow = mergedShadow m s.shadow := honly.shadow_eq
  have hnone : ∀ k, k < 4 → m.writes (0x34 + 8 * k) 3 = false := fun k hk => by
    simpa using List.any_eq_false.mp hpreload k (List.mem_range.mpr hk)
  have hsame : preferInternal s.shadow = preferInternal (mergedShadow m s.shadow) := by simpa [isPreferenceWrite] using hpref
  have hw : m.writes 0x04 1 = false := by
    simp only [isRdWrite, Bool.or_eq_false_iff] at hrd
    exact hrd.2
  have hi : m.writes 0x06 2 = false := hinterval
  rw [setupEffects_eq, eachTimer_preload_none _ hnone, preferenceTaken, hshadow, if_pos hsame, ownersAct_only, hw, hi]
  rfl

theorem performMerge_setupEffects (hoff : m.off < 0x100) :
    performMerge m s = setupEffects s.shadow m (mergeWord m s) := by
  simp only [performMerge, regionPart_setup hoff]

theorem performMerge_shadow : (performMerge m s).shadow = mergedShadow m s.shadow := by
  rw [(performMerge_effectsOnly m s).1]
  rfl

theorem lineOf_mergeWord (j : Nat) : lineOf (mergeWord m s) j = lineOf s j := rfl

/-- A word that changes a line's mode lies in the line configuration. -/
theorem off_of_lineModeWrite (hs : MemoryForm s) (hv : m.verdict ≠ .taken) (h : isLineModeWrite m s = true) : m.off < 0x100 := by
  obtain ⟨n, hn, hne⟩ := List.any_eq_true.mp h
  by_contra hoff
  have hsame := lineMode_mergedShadow hs hv (.inr (by omega)) (List.mem_range.mp hn)
  simp [hsame] at hne

/-- So does one that changes a polarity, or it is the first of the block. -/
theorem off_of_polarityWrite (hs : MemoryForm s) (hv : m.verdict ≠ .taken) (h : isPolarityWrite m s = true) : m.off < 0x100 := by
  obtain ⟨n, hn, hne⟩ := List.any_eq_true.mp h
  by_contra hoff
  have hsame := (polarities_mergedShadow hs hv (.inr (by omega))).1 n (List.mem_range.mp hn)
  simp [hsame] at hne

/-- The word's own write in the Setup Block changes the parts every merge changes. -/
theorem same_mergeWord_setup (hoff : m.off < 0x100) {p : Part} (hp : p ∉ mergeParts) : Same p s (mergeWord m s) := by
  cases p
  case path | port | mem | shadow | writeBacks => exact absurd (by simp [mergeParts]) hp
  case stale =>
    intro b _ hb
    cases hb
  all_goals simp [Same, Kept, mergeWord, accessDone, portFree, PortMerge.isSlotWord, regionPart_setup hoff, servedVoice, voiceOf,
    marksLeft, againLeft, CopyLeft]

/-- A merge that changes line modes and nothing else with an owner. -/
theorem unchangedBut_modesTaken (hoff : m.off < 0x100) :
    unchangedBut (mergeParts ++ [.lines, .marks]) s (arbitrate (modesTaken s.shadow (mergeWord m s))) := by
  have honly := modesTaken_only s.shadow (mergeWord m s)
  have hport : (modesTaken s.shadow (mergeWord m s)).port = none := by rw [honly]; rfl
  refine unchangedBut_arbitrated (fun p hp => ?_) (by simp [hport, mergeParts])
  obtain ⟨hmerge, hown⟩ : p ∉ mergeParts ∧ p ∉ [Part.lines, .marks] := by simpa only [List.mem_append, not_or] using hp
  by_cases hstale : p = .stale
  · subst hstale
    intro b _ hb
    exact absurd (hport.symm.trans hb) (by simp)
  · refine same_trans (fun he => hmerge (by simp [he, mergeParts])) hstale (same_mergeWord_setup hoff hmerge) ?_
    exact same_of_linesBlock (by rw [honly]) (.inl (by simp)) (.inr (by rw [honly])) (.inr (by rw [honly])) (.inr (by rw [honly]))
      (.inl (by simp)) (.inr (by rw [honly]; exact ⟨rfl, rfl, rfl⟩)) p hown

/-- Where no line's mode changes nothing is done. -/
theorem modesTaken_none (hmode : isLineModeWrite m s = false) : modesTaken s.shadow (mergeWord m s) = mergeWord m s :=
  foldl_eq_self fun n hn => by
    have hsame : lineMode s.shadow n = lineMode (mergedShadow m s.shadow) n := by
      simpa using List.any_eq_false.mp hmode n hn
    exact if_pos hsame

/-- Where no polarity changes no line is judged otherwise. -/
theorem polaritiesTaken_none (hpol : isPolarityWrite m s = false) :
    polaritiesTaken s.shadow (modesTaken s.shadow (mergeWord m s)) = modesTaken s.shadow (mergeWord m s) := by
  refine foldl_eq_self fun n hn => polarityEffect_same ?_
  have hsame : activeHigh s.shadow n = activeHigh (mergedShadow m s.shadow) n := by
    simpa using List.any_eq_false.mp hpol n hn
  rw [(modesTaken_pressOnly s.shadow (mergeWord m s)).shadow_eq]
  exact congrArg _ hsame

end

/-- Settles O30: without a change of polarity the lines are as their modes leave them. -/
theorem lineModeChangeTakesEffect : Obligations.LineModeChangeTakesEffect := by
  intro s m hs hm hmode hpol
  have hoff := off_of_lineModeWrite hs hm.1.2 hmode
  have hperform := performMerge_setupEffects (s := s) hoff
  have hshadow : (arbitrate (performMerge m s)).shadow = mergedShadow m s.shadow := (arbitrate_shadow _).trans performMerge_shadow
  have hline : ∀ j, lineOf (arbitrate (performMerge m s)) j = lineOf (modesTaken s.shadow (mergeWord m s)) j := fun j => by
    rw [lineOf_arbitrate, hperform, lineOf, setupEffects_lines, polaritiesTaken_none hpol, lineOf]
  simp only [lineOf_modesTaken, lineOf_mergeWord] at hline
  refine ⟨_, exec_merges (i := .lineModeWrite) (by simp [mergeRows]) hmode hm, fun n hn => ?_, hline 8, hline 9,
    fun hpreload hpref hrd hinterval => ?_⟩
  · rw [hline, if_pos hn, hshadow]
    rfl
  · rw [hperform, setupEffects_linesAlone hpreload hpref hrd hinterval, polaritiesTaken_none hpol]
    exact unchangedBut_modesTaken hoff

/-- Settles O31: the lines behind the merge are those behind the changes of polarity, each an edge of its line; where one line alone is
judged otherwise, and nothing else with an owner changes, the merge is that edge. -/
theorem polarityChangeIsAnEdge : Obligations.PolarityChangeIsAnEdge := by
  intro s m hs hm hpol hrst
  have hoff := off_of_polarityWrite hs hm.1.2 hpol
  have hperform := performMerge_setupEffects (s := s) hoff
  have hshadow : (arbitrate (performMerge m s)).shadow = mergedShadow m s.shadow := (arbitrate_shadow _).trans performMerge_shadow
  have hmodes := modesTaken_pressOnly s.shadow (mergeWord m s)
  refine ⟨_, exec_merges (i := .polarityWrite) (by simp [mergeRows]) hpol hm, fun n hn => ⟨?_, ?_⟩⟩
  · have hview := filterView_polaritiesTaken s.shadow (hmodes.rst_eq.trans hrst) hn
    have hsame : filterView (lineOf (modesTaken s.shadow (mergeWord m s)) n) = filterView (lineOf s n) := by
      rw [lineOf_modesTaken]
      split <;> rfl
    rw [hsame, hmodes.shadow_eq, lineOf, ← setupEffects_lines s.shadow m, ← hperform, ← arbitrate_lines] at hview
    rw [hshadow]
    exact congrArg Prod.snd hview
  · intro hmode hpref hpreload hrd hinterval hglitch hothers
    rw [hshadow] at hglitch hothers ⊢
    have hone : performMerge m s = polarityEffect s.shadow n (mergeWord m s) := by
      rw [hperform, setupEffects_linesAlone hpreload hpref hrd hinterval, modesTaken_none hmode]
      exact polaritiesTaken_one hn hrst hothers
    obtain ⟨-, -, -, -, hpress, hrelease⟩ := polarityEffect_edgeTaken s.shadow hn (s := mergeWord m s) hrst
    have hpin : setPin n (lineOf (mergeWord m s) n).high (mergeWord m s) = mergeWord m s := setLine_self n _
    rw [hpin, ← hone] at hpress hrelease
    exact ⟨fun hwas hnow hup => hpress ⟨hwas, hnow, hup, hglitch⟩, fun hwas hnow hdown => hrelease ⟨hwas, hnow, hdown, hglitch⟩⟩

end Sys2Proof.Machine
end

section
/-!
SUPPORT. What a frame event leaves (R166): its beginning, which counts, and its tasks, which leave the counts and the board flags.
-/

namespace Sys2Proof.Machine

/-! ### The counts (R116, R178) -/

/-- A timer behind a frame event (R116, R118 to R120). -/
def timerCounted (sh : Cells) (i : Nat) (x : CueTimer) : CueTimer :=
  if x.phase = .counting ∧ x.counter ≤ 1 then afterFire (timerMode sh i) (timerPreload sh i)
  else if x.phase = .counting then { x with counter := x.counter - 1 } else x

theorem reachesZero_iff (s : State) (k : Nat) :
    reachesZero s k = true ↔ (timerOf s k).phase = .counting ∧ (timerOf s k).counter ≤ 1 := by
  simp [reachesZero]

theorem countTimer_eq (i : Nat) (s : State) : countTimer i s = setTimer i (timerCounted s.shadow i (timerOf s i)) s := by
  simp only [countTimer, timerCounted, reachesZero_iff]
  split
  · rfl
  · split
    · rfl
    · exact (setTimer_self i s).symm

theorem timerAfterFrame_eq (s : State) (k : Nat) : timerAfterFrame s k = timerCounted s.shadow k (timerOf s k) := by
  unfold timerAfterFrame timerCounted
  dsimp only
  by_cases hp : (timerOf s k).phase = .counting
  · by_cases hc : (timerOf s k).counter ≤ 1
    · rw [if_neg (not_not.mpr hp), if_neg (Nat.not_lt.mpr hc), if_pos (And.intro hp hc)]
      cases timerMode s.shadow k <;> rfl
    · rw [if_neg (not_not.mpr hp), if_pos (Nat.not_le.mp hc), if_neg fun h => hc h.2, if_pos hp]
  · rw [if_pos hp, if_neg fun h => hp h.1, if_neg hp]

theorem reachesInterval_iff (s : State) :
    reachesInterval s = true ↔ boardInterval s.shadow ≠ 0 ∧ boardInterval s.shadow ≤ s.boardCount + 1 := by
  simp [reachesInterval]

/-- The board interval's count changes itself, voices' board flags and marks. -/
theorem countBoard_only (s : State) : countBoard s =
    { s with boardCount := countAfterFrame s, marks := (countBoard s).marks, voices := (countBoard s).voices } := by
  unfold countBoard countAfterFrame
  by_cases hzero : boardInterval s.shadow = 0
  · rw [if_neg fun h => ((reachesInterval_iff s).mp h).1 hzero, if_pos hzero, if_pos hzero]
  · by_cases hlt : s.boardCount + 1 < boardInterval s.shadow
    · rw [if_neg fun h => Nat.not_le.mpr hlt ((reachesInterval_iff s).mp h).2, if_neg hzero, if_neg hzero, if_pos hlt]
    · rw [if_pos ((reachesInterval_iff s).mpr ⟨hzero, Nat.not_lt.mp hlt⟩), if_neg hzero, if_neg hlt]
      rfl

/-- A voice as the end of the board interval leaves it. -/
def boardFlagged (x : Voice) : Voice := if sounding x = true then { x with boardFlag := true } else x

theorem voiceOf_boardExpiry (s : State) (v : Nat) : voiceOf (boardExpiry s) v = boardFlagged (voiceOf s v) :=
  bankGet_map boardFlagged s.voices v Voice.blank

/-- Where no voice sounds it leaves the voices. -/
theorem countBoard_voices {s : State} (h : ∀ v, v < 24 → sounding (voiceOf s v) = false) : (countBoard s).voices = s.voices := by
  have hmap : (boardExpiry s).voices = s.voices := by
    ext v hv
    have hvoice := voiceOf_boardExpiry s v
    have hfix : boardFlagged (voiceOf s v) = voiceOf s v := if_neg (by simp [h v hv])
    rw [hfix] at hvoice
    simpa [voiceOf, bankGet, hv] using hvoice
  unfold countBoard
  split
  · exact hmap
  · split <;> rfl

/-- A frame event begins with the counts. -/
theorem beginFrame_eq (s : State) :
    (∃ ts, beginFrame s = countBoard { s with frameCounter := s.frameCounter + 1, timers := ts }) ∧
      ∀ k, k < 4 → timerOf (beginFrame s) k = timerAfterFrame s k := by
  obtain ⟨⟨ts, hts⟩, htimers⟩ := eachTimer_sets countTimer_eq { s with frameCounter := s.frameCounter + 1 }
  refine ⟨⟨ts, by rw [beginFrame, hts]⟩, fun k hk => ?_⟩
  have hsame : ∀ t, timerOf (countBoard t) k = timerOf t k := fun t => by rw [countBoard_only, timerOf, timerOf]
  rw [beginFrame, hsame, htimers k hk, timerAfterFrame_eq]
  rfl

theorem beginFrame_only (s : State) : beginFrame s =
    { s with
      frameCounter := s.frameCounter + 1, timers := (beginFrame s).timers, boardCount := countAfterFrame s
      marks := (beginFrame s).marks, voices := (beginFrame s).voices } := by
  obtain ⟨⟨ts, hts⟩, -⟩ := beginFrame_eq s
  rw [hts, countBoard_only]
  rfl

theorem beginFrame_voices {s : State} (h : ∀ v, v < 24 → sounding (voiceOf s v) = false) : (beginFrame s).voices = s.voices := by
  obtain ⟨⟨ts, hts⟩, -⟩ := beginFrame_eq s
  rw [hts]
  exact countBoard_voices (s := { s with frameCounter := s.frameCounter + 1, timers := ts }) h

/-- The frame event that ends the board interval flags every sounding voice and marks every block. -/
theorem beginFrame_expired {s : State} (h : reachesInterval s = true) :
    (∀ v, sounding (voiceOf s v) = true → (voiceOf (beginFrame s) v).boardFlag = true) ∧
      (beginFrame s).marks = Vector.replicate 5 true := by
  obtain ⟨⟨ts, hts⟩, -⟩ := beginFrame_eq s
  have hexpiry : beginFrame s = boardExpiry { s with frameCounter := s.frameCounter + 1, timers := ts } := hts.trans (if_pos h)
  refine ⟨fun v hv => ?_, by rw [hexpiry]; rfl⟩
  rw [hexpiry, voiceOf_boardExpiry]
  exact (congrArg Voice.boardFlag (if_pos hv)).trans rfl

/-! ### The tasks -/

/-- What a task of a frame event leaves: all but the buses and the Voice Engine's parts, and every board flag set. -/
structure TaskTaken (s t : State) : Prop where
  only : t = { s with
    buses := t.buses, voices := t.voices, clips := t.clips, mirrorFlags := t.mirrorFlags, mirrorAgain := t.mirrorAgain
    slots := t.slots, queue := t.queue, lost := t.lost, nextSeq := t.nextSeq, port := t.port, draws := t.draws }
  port : PortStands s t
  flags : ∀ v, (voiceOf s v).boardFlag = true → (voiceOf t v).boardFlag = true

theorem TaskTaken.refl (s : State) : TaskTaken s s := ⟨rfl, .inl rfl, fun _ h => h⟩

theorem TaskTaken.trans {s t u : State} (h1 : TaskTaken s t) (h2 : TaskTaken t u) : TaskTaken s u where
  only := by rw [h2.only, h1.only]
  port := h1.port.trans h2.port
  flags v h := h2.flags v (h1.flags v h)

theorem VoiceOnly.taskTaken {s t : State} (h : VoiceOnly s t)
    (hf : ∀ v, (voiceOf s v).boardFlag = true → (voiceOf t v).boardFlag = true) : TaskTaken s t :=
  ⟨by rw [h.1], h.2, hf⟩

theorem releasedVoice_boardFlag (len : Option Nat) (f c : EndReason) {x : Voice} (h : x.boardFlag = true) :
    (releasedVoice len f c x).boardFlag = true := by
  unfold releasedVoice
  split
  · exact h
  · rfl
  · rfl
  · exact h
  · split <;> rfl
  · split <;> rfl

theorem reachedByFire_boardFlag (cue : Nat) (c : CueRecord) {x : Voice} (h : x.boardFlag = true) :
    (reachedByFire cue c x).boardFlag = true := by
  unfold reachedByFire
  split_ifs
  · exact h
  · rfl
  · exact h
  · exact releasedVoice_boardFlag _ _ _ h
  · exact h

theorem allocate_lt {s : State} {p v : Nat} {steal : Bool} (h : allocate s p = some (v, steal)) : v < 24 := by
  obtain ⟨hidle, hstolen, -⟩ := allocate_tiers s p
  cases steal
  · exact ((hidle v).mp h).1
  · exact ((hstolen v).mp h).1

/-- No fire takes a board flag: a voice that ends or is set up has it set. -/
theorem processFire_boardFlag (f : Fire) (w : Nat) {s : State} (h : (voiceOf s w).boardFlag = true) :
    (voiceOf (processFire f s).1 w).boardFlag = true := by
  rcases hc : fireChecks f (cueRecord s.shadow f.cue) s with _ | code
  · rcases hi : ignoreBlocks s f.cue (cueRecord s.shadow f.cue) with _ | _
    · have hcleared : (voiceOf (cleared f.cue s) w).boardFlag = true := by
        rw [(cleared_reached f.cue s).1, voiceOf_voicesReached]
        exact reachedByFire_boardFlag _ _ h
      rw [processFire_passes hc hi]
      split
      · exact hcleared
      · rename_i v steal ha
        have hv := allocate_lt ha
        rw [voiceOf_setUp hv]
        split
        · rfl
        · split
          · rw [voiceOf_endVoice hv]
            split
            · rfl
            · exact hcleared
          · exact hcleared
    · simpa [processFire, hc, hi] using h
  · simpa [processFire, hc] using h

theorem fireReported_taskTaken (f : Fire) (s : State) : TaskTaken s (fireReported f s) := by
  refine (fireReported_only f s).taskTaken fun v h => ?_
  have hfire := processFire_boardFlag f v h
  simp only [fireReported]
  split
  · exact hfire
  · rwa [voiceOf_raiseEvent]

theorem voiceFrame_only (v : Nat) (r : FrameRun) : VoiceOnly r.state (voiceFrame v r).state := by
  by_cases h : sounding (voiceOf r.state v) = true
  · by_cases hv : v < 24
    · rw [voiceFrame_of_sounding hv h rfl rfl]
      exact (frameDone_stagesTaken _ _ hv _).only
    · rw [voiceOf_beyond _ hv] at h
      exact absurd h (by decide)
  · rw [voiceFrame, if_neg h]
    exact VoiceOnly.refl _

theorem afterTail_boardFlag {x : Voice} (h : x.boardFlag = true) : (afterTail x).boardFlag = true := by
  unfold afterTail
  split
  · rfl
  · exact h

theorem voiceFrame_taskTaken (v : Nat) (r : FrameRun) : TaskTaken r.state (voiceFrame v r).state := by
  refine (voiceFrame_only v r).taskTaken fun w h => ?_
  by_cases hs : sounding (voiceOf r.state v) = true
  · by_cases hv : v < 24
    · rw [voiceFrame_of_sounding hv hs rfl rfl, voiceOf_frameDone _ _ hv]
      split
      · rename_i hw
        subst hw
        split
        · rw [reachedVoice_eq]
          simp [afterTail_boardFlag h]
        · rfl
      · exact h
    · rw [voiceOf_beyond _ hv] at hs
      exact absurd hs (by decide)
  · rwa [voiceFrame, if_neg hs]

theorem formBus_taskTaken (sums : Sums) (b : Nat) (s : State) : TaskTaken s (formBus sums b s) := by
  refine ⟨?_, .inl ?_, fun v h => ?_⟩
  · rw [formBus_only]
  · rw [formBus_only]
  · rw [voiceOf, formBus_only]
    exact h

theorem raiseClock_taskTaken (e : Option ClockEvent) (s : State) : TaskTaken s (raiseClock e s) := by
  cases e with
  | none => exact TaskTaken.refl s
  | some e => exact (raise_only _ _ _ _ s).taskTaken fun v h => by rwa [voiceOf_raiseEvent]

theorem firstTask_taskTaken (e : Option ClockEvent) (k : FrameTask) (r : FrameRun) :
    TaskTaken r.state (firstTask e k r).state := by
  cases k with
  | voice v => exact voiceFrame_taskTaken v r
  | clock => exact raiseClock_taskTaken e r.state
  | follow _ | bus _ | timer _ => exact TaskTaken.refl _

theorem laterTask_taskTaken (e : Option ClockEvent) (sums : Sums) (follows : List (Nat × Nat)) (k : FrameTask) (s : State) :
    TaskTaken s (laterTask e sums follows k s) := by
  cases k with
  | voice _ => exact TaskTaken.refl s
  | follow v =>
    simp only [laterTask]
    split
    · exact fireReported_taskTaken _ s
    · exact TaskTaken.refl s
  | bus b => exact formBus_taskTaken sums b s
  | timer n => exact fireReported_taskTaken _ s
  | clock => exact raiseClock_taskTaken e s

theorem foldl_firstTask_taskTaken (e : Option ClockEvent) :
    ∀ (l : List FrameTask) (r : FrameRun), TaskTaken r.state (l.foldl (fun r k => firstTask e k r) r).state
  | [], r => TaskTaken.refl r.state
  | k :: l, r => (firstTask_taskTaken e k r).trans (foldl_firstTask_taskTaken e l _)

theorem foldl_laterTask_taskTaken (e : Option ClockEvent) (sums : Sums) (follows : List (Nat × Nat)) :
    ∀ (l : List FrameTask) (s : State), TaskTaken s (l.foldl (fun t k => laterTask e sums follows k t) s)
  | [], s => TaskTaken.refl s
  | k :: l, s => (laterTask_taskTaken e sums follows k s).trans (foldl_laterTask_taskTaken e sums follows l _)

/-- Behind its beginning a frame event is its tasks. -/
theorem frameEvent_taskTaken (choice : FrameChoice) (e : Option ClockEvent) {s : State} (hrst : s.rst = false) :
    TaskTaken (beginFrame s) (frameEvent choice e s) := by
  have hfirst := foldl_firstTask_taskTaken e (firstTasks choice (beginFrame s)) ⟨beginFrame s, Vector.replicate 4 BusSum.zero, []⟩
  unfold frameEvent
  rw [if_neg (by simp [hrst])]
  dsimp only at hfirst ⊢
  generalize List.foldl _ _ _ = r at hfirst ⊢
  exact hfirst.trans (foldl_laterTask_taskTaken e r.sums r.follows _ r.state)

/-- A frame event does nothing while RST# is asserted (R172). -/
theorem frameEvent_rst {choice : FrameChoice} {e : Option ClockEvent} {s : State} (hrst : s.rst = true) :
    frameEvent choice e s = s := if_pos hrst

end Sys2Proof.Machine
end

section
/-!
SUPPORT. A frame event behind a change of the Frame Clock (R167 to R170): the parts it may change, its counts, and what it raises where
no voice sounds.
-/

namespace Sys2Proof.Machine

/-! ### The frame -/

/-- `t` is `s` but for what a frame event may change. -/
def FrameOnly (s t : State) : Prop :=
  t = { s with
    clock := t.clock, frameCounter := t.frameCounter, timers := t.timers, boardCount := t.boardCount, marks := t.marks, buses := t.buses
    voices := t.voices, clips := t.clips, mirrorFlags := t.mirrorFlags, mirrorAgain := t.mirrorAgain, slots := t.slots
    queue := t.queue, lost := t.lost, nextSeq := t.nextSeq, port := t.port, draws := t.draws } ∧ PortStands s t

theorem FrameOnly.trans {s t u : State} (h1 : FrameOnly s t) (h2 : FrameOnly t u) : FrameOnly s u :=
  ⟨by rw [h2.1, h1.1], h1.2.trans h2.2⟩

theorem FrameOnly.same {s t : State} (h : FrameOnly s t) {p : Part} (hp : p ∉ frameParts) : Same p s t := by
  have hport : Same .port s t := .inr h.2
  have heq := h.1
  cases p
  case port => exact hport
  case voices | stale | clips | mirror | slots | queue | clock | counter | buses | timers | marks | interval | waiting =>
    exact absurd (by simp [frameParts, voiceParts]) hp
  all_goals
    rw [heq]
    simp [Same, Kept, writeBacksLeft, CopyLeft]

theorem FrameOnly.arbitrated {s t : State} (h : FrameOnly s t) : unchangedBut frameParts s (arbitrate t) :=
  unchangedBut_arbitrated (fun _ hp => h.same hp) (by simp [h.2.free_iff, frameParts, voiceParts])

theorem setClock_frameOnly (c : FrameClock) (s : State) : FrameOnly s (setClock c s) := by
  refine ⟨?_, .inl ?_⟩ <;> rw [setClock_only]

theorem beginFrame_frameOnly (s : State) : FrameOnly s (beginFrame s) := by
  refine ⟨?_, .inl ?_⟩ <;> rw [beginFrame_only]

theorem TaskTaken.frameOnly {s t : State} (h : TaskTaken s t) : FrameOnly s t := ⟨by rw [h.only], h.port⟩

theorem frameEvent_frameOnly (order : FrameChoice) (ev : Option ClockEvent) (s : State) : FrameOnly s (frameEvent order ev s) := by
  cases hrst : s.rst with
  | true =>
    rw [frameEvent_rst hrst]
    exact ⟨rfl, .inl rfl⟩
  | false => exact (beginFrame_frameOnly s).trans (frameEvent_taskTaken order ev hrst).frameOnly

/-- A setting of the Frame Clock alone, behind the grant. -/
theorem unchangedBut_setClock (c : FrameClock) (s : State) : unchangedBut [.clock, .marks] s (arbitrate (setClock c s)) := by
  have honly := setClock_only c s
  refine unchangedBut_arbitrated (same_of_linesBlock ?_ ?_ ?_ ?_ ?_ ?_ ?_) ?_
  · rw [honly]
  · rw [honly]; simp
  · rw [honly]; simp
  · rw [honly]; simp
  · simp
  · simp
  · rw [honly]; simp
  · rw [honly]; simp

/-! ### A phase without events of its own -/

/-- From `s` to `t` buses are formed, and no event is raised. -/
def Quiet (s t : State) : Prop := MixOnly s t ∧ Same .queue s t

theorem Quiet.refl (s : State) : Quiet s s := ⟨MixOnly.refl s, same_refl .queue s⟩

theorem Quiet.trans {s t u : State} (h1 : Quiet s t) (h2 : Quiet t u) : Quiet s u :=
  ⟨h1.1.trans h2.1, same_trans (by simp) (by simp) h1.2 h2.2⟩

/-- The sums of a frame event in which no voice sounds. -/
def noSums : Sums := Vector.replicate 4 BusSum.zero

theorem sumOf_noSums (b : Nat) : sumOf noSums b = BusSum.zero := by
  simp only [sumOf, noSums, bankGet, Vector.getElem?_replicate]
  split <;> rfl

/-- Silence never clamps (R163, R164). -/
theorem busClamps_noSums (b : Nat) (s : State) : busClamps noSums b s = false := by
  simp [busClamps, trimmedLeft, trimmedRight, sumOf_noSums, BusSum.zero, trimmed, clips]

theorem formBus_noSums (b : Nat) (s : State) : Quiet s (formBus noSums b s) := by
  refine ⟨mixOnly_formBus noSums b s, ?_⟩
  rw [formBus_quiet (busClamps_noSums b s)]
  exact ⟨rfl, rfl, rfl⟩

/-- A task of the second phase of a frame event in which no voice sounds. -/
def silentStep (ev : Option ClockEvent) (s : State) (k : FrameTask) : State := laterTask ev noSums [] k s

/-- Task `k` raises nothing, whenever its turn comes. -/
def QuietTask (ev : Option ClockEvent) (k : FrameTask) : Prop := ∀ s, Quiet s (silentStep ev s k)

theorem foldl_quiet {ev : Option ClockEvent} : ∀ {ks : List FrameTask}, (∀ k ∈ ks, QuietTask ev k) → ∀ s,
    Quiet s (ks.foldl (silentStep ev) s)
  | [], _, s => Quiet.refl s
  | k :: _, h, s => (h k (by simp) s).trans (foldl_quiet (fun j hj => h j (by simp [hj])) _)

/-- A task that comes once, among others that raise nothing. -/
theorem foldl_quiet_around {ev : Option ClockEvent} {ks : List FrameTask} {k : FrameTask} (hn : ks.Nodup) (hk : k ∈ ks)
    (h : ∀ j ∈ ks, j ≠ k → QuietTask ev j) (s : State) :
    ∃ p, Quiet s p ∧ Quiet (silentStep ev p k) (ks.foldl (silentStep ev) s) := by
  obtain ⟨pre, post, rfl, hpre, hpost, -⟩ := split_once hn hk
  rw [List.foldl_append, List.foldl_cons]
  exact ⟨_, foldl_quiet (fun j hj => h j (by simp [hj]) fun he => hpre (he ▸ hj)) s,
    foldl_quiet (fun j hj => h j (by simp [hj]) fun he => hpost (he ▸ hj)) _⟩

/-! ### The phases where no voice sounds -/

section
variable {s : State} (hsilent : ∀ v, v < 24 → sounding (voiceOf s v) = false)
include hsilent

theorem soundingVoices_none : soundingVoices s = [] := by
  simp only [soundingVoices, indices, List.filter_eq_nil_iff, List.mem_range]
  exact fun v hv => by simp [hsilent v hv]

theorem firstTasks_none (order : FrameChoice) :
    firstTasks order s = if order.first.contains .clock = true then [.clock] else [] := by
  rw [firstTasks, soundingVoices_none hsilent]
  split
  · refine List.perm_singleton.mp ((List.perm_ext_iff_of_nodup (nodup_orderTasks (by simp)) (by simp)).mpr fun k => ?_)
    rw [mem_orderTasks]
    simp
  · simp [orderTasks]

theorem foldl_firstTasks_none (order : FrameChoice) (ev : Option ClockEvent) :
    (firstTasks order s).foldl (fun r t => firstTask ev t r) ⟨s, Vector.replicate 4 BusSum.zero, []⟩ =
      ⟨if order.first.contains .clock = true then raiseClock ev s else s, noSums, []⟩ := by
  rw [firstTasks_none hsilent]
  split <;> rfl

end

/-- A frame event in which no voice sounds: the tasks of the second phase, the Frame Clock's event before them where it is so chosen. -/
theorem frameEvent_of_silence (order : FrameChoice) (ev : Option ClockEvent) {s : State} (hrst : s.rst = false)
    (hsilent : ∀ v, v < 24 → sounding (voiceOf s v) = false) : frameEvent order ev s =
      (laterTasks order (firingTimers s) []).foldl (silentStep ev)
        (if order.first.contains .clock = true then raiseClock ev (beginFrame s) else beginFrame s) := by
  have hbegun : ∀ v, v < 24 → sounding (voiceOf (beginFrame s) v) = false := fun v hv => by
    rw [voiceOf, beginFrame_voices hsilent]
    exact hsilent v hv
  unfold frameEvent
  rw [if_neg (by simp [hrst])]
  dsimp only
  rw [foldl_firstTasks_none hbegun]
  unfold silentStep
  dsimp only

theorem mem_laterTasks_silent {order : FrameChoice} {firing : List Nat} {k : FrameTask} :
    k ∈ laterTasks order firing [] ↔
      (∃ b, b < 4 ∧ k = .bus b) ∨ (∃ n ∈ firing, k = .timer n) ∨ k = .clock ∧ order.first.contains .clock = false := by
  rw [laterTasks, mem_orderTasks]
  cases order.first.contains .clock <;> simp [eq_comm]

theorem nodup_laterTasks_silent (order : FrameChoice) {firing : List Nat} (h : firing.Nodup) :
    (laterTasks order firing []).Nodup := by
  have hbus : ((List.range 4).map FrameTask.bus).Nodup := by decide
  have htimer : (firing.map FrameTask.timer).Nodup := h.map fun a b hab => FrameTask.timer.inj hab
  have hclock : (if order.first.contains .clock then [] else [FrameTask.clock]).Nodup := by split <;> simp
  refine nodup_orderTasks ?_
  simp only [List.map_nil, List.nil_append]
  refine List.nodup_append'.mpr ⟨List.nodup_append'.mpr ⟨hbus, htimer, ?_⟩, hclock, ?_⟩
  · simp [List.disjoint_left]
  · split <;> simp [List.disjoint_left]

theorem quietTask_bus (ev : Option ClockEvent) (b : Nat) : QuietTask ev (.bus b) := formBus_noSums b

/-- A frame event in which nothing else can raise one raises the Frame Clock's event. -/
theorem frameEvent_silent (order : FrameChoice) (ev : Option ClockEvent) {s : State} (hrst : s.rst = false) (h : Silent s) :
    ∃ p, Quiet (beginFrame s) p ∧ Quiet (raiseClock ev p) (frameEvent order ev s) := by
  obtain ⟨hsilent, htimers⟩ := h
  have hothers : ∀ k ∈ laterTasks order [] [], k ≠ .clock → QuietTask ev k := fun k hk hne => by
    obtain ⟨b, -, rfl⟩ | ⟨n, hn, -⟩ | ⟨hclock, -⟩ := mem_laterTasks_silent.mp hk
    · exact quietTask_bus ev b
    · cases hn
    · exact absurd hclock hne
  rw [frameEvent_of_silence order ev hrst hsilent, firingTimers_still htimers]
  by_cases hfirst : order.first.contains .clock = true
  · rw [if_pos hfirst]
    refine ⟨beginFrame s, Quiet.refl _, foldl_quiet (fun k hk => hothers k hk ?_) _⟩
    rintro rfl
    obtain ⟨b, -, hb⟩ | ⟨n, hn, -⟩ | ⟨-, hlater⟩ := mem_laterTasks_silent.mp hk
    · cases hb
    · cases hn
    · exact Bool.noConfusion (hfirst.symm.trans hlater)
  · rw [if_neg hfirst]
    exact foldl_quiet_around (nodup_laterTasks_silent order List.nodup_nil)
      (mem_laterTasks_silent.mpr (.inr (.inr ⟨rfl, by simpa using hfirst⟩))) hothers _

/-- A frame event in which no voice sounds and one timer alone fires raises what the fire raises. -/
theorem frameEvent_loneTimer (order : FrameChoice) {s : State} {n : Nat} (hrst : s.rst = false)
    (hsilent : ∀ v, v < 24 → sounding (voiceOf s v) = false) (hfiring : firingTimers s = [n]) :
    ∃ p, Quiet (beginFrame s) p ∧ Quiet (fireTimer n p) (frameEvent order none s) := by
  have hothers : ∀ k ∈ laterTasks order [n] [], k ≠ .timer n → QuietTask none k := fun k hk hne => by
    obtain ⟨b, -, rfl⟩ | ⟨m, hm, rfl⟩ | ⟨rfl, -⟩ := mem_laterTasks_silent.mp hk
    · exact quietTask_bus none b
    · exact absurd (by rw [List.mem_singleton.mp hm]) hne
    · exact Quiet.refl
  have hstart : (if order.first.contains .clock = true then raiseClock none (beginFrame s) else beginFrame s) = beginFrame s := by
    split <;> rfl
  rw [frameEvent_of_silence order none hrst hsilent, hfiring, hstart]
  exact foldl_quiet_around (nodup_laterTasks_silent order (List.nodup_singleton n))
    (mem_laterTasks_silent.mpr (.inr (.inl ⟨n, by simp, rfl⟩))) hothers _

end Sys2Proof.Machine
end

section
/-!
PROOF. The Frame Clock by its tables (O58): each row is a setting of the clock, alone or with a frame event behind it.
-/

namespace Sys2Proof.Machine

/-! ### A frame event behind a setting of the clock -/

theorem QueueAlike.trans {s t u : State} (h1 : QueueAlike s t) (h2 : QueueAlike t u) : QueueAlike s u := by
  obtain ⟨hr, hs, hp, hf, hq, hl, hn⟩ := h1
  obtain ⟨hr', hs', hp', hf', hq', hl', hn'⟩ := h2
  exact ⟨hr'.trans hr, hs'.trans hs, hp'.trans hp, hf'.trans hf, hq'.trans hq, hl'.trans hl, hn'.trans hn⟩

/-- The state as the tasks of a frame event find it, behind a setting of the clock. -/
theorem queueAlike_beginFrame (c : FrameClock) (e : State) :
    QueueAlike { e with frameCounter := e.frameCounter + 1 } (beginFrame (setClock c e)) := by
  rw [beginFrame_only, setClock_only]
  exact ⟨rfl, rfl, rfl, rfl, rfl, rfl, rfl⟩

/-- Under RST# nothing is raised (R172). -/
theorem raises_of_rst {k : EventKind} {a b : Nat} {value : Word} {s t : State} (hrst : s.rst = true) (h : Same .queue s t) :
    Raises k a b value s t := by
  rw [Raises, raiseEvent, if_pos hrst]
  exact h

theorem silent_setClock {c : FrameClock} {e : State} (h : Silent e) : Silent (setClock c e) := by
  rw [setClock_only]
  exact h

theorem TaskTaken.timers_eq {s t : State} (h : TaskTaken s t) : t.timers = s.timers := by rw [h.only]

/-- Behind a frame event every timer is as it left it. -/
theorem timerOf_frameEvent (order : FrameChoice) (ev : Option ClockEvent) {s : State} (hrst : s.rst = false) {k : Nat} (hk : k < 4) :
    timerOf (frameEvent order ev s) k = timerAfterFrame s k := by
  rw [← (beginFrame_eq s).2 k hk, timerOf, timerOf, (frameEvent_taskTaken order ev hrst).timers_eq]

/-- `t` is what a frame event with the clock's event `ev`, behind the setting of the clock to `c`, makes of `e` (R116, R166, R172,
R178). -/
structure ClockedFrame (c : FrameClock) (ev : Option ClockEvent) (e t : State) : Prop where
  clock : t.clock = c
  counter : t.frameCounter = if e.rst = true then e.frameCounter else e.frameCounter + 1
  counts : e.rst = false → (∀ k, k < 4 → timerOf t k = timerAfterFrame e k) ∧ t.boardCount = countAfterFrame e
  raised : Silent e → ∀ k, ev = some k →
    Raises k.kind 0 k.subjectB (BitVec.ofNat 32 k.value) { e with frameCounter := e.frameCounter + 1 } t
  quiet : Silent e → ev = none → Same .queue e t
  reset : e.rst = true → unchangedBut [.clock, .marks] e t
  frame : unchangedBut frameParts e t

section
variable (order : FrameChoice) (ev : Option ClockEvent) (c : FrameClock) (e : State)

theorem frameEvent_clockedFrame_rst (hrst : e.rst = true) :
    ClockedFrame c ev e (arbitrate (frameEvent order ev (setClock c e))) := by
  have honly := setClock_only c e
  rw [frameEvent_rst (by rw [honly]; exact hrst)]
  have hqueue : Same .queue e (arbitrate (setClock c e)) := unchangedBut_setClock c e .queue (by simp)
  exact
    { clock := by rw [arbitrate_clock, honly]
      counter := by rw [arbitrate_frameCounter, honly, if_pos hrst]
      counts := fun h => by simp [hrst] at h
      raised := fun _ k _ => raises_of_rst hrst hqueue
      quiet := fun _ _ => hqueue
      reset := fun _ => unchangedBut_setClock c e
      frame := (setClock_frameOnly c e).arbitrated }

theorem frameEvent_clockedFrame_running (hrst : e.rst = false) :
    ClockedFrame c ev e (arbitrate (frameEvent order ev (setClock c e))) := by
  have hset := setClock_only c e
  have hbegin := beginFrame_only (setClock c e)
  have hrst' : (setClock c e).rst = false := by rw [hset]; exact hrst
  have htasks := (frameEvent_taskTaken order ev hrst').only
  have hframe := (setClock_frameOnly c e).trans (frameEvent_frameOnly order ev (setClock c e))
  have hsilent : Silent e → ∃ p, QueueAlike { e with frameCounter := e.frameCounter + 1 } p ∧
      Same .queue (raiseClock ev p) (frameEvent order ev (setClock c e)) := fun h => by
    obtain ⟨p, ⟨hmix, hbefore⟩, -, hbehind⟩ := frameEvent_silent order ev hrst' (silent_setClock h)
    exact ⟨p, (queueAlike_beginFrame c e).trans (hmix.queueAlike hbefore), hbehind⟩
  exact
    { clock := by rw [arbitrate_clock, htasks, hbegin, hset]
      counter := by rw [arbitrate_frameCounter, htasks, hbegin, hset, if_neg (by simp [hrst])]
      counts := fun _ => ⟨fun k hk => by
        rw [timerOf_arbitrate, timerOf_frameEvent order ev hrst' hk, hset]
        rfl, by
        rw [arbitrate_boardCount, htasks, hbegin, hset]
        rfl⟩
      raised := fun h k hk => by
        obtain ⟨p, halike, hraised⟩ := hsilent h
        subst hk
        exact raises_arbitrate halike hraised
      quiet := fun h hk => by
        obtain ⟨p, ⟨-, -, -, -, hqueue⟩, hraised⟩ := hsilent h
        change Same .queue e p at hqueue
        subst hk
        exact same_trans (by simp) (by simp) (same_trans (by simp) (by simp) hqueue hraised)
          ⟨arbitrate_queue _, arbitrate_lost _, arbitrate_nextSeq _⟩
      reset := fun h => by simp [hrst] at h
      frame := hframe.arbitrated }

/-- A frame event behind a setting of the clock, with RST# or without it. -/
theorem frameEvent_clockedFrame : ClockedFrame c ev e (arbitrate (frameEvent order ev (setClock c e))) := by
  cases hrst : e.rst with
  | true => exact frameEvent_clockedFrame_rst order ev c e hrst
  | false => exact frameEvent_clockedFrame_running order ev c e hrst

end

/-! ### The rows of the tables -/

section
variable {order : FrameChoice} {s : State}

theorem frameExpiry_unlocked (h : s.clock.state ≠ .house) :
    frameExpiry order s = frameEvent order none (setClock { s.clock with frameTimer := 250 } s) := by
  unfold frameExpiry
  dsimp only
  split
  · rename_i hhouse
    exact absurd hhouse h
  · rfl

theorem frameExpiry_bridged (h : s.clock.state = .house) (hb : s.clock.bridge + 1 < 3) : frameExpiry order s =
    frameEvent order none (setClock { s.clock with frameTimer := 250, bridge := s.clock.bridge + 1 } s) := by
  simp only [frameExpiry, h, if_pos hb]
  rfl

theorem frameExpiry_lost (h : s.clock.state = .house) (hb : 3 ≤ s.clock.bridge + 1) : frameExpiry order s =
    frameEvent order (some ⟨.clockLost, 0, s.clock.bridge + 1⟩)
      (setClock { s.clock with state := .freerun, frameTimer := 250, bridge := 0 } s) := by
  simp only [frameExpiry, h, if_neg (Nat.not_lt.mpr hb)]
  rfl

theorem wclkRise_internal (h : s.clock.state = .freerun) (hp : preferInternal s.shadow = true) : wclkRise order s = s := by
  simp only [wclkRise, h, if_pos hp]

theorem wclkRise_first (h : s.clock.state = .freerun) (hp : preferInternal s.shadow = false) :
    wclkRise order s = setClock { s.clock with state := .relocking, relock := 0, gap := 750 } s := by
  simp only [wclkRise, h, hp, Bool.false_eq_true, if_false]
  rfl

theorem wclkRise_clean (h : s.clock.state = .relocking) (hr : s.clock.relock + 1 < 4800) :
    wclkRise order s = setClock { s.clock with relock := s.clock.relock + 1, gap := 750 } s := by
  simp only [wclkRise, h, Config.relockPeriods, if_pos hr]
  rfl

theorem wclkRise_locks (h : s.clock.state = .relocking) (hr : 4800 ≤ s.clock.relock + 1) : wclkRise order s =
    frameEvent order (some ⟨.clockHouse, 0, 750 - s.clock.gap⟩) (setClock ⟨.house, 250, s.clock.relock + 1, 0, 0⟩ s) := by
  simp only [wclkRise, h, Config.relockPeriods, if_neg (Nat.not_lt.mpr hr)]
  rfl

theorem wclkRise_house (h : s.clock.state = .house) (hb : s.clock.bridge = 0) :
    wclkRise order s = frameEvent order none (setClock { s.clock with frameTimer := 250 } s) := by
  simp only [wclkRise, h, if_pos hb]
  rfl

theorem wclkRise_skips (h : s.clock.state = .house) (hb : 0 < s.clock.bridge) :
    wclkRise order s = setClock { s.clock with frameTimer := 250, bridge := s.clock.bridge - 1 } s := by
  simp only [wclkRise, h, if_neg (Nat.ne_of_gt hb)]
  rfl

end

/-- A setting of the clock alone, behind the grant. -/
theorem setClock_taken (c : FrameClock) (s : State) :
    (arbitrate (setClock c s)).clock = c ∧ unchangedBut [.clock, .marks] s (arbitrate (setClock c s)) :=
  ⟨by rw [arbitrate_clock, setClock_only], unchangedBut_setClock c s⟩

/-- A frame timer's expiry is a frame event behind a setting of the clock; it has an event of the clock's at the third late edge alone
(R167 to R170). -/
theorem frameExpiry_form (order : FrameChoice) (s : State) : ∃ c ev, frameExpiry order s = frameEvent order ev (setClock c s) ∧
    (¬ (s.clock.state = .house ∧ 3 ≤ s.clock.bridge + 1) → ev = none) := by
  by_cases hhouse : s.clock.state = .house
  · by_cases hbridge : s.clock.bridge + 1 < 3
    · exact ⟨_, _, frameExpiry_bridged hhouse hbridge, fun _ => rfl⟩
    · exact ⟨_, _, frameExpiry_lost hhouse (Nat.not_lt.mp hbridge), fun h => absurd ⟨hhouse, Nat.not_lt.mp hbridge⟩ h⟩
  · exact ⟨_, _, frameExpiry_unlocked hhouse, fun _ => rfl⟩

/-- An edge of WCLK changes no more than a frame event may. -/
theorem wclkRise_frameOnly (order : FrameChoice) (s : State) : FrameOnly s (wclkRise order s) := by
  unfold wclkRise
  dsimp only
  split
  · split
    · exact ⟨rfl, .inl rfl⟩
    · exact setClock_frameOnly _ s
  · split
    · exact setClock_frameOnly _ s
    · exact (setClock_frameOnly _ s).trans (frameEvent_frameOnly order _ _)
  · split
    · exact (setClock_frameOnly _ s).trans (frameEvent_frameOnly order _ _)
    · exact setClock_frameOnly _ s

/-- Settles O58: the frame timer, WCLK and the gap timer, row by row. -/
theorem frameClockFollowsItsTables : Obligations.FrameClockFollowsItsTables := by
  refine ⟨fun order s hsoon => ?_, fun after order s hsoon => ?_, fun s hstate hsoon => ?_⟩
  · intro e c lost
    have hevent := fun ev c' => frameEvent_clockedFrame order ev c' e
    obtain ⟨c', ev, hform, hnone⟩ := frameExpiry_form order e
    have h := hevent ev c'
    rw [← hform] at h
    refine ⟨_, afterTime_next (frameExpiry order) hsoon, fun hlost => ?_, fun hs hb => ?_, fun hs => ?_, h.counter, h.counts,
      fun hsilent => ⟨fun hlost => ?_, fun hkept => h.quiet hsilent (hnone hkept)⟩, h.reset, h.frame⟩
    · rw [show frameExpiry order (elapse _ s) = _ from frameExpiry_lost (s := e) hlost.1 hlost.2]
      exact (hevent _ _).clock
    · rw [show frameExpiry order (elapse _ s) = _ from frameExpiry_bridged (s := e) hs hb]
      exact (hevent _ _).clock
    · rw [show frameExpiry order (elapse _ s) = _ from frameExpiry_unlocked (s := e) hs]
      exact (hevent _ _).clock
    · rw [show frameExpiry order (elapse _ s) = _ from frameExpiry_lost (s := e) hlost.1 hlost.2]
      exact (hevent _ _).raised hsilent _ rfl
  · intro e c counted
    refine ⟨arbitrate (wclkRise order e), afterTime_next (wclkRise order) hsoon, fun hs hp => ?_, fun hs hp => ?_, fun hs hr => ?_,
      fun hs hr => ?_, fun hs hb => ?_, fun hs hb => ?_, (wclkRise_frameOnly order e).arbitrated⟩
    · rw [wclkRise_internal hs hp]
      exact arbitrate_frame e
    · rw [wclkRise_first hs hp]
      exact setClock_taken _ e
    · rw [wclkRise_clean hs hr]
      exact setClock_taken _ e
    · have h := frameEvent_clockedFrame order (some ⟨.clockHouse, 0, 750 - c.gap⟩) ⟨.house, 250, c.relock + 1, 0, 0⟩ e
      rw [← wclkRise_locks hs hr] at h
      exact ⟨congrArg _ h.clock, congrArg _ h.clock, congrArg _ h.clock, congrArg _ h.clock, h.counter, h.counts,
        fun hsilent => h.raised hsilent _ rfl⟩
    · have h := frameEvent_clockedFrame order none { c with frameTimer := 250 } e
      rw [← wclkRise_house hs hb] at h
      exact ⟨h.clock, h.counter, h.counts⟩
    · rw [wclkRise_skips hs hb]
      exact setClock_taken _ e
  · intro e
    have hgap : exec .gapTimerExpiry s = .next (arbitrate (gapExpiry e)) := by
      change execGapTimerExpiry s = _
      rw [execGapTimerExpiry, gapLeft, if_pos hstate]
      exact afterTime_next gapExpiry hsoon
    exact ⟨_, hgap, setClock_taken _ e⟩

end Sys2Proof.Machine
end

section
/-!
PROOF. The expiries (O57): a penalty's end, and the frame event that fires a timer or ends the board interval.
-/

namespace Sys2Proof.Machine

/-! ### The commands that name a frame event -/

/-- The state as the frame timer's expiry finds it, `d` free values drawn. -/
def frameDue (d : Nat) (s : State) : State := { elapse s.clock.frameTimer s with draws := d }

/-- Command `i` is a frame event from the frame timer, in some order and with some count of free draws. -/
def FrameStep (i : Instr) (s : State) : Prop :=
  ∃ order ev c d, exec i s = .next (arbitrate (frameEvent order ev (setClock c (frameDue d s)))) ∧
    (s.clock.state ≠ .house → ev = none)

theorem frameStep_of_expiry {i : Instr} {s : State} {order : FrameChoice} {d : Nat}
    (h : exec i s = .next (arbitrate (frameExpiry order (frameDue d s)))) : FrameStep i s := by
  obtain ⟨c, ev, hform, hnone⟩ := frameExpiry_form order (frameDue d s)
  exact ⟨order, ev, c, d, by rw [h, hform], fun hhouse => hnone fun hlost => hhouse hlost.1⟩

theorem freeFrameStep_next {s : State} (h : Soonest s.clock.frameTimer s) :
    freeFrameStep s = .next (arbitrate (frameExpiry (Config.frameChoice s.draws) (frameDue (s.draws + 1) s))) :=
  afterTime_next _ h

theorem frameStep_frameTimerExpiry (order : FrameChoice) {s : State} (h : Soonest s.clock.frameTimer s) :
    FrameStep (.frameTimerExpiry order) s := frameStep_of_expiry (d := s.draws) (afterTime_next (frameExpiry order) h)

theorem frameStep_timerExpiry {k : Fin 4} {s : State} (h : Soonest s.clock.frameTimer s) (hrst : s.rst = false)
    (hzero : reachesZero s k = true) : FrameStep (.timerExpiry k) s :=
  frameStep_of_expiry ((if_pos (by rw [hzero, hrst]; rfl)).trans (freeFrameStep_next h))

theorem frameStep_boardIntervalExpiry {s : State} (h : Soonest s.clock.frameTimer s) (hrst : s.rst = false)
    (hend : reachesInterval s = true) : FrameStep .boardIntervalExpiry s :=
  frameStep_of_expiry ((if_pos (by rw [hend, hrst]; rfl)).trans (freeFrameStep_next h))

/-! ### The timer that fires (R118 to R120) -/

section
variable {s : State} {k : Nat} (hphase : (timerOf s k).phase = .counting) (hlast : (timerOf s k).counter ≤ 1)
include hphase hlast

theorem timerAfterFrame_expired : timerAfterFrame s k = afterFire (timerMode s.shadow k) (timerPreload s.shadow k) := by
  rw [timerAfterFrame_eq, timerCounted, if_pos ⟨hphase, hlast⟩]

theorem firingTimers_lone (hk : k < 4) (hothers : ∀ j, j < 4 → j ≠ k → (timerOf s j).phase ≠ .counting) :
    firingTimers s = [k] := by
  refine List.perm_singleton.mp ((List.perm_ext_iff_of_nodup (List.nodup_range.filter _) (by simp)).mpr fun j => ?_)
  simp only [List.mem_filter, List.mem_range, reachesZero_iff, List.mem_singleton]
  constructor
  · rintro ⟨hj, hcounts, -⟩
    by_contra hne
    exact hothers j hj hne hcounts
  · rintro rfl
    exact ⟨hk, hphase, hlast⟩

end

/-! ### The fire within the frame event -/

/-- `s` with other timers, marks, Frame Clock, board interval count and draws. -/
def recounted (ts : Vector CueTimer 4) (ms : Vector Bool 5) (c : FrameClock) (n d : Nat) (s : State) : State :=
  { s with timers := ts, marks := ms, clock := c, boardCount := n, draws := d }

/-- The parts that a frame event changes by itself where no voice sounds. -/
def silentParts : List Part := [.timers, .clock, .buses, .marks, .interval, .waiting]

section
variable {ts : Vector CueTimer 4} {ms : Vector Bool 5} {c : FrameClock} {n d : Nat} {s t : State}

theorem unchangedBut_recounted {ps qs : List Part} (hps : ∀ p, p ∈ ps → p ∈ qs) (hport : Part.port ∈ ps ↔ Part.port ∈ qs)
    (hqs : ∀ p, p ∈ silentParts → p ∈ qs) (h : unchangedBut ps (recounted ts ms c n d s) t) : unchangedBut qs s t := by
  intro p hp
  have hkept := h p fun hm => hp (hps p hm)
  have hg : granted ps (recounted ts ms c n d s) t = granted qs s t := by simp [granted, hport, recounted]
  rw [hg] at hkept
  cases p
  case timers | clock | marks | interval | waiting => exact absurd (hqs _ (by simp [silentParts])) hp
  all_goals exact hkept

/-- A fire that comes behind the counts of a frame event comes as if before them. -/
theorem FireComes.beforeCounts {f : Fire} {alone : Prop} (h : FireComes f mixParts alone (recounted ts ms c n d s) t) :
    FireComes f silentParts alone s t := by
  obtain ⟨hrefused, hstarts⟩ := h
  refine ⟨fun code hcode => ?_, fun v hc hi hr hk hv hidle hlow => ?_⟩
  · obtain ⟨hraises, hframe⟩ := hrefused code hcode
    exact ⟨fun ha => raises_of_queueAlike (s := recounted ts ms c n d s) ⟨rfl, rfl, rfl, rfl, rfl, rfl, rfl⟩ (hraises ha),
      unchangedBut_recounted (by decide) (by decide) (by decide) hframe⟩
  · obtain ⟨hvoice, hothers, hclip, hframe⟩ := hstarts v hc hi hr hk hv hidle hlow
    exact ⟨hvoice, hothers, hclip, unchangedBut_recounted (by decide) (by decide) (by decide) hframe⟩

end

/-- Where no voice sounds, a frame event begins with counts alone. -/
theorem beginFrame_recounted (c : FrameClock) (d : Nat) {s : State} (h : ∀ v, v < 24 → sounding (voiceOf s v) = false) :
    ∃ ts ms n, beginFrame (setClock c { s with draws := d }) = recounted ts ms c n d { s with frameCounter := s.frameCounter + 1 } := by
  obtain ⟨marked, hset⟩ : ∃ ms, setClock c { s with draws := d } = { s with draws := d, clock := c, marks := ms } :=
    ⟨_, setClock_only c { s with draws := d }⟩
  rw [hset]
  have honly := beginFrame_only { s with draws := d, clock := c, marks := marked }
  rw [beginFrame_voices (s := { s with draws := d, clock := c, marks := marked }) h] at honly
  exact ⟨_, _, _, honly⟩

/-- A timer's fire in a frame event in which no voice sounds and no other timer counts. -/
theorem fireComes_frameEvent (order : FrameChoice) (c : FrameClock) (d : Nat) {s : State} {k : Nat} (hk : k < 4) (hrst : s.rst = false)
    (hphase : (timerOf s k).phase = .counting) (hlast : (timerOf s k).counter ≤ 1)
    (hsilent : ∀ v, v < 24 → sounding (voiceOf s v) = false)
    (hothers : ∀ j, j < 4 → j ≠ k → (timerOf s j).phase ≠ .counting) :
    FireComes ⟨.timer, k, timerCue s.shadow k, false⟩ silentParts True { s with frameCounter := s.frameCounter + 1 }
      (arbitrate (frameEvent order none (setClock c { s with draws := d }))) := by
  have hset := setClock_only c { s with draws := d }
  obtain ⟨ts, ms, n, hbegin⟩ := beginFrame_recounted c d hsilent
  obtain ⟨p, hbefore, hbehind⟩ := frameEvent_loneTimer order (s := setClock c { s with draws := d }) (n := k)
    (by rw [hset]; exact hrst) (by rw [hset]; exact hsilent) (by rw [hset]; exact firingTimers_lone hphase hlast hk hothers)
  rw [hbegin] at hbefore
  have hcue : timerCue p.shadow k = timerCue s.shadow k := by rw [hbefore.1]; rfl
  rw [fireTimer, timerFire, hcue] at hbehind
  exact (fireComes_mixed hbefore.1 hbehind.1 fun _ => ⟨hbefore.2, hbehind.2⟩).beforeCounts

theorem TaskTaken.marks_eq {s t : State} (h : TaskTaken s t) : t.marks = s.marks := by rw [h.only]

/-! ### Flags and marks behind the grant -/

section
variable {u : State}

/-- A board flag stands through the grant, or the port is granted to the first quarter of its record (R178). -/
theorem boardFlag_stands_or_granted {v : Nat} (h : (voiceOf u v).boardFlag = true) :
    (voiceOf (arbitrate u) v).boardFlag = true ∨ ∃ a bs, (arbitrate u).port = some (.report (.board v 0) a bs false) := by
  have hserved : voiceOf (arbitrate u) v = servedVoice _ v (voiceOf u v) := arbitrate_frame u .voices (by simp) v
  rw [hserved]
  unfold servedVoice granted
  by_cases hport : u.port = none
  · simp only [hport, true_or, if_true]
    split
    · split <;> exact .inl h
    · rename_i w a bs o hg
      split
      · rename_i hw
        subst hw
        exact .inr ⟨_, _, arbitrate_report_written hport hg⟩
      · exact .inl h
    · exact .inl h
  · simpa [hport] using .inl h

/-- A mark stands through the grant, or the port is granted to its block (R179). -/
theorem mark_stands_or_granted {i : Nat} (h : bankGet u.marks i false = true) :
    bankGet (arbitrate u).marks i false = true ∨ ∃ a bs, (arbitrate u).port = some (.report (.status i) a bs false) := by
  have hleft : (arbitrate u).marks = marksLeft _ u.marks := arbitrate_frame u .marks (by simp)
  rw [hleft]
  unfold marksLeft granted
  by_cases hport : u.port = none
  · simp only [hport, true_or, if_true]
    split
    · rename_i j a bs o hg
      by_cases hj : j = i
      · subst hj
        exact .inr ⟨_, _, arbitrate_report_written hport hg⟩
      · rw [bankGet_bankSet, if_neg fun hb => hj hb.1]
        exact .inl h
    · exact .inl h
  · simpa [hport] using .inl h

end

/-- The frame event that ends the board interval, before its grant: the flags of the sounding voices, every mark (R178). -/
theorem frameEvent_boardExpiry (order : FrameChoice) (ev : Option ClockEvent) (c : FrameClock) (d : Nat) {s : State}
    (hrst : s.rst = false) (hon : boardInterval s.shadow ≠ 0) (hend : boardInterval s.shadow ≤ s.boardCount + 1) :
    let u := frameEvent order ev (setClock c (frameDue d s))
    (∀ v, sounding (voiceOf s v) = true → (voiceOf u v).boardFlag = true) ∧ (∀ i, i < 5 → bankGet u.marks i false = true) ∧
      unchangedBut frameParts (elapse s.clock.frameTimer s) (arbitrate u) := by
  intro u
  have hset := setClock_only c (frameDue d s)
  have hreached : reachesInterval (setClock c (frameDue d s)) = true := by
    rw [hset]
    exact (reachesInterval_iff s).mpr ⟨hon, hend⟩
  have hvoices : (setClock c (frameDue d s)).voices = s.voices := by
    rw [hset]
    rfl
  obtain ⟨hflags, hmarks⟩ := beginFrame_expired hreached
  have htasks := frameEvent_taskTaken order ev (s := setClock c (frameDue d s)) (by rw [hset]; exact hrst)
  have hdrawn : FrameOnly (elapse s.clock.frameTimer s) (frameDue d s) := ⟨rfl, .inl rfl⟩
  refine ⟨fun v hv => htasks.flags v (hflags v ?_), fun i hi => ?_,
    ((hdrawn.trans (setClock_frameOnly c _)).trans (frameEvent_frameOnly order ev _)).arbitrated⟩
  · rwa [voiceOf, hvoices]
  · rw [htasks.marks_eq, hmarks]
    simp [bankGet, hi]

/-! ### The obligation -/

theorem exec_penaltyEnd {n : Fin 8} {s : State} {p : Nat} (hp : (lineOf s n).penalty = some p) (h : Soonest p s) :
    exec (.penaltyEnd n) s = .next (arbitrate (setPenalty n 0 (elapse p s))) := by
  change execPenaltyEnd n s = _
  rw [execPenaltyEnd, hp]
  exact afterTime_next _ h

/-- A penalty cleared: the line's own, and a mark (R113). -/
theorem arbitrate_clearedPenalty (n : Fin 8) (e : State) :
    (∀ j, lineOf (arbitrate (setPenalty n 0 e)) j = if j = n.val then { lineOf e n with penalty := none } else lineOf e j) ∧
      unchangedBut [.lines, .marks] e (arbitrate (setPenalty n 0 e)) := by
  have honly := setPenalty_only n 0 e
  constructor
  · intro j
    have hline : lineOf (setPenalty n 0 e) j = _ := congrArg (fun ls => bankGet ls j (Line.released false)) (setPenalty_lines n 0 e)
    rw [lineOf_arbitrate, hline]
    refine (lineOf_setLine _ _ _ _).trans (if_congr ⟨fun h => h.1.symm, fun h => ⟨h.symm, ?_⟩⟩ rfl rfl)
    omega
  · refine unchangedBut_arbitrated (same_of_linesBlock ?_ ?_ ?_ ?_ ?_ ?_ ?_) ?_
    · rw [honly]
    · simp
    · rw [honly]; simp
    · rw [honly]; simp
    · rw [honly]; simp
    · simp
    · rw [honly]; simp
    · rw [honly]; simp

/-- Settles O57: the penalty's end by its line, the two frame events by what every frame event leaves. -/
theorem expiriesTakeTheirEffect : Obligations.ExpiriesTakeTheirEffect := by
  refine ⟨fun n s p hp hsoon => ?_, fun k s i hrst hphase hlast hsoon hi => ?_, fun s i hrst hon hend hsoon hi => ?_⟩
  · exact ⟨_, exec_penaltyEnd hp hsoon, arbitrate_clearedPenalty n _⟩
  · intro preload
    have hstep : FrameStep i s := by
      obtain rfl | ⟨order, rfl⟩ := hi
      · exact frameStep_timerExpiry hsoon hrst ((reachesZero_iff s k).mpr ⟨hphase, hlast⟩)
      · exact frameStep_frameTimerExpiry order hsoon
    obtain ⟨order, ev, c, d, hexec, hnone⟩ := hstep
    have h := frameEvent_clockedFrame order ev c (frameDue d s)
    have htimers := (h.counts hrst).1
    have hown := (htimers k k.isLt).trans (timerAfterFrame_expired (s := s) hphase hlast)
    refine ⟨_, hexec, h.counter.trans (if_neg (Bool.eq_false_iff.mp hrst)), fun hm => ?_, fun hm => ?_, fun hm => ?_, htimers,
      fun hsilent hothers hhouse => ?_⟩
    · rw [hown]
      rcases hm with hm | hm <;> rw [hm] <;> rfl
    · rw [hown, hm]
      rfl
    · rw [hown, hm]
      rfl
    · obtain rfl := hnone hhouse
      exact fireComes_frameEvent order c d (s := elapse s.clock.frameTimer s) k.isLt hrst hphase hlast hsilent hothers
  · have hstep : FrameStep i s := by
      obtain rfl | ⟨order, rfl⟩ := hi
      · exact frameStep_boardIntervalExpiry hsoon hrst ((reachesInterval_iff s).mpr ⟨hon, hend⟩)
      · exact frameStep_frameTimerExpiry order hsoon
    obtain ⟨order, ev, c, d, hexec, -⟩ := hstep
    have h := frameEvent_clockedFrame order ev c (frameDue d s)
    obtain ⟨hflags, hmarks, hframe⟩ := frameEvent_boardExpiry order ev c d hrst hon hend
    have hcount : countAfterFrame s = 0 := (if_neg hon).trans (if_neg (Nat.not_lt.mpr hend))
    exact ⟨_, hexec, h.counter.trans (if_neg (Bool.eq_false_iff.mp hrst)), (h.counts hrst).2.trans hcount,
      fun v _ hv => boardFlag_stands_or_granted (hflags v hv), fun j hj => mark_stands_or_granted (hmarks j hj), hframe⟩

end Sys2Proof.Machine
end

section
/-!
PROOF. The burst of a voice, fixed at its grant (O51).
-/

namespace Sys2Proof.Machine

/-! ### The burst and the limit it stays before (R148) -/

section
variable {x : Voice}

theorem burstLength_le_burstFrames (x : Voice) : burstLength x ≤ Config.burstFrames := Nat.min_le_left ..

/-- A voice short of its limit gets at least one frame. -/
theorem burstLength_pos (h : x.fetchPos < fetchLimit x) : 1 ≤ burstLength x :=
  Nat.le_min.mpr ⟨by decide, Nat.sub_pos_of_lt h⟩

/-- A burst does not cross the limit. -/
theorem fetchPos_add_burstLength_le (h : x.fetchPos ≤ fetchLimit x) : x.fetchPos + burstLength x ≤ fetchLimit x := by
  have hle : burstLength x ≤ fetchLimit x - x.fetchPos := Nat.min_le_right ..
  omega

/-- The request threshold leaves room for a whole burst (R145). -/
theorem fill_add_burstLength_le (h : requests x = true) : fill x + burstLength x ≤ 32 := by
  have hburst : burstLength x ≤ 8 := burstLength_le_burstFrames x
  have hbelow : fill x + x.inFlight ≤ 24 := of_decide_eq_true (Bool.and_eq_true_iff.mp h).2
  omega

end

/-! ### What the grant leaves of the voice -/

/-- The record of a voice whose burst is fixed: the burst's frames in flight, the fetch position behind it (R148). -/
def burstFixed (x : Voice) : Voice :=
  { x with inFlight := burstLength x, fetchPos := wrapPos x (x.fetchPos + burstLength x) }

theorem voiceOf_grantVoice (v w : Nat) (s : State) :
    voiceOf (grantVoice v s) w = if v = w ∧ w < 24 then burstFixed (voiceOf s v) else voiceOf s w :=
  voiceOf_setVoice v w (burstFixed (voiceOf s v)) s

theorem voiceOf_grantVoice_self {v : Nat} (hv : v < 24) (s : State) : voiceOf (grantVoice v s) v = burstFixed (voiceOf s v) :=
  (voiceOf_grantVoice v v s).trans (if_pos ⟨rfl, hv⟩)

theorem voiceOf_grantVoice_other {v w : Nat} (h : w ≠ v) (s : State) : voiceOf (grantVoice v s) w = voiceOf s w :=
  (voiceOf_grantVoice v w s).trans (if_neg fun hw => h hw.1.symm)

/-- Without a loop the fetch position does not wrap, so at the effective end nothing is left to fetch. -/
theorem hasFrames_burstFixed {x : Voice} (hloop : x.loop = false) (hend : x.fetchPos + burstLength x = x.effEnd) :
    hasFrames (burstFixed x) = false := by
  simp [hasFrames, burstFixed, wrapPos, hloop, hend]

/-- Settles O51: the grant writes the fixed record of one voice and the port, and the burst's length is cut at the limit. -/
theorem burstIsFixedAtItsGrant : Obligations.BurstIsFixedAtItsGrant := by
  intro s v hv x e n t
  have hself : voiceOf t v = burstFixed x := voiceOf_grantVoice_self hv s
  refine ⟨rfl, hself, fun w hw => voiceOf_grantVoice_other hw s, rfl, fun hlimit => ?_, fun hloop hend => ?_,
    fill_add_burstLength_le⟩
  · exact ⟨burstLength_pos hlimit, fetchPos_add_burstLength_le (Nat.le_of_lt hlimit)⟩
  · rw [hself]
    exact hasFrames_burstFixed hloop hend

end Sys2Proof.Machine
end

section
/-!
PROOF. The clock preference (O32): the word that holds it holds TALK's polarity and LWB besides, so that its merge is the word's own
write, TALK's change of polarity, and the change of the clock.
-/

namespace Sys2Proof.Machine

/-! ### An edge of TALK (R108) -/

/-- No press or release of TALK goes to an owner: its edges change the lines alone. -/
theorem leadingEdge_talk (s : State) : leadingEdge talkLine s = { s with lines := (leadingEdge talkLine s).lines } := by
  have hpress : ∀ t, takePress talkLine t = t := fun _ => rfl
  simp only [leadingEdge, hpress]
  split
  · split_ifs <;> rfl
  · rfl
  · rfl

theorem trailingEdge_talk (s : State) : trailingEdge talkLine s = { s with lines := (trailingEdge talkLine s).lines } := by
  have hrelease : ∀ t, takeRelease talkLine t = t := fun _ => rfl
  simp only [trailingEdge, hrelease]
  split
  · rfl
  · split_ifs <;> rfl
  · rfl

theorem polarityEffect_talk (old : Cells) (s : State) :
    polarityEffect old talkLine s = { s with lines := (polarityEffect old talkLine s).lines } := by
  simp only [polarityEffect, judgedEdge]
  split_ifs
  · rfl
  · exact leadingEdge_talk s
  · exact trailingEdge_talk s

/-! ### The rows of the preference (R170, R171) -/

section
variable {s : State}

theorem preferenceChanged_external (hp : preferInternal s.shadow = false) : preferenceChanged s = s := by
  simp [preferenceChanged, hp]

theorem preferenceChanged_freerun (h : s.clock.state = .freerun) : preferenceChanged s = s := by
  simp only [preferenceChanged, h, ite_self]

theorem preferenceChanged_relocking (hp : preferInternal s.shadow = true) (h : s.clock.state = .relocking) :
    preferenceChanged s = setClock { s.clock with state := .freerun, relock := 0, gap := 0 } s := by
  simp only [preferenceChanged, h, if_pos hp]

theorem preferenceChanged_house (hp : preferInternal s.shadow = true) (h : s.clock.state = .house) :
    preferenceChanged s = raiseEvent .clockLost 0 1 (BitVec.ofNat 32 s.clock.bridge)
      (setClock { s.clock with state := .freerun, bridge := 0 } s) := by
  simp only [preferenceChanged, h, if_pos hp]
  rfl

end

/-- A change of the preference reaches the Frame Clock, a mark and the pending queue alone. -/
theorem preferenceChanged_only (s : State) : preferenceChanged s = { s with
    clock := (preferenceChanged s).clock, marks := (preferenceChanged s).marks, queue := (preferenceChanged s).queue,
    lost := (preferenceChanged s).lost, nextSeq := (preferenceChanged s).nextSeq } := by
  cases hp : preferInternal s.shadow with
  | false => rw [preferenceChanged_external hp]
  | true =>
    cases h : s.clock.state with
    | freerun => rw [preferenceChanged_freerun h]
    | relocking => rw [preferenceChanged_relocking hp h, setClock_only]
    | house => rw [preferenceChanged_house hp h, raiseEvent_only, setClock_only]

/-! ### The merge -/

section
variable {s : State} {m : PortMerge}

/-- The merge of the first word as the Frame Clock finds it: TALK's change of polarity has been taken (R103). -/
def talkTaken (m : PortMerge) (s : State) : State := polarityEffect s.shadow talkLine (mergeWord m s)

theorem talkTaken_only (m : PortMerge) (s : State) : talkTaken m s = { mergeWord m s with lines := (talkTaken m s).lines } :=
  polarityEffect_talk s.shadow (mergeWord m s)

theorem talkTaken_shadow : (talkTaken m s).shadow = mergedShadow m s.shadow := by
  rw [talkTaken_only]
  rfl

theorem talkTaken_clock : (talkTaken m s).clock = s.clock := by
  rw [talkTaken_only]
  rfl

/-- The first word of the block holds the polarity of TALK alone. -/
theorem activeHigh_mergedShadow_first (hs : MemoryForm s) (hv : m.verdict ≠ .taken) (hoff : m.off = 0x00) {n : Nat} (hn : n ≠ talkLine) :
    activeHigh (mergedShadow m s.shadow) n = activeHigh s.shadow n := by
  have hbyte : readByte (mergedShadow m s.shadow) (0x11 + 4 * n) = readByte s.shadow (0x11 + 4 * n) :=
    mergedShadow_outside hs hv (.inr (by omega))
  simp only [activeHigh, if_neg hn, lineActiveHigh, bitAt, hbyte]

theorem polaritiesTaken_first (hs : MemoryForm s) (hv : m.verdict ≠ .taken) (hoff : m.off = 0x00) :
    polaritiesTaken s.shadow (mergeWord m s) = talkTaken m s := by
  have hothers : (List.range talkLine).foldl (fun t n => polarityEffect s.shadow n t) (mergeWord m s) = mergeWord m s :=
    foldl_eq_self fun n hn => polarityEffect_same
      (congrArg _ (activeHigh_mergedShadow_first hs hv hoff (Nat.ne_of_lt (List.mem_range.mp hn))).symm)
  rw [polaritiesTaken, List.range_succ, List.foldl_append]
  exact congrArg (polarityEffect s.shadow talkLine) hothers

/-- A merge that changes the clock preference: no line mode, no preload, no Rd and no board interval lies in its word (R32). -/
theorem performMerge_preferenceWord (hs : MemoryForm s) (hv : m.verdict ≠ .taken) (hoff : m.off = 0x00)
    (hpref : isPreferenceWrite m s = true) : performMerge m s = preferenceChanged (talkTaken m s) := by
  have hno : ∀ foff width, 4 ≤ foff → m.writes foff width = false := fun foff width h => touches_disjoint _ (by omega)
  have hmode : isLineModeWrite m s = false := List.any_eq_false.mpr fun n hn => by
    simp [lineMode_mergedShadow hs hv (by omega) (List.mem_range.mp hn)]
  have hchanged : ¬ preferInternal s.shadow = preferInternal (talkTaken m s).shadow := by
    rw [talkTaken_shadow]
    simpa [isPreferenceWrite] using hpref
  rw [performMerge_setupEffects (by omega), setupEffects_eq, modesTaken_none hmode, polaritiesTaken_first hs hv hoff,
    eachTimer_preload_none _ (fun k _ => hno _ _ (by omega)), preferenceTaken, if_neg hchanged, ownersAct_only, hno _ _ (by omega),
    hno _ _ (by omega)]
  rfl

/-- The frame of such a merge. -/
theorem unchangedBut_preferenceChanged (hoff : m.off < 0x100) :
    unchangedBut (mergeParts ++ [.clock, .queue, .marks, .lines]) s (arbitrate (preferenceChanged (talkTaken m s))) := by
  have hport : (preferenceChanged (talkTaken m s)).port = none := by
    rw [preferenceChanged_only, talkTaken_only]
    rfl
  refine unchangedBut_arbitrated (fun p hp => ?_) (by simp [hport, mergeParts])
  obtain ⟨hmerge, hown⟩ : p ∉ mergeParts ∧ p ∉ [Part.clock, .queue, .marks, .lines] := by
    simpa only [List.mem_append, not_or] using hp
  by_cases hstale : p = .stale
  · subst hstale
    intro b _ hb
    exact absurd (hport.symm.trans hb) (by simp)
  · have hpp : p ≠ .port := fun he => hmerge (by simp [he, mergeParts])
    have htalk : Same p (mergeWord m s) (talkTaken m s) := same_of_linesBlock (by rw [talkTaken_only]) (.inl (by simp))
      (.inr (by rw [talkTaken_only])) (.inr (by rw [talkTaken_only])) (.inl (by simp)) (.inl (by simp)) (.inl (by simp)) p hown
    have hclock : Same p (talkTaken m s) (preferenceChanged (talkTaken m s)) := same_of_linesBlock (by rw [preferenceChanged_only])
      (.inl (by simp)) (.inr (by rw [preferenceChanged_only])) (.inr (by rw [preferenceChanged_only])) (.inl (by simp))
      (.inl (by simp)) (.inl (by simp)) p hown
    exact same_trans hpp hstale (same_trans hpp hstale (same_mergeWord_setup hoff hmerge) htalk) hclock

/-- What raising an event depends on is the same behind TALK's change of polarity and a setting of the clock. -/
theorem queueAlike_setClock_talkTaken (c : FrameClock) : QueueAlike (mergeWord m s) (setClock c (talkTaken m s)) := by
  rw [setClock_only, talkTaken_only]
  exact ⟨rfl, rfl, rfl, rfl, rfl, rfl, rfl⟩

/-- An event raised as at the word's own write is raised as before it. -/
theorem raises_of_mergeWord (hport : s.port = some .controller) {k : EventKind} {a b : Nat} {value : Word} {t : State}
    (h : Raises k a b value (mergeWord m s) t) : Raises k a b value s t := by
  have hword := raises_mergeWord (m := m) hport k a b value
  rw [Raises, arbitrate_queue, arbitrate_lost, arbitrate_nextSeq] at hword
  obtain ⟨hqueue, hlost, hnext⟩ := h
  exact ⟨hqueue.trans hword.1, hlost.trans hword.2.1, hnext.trans hword.2.2⟩

/-- Where the word's own write and TALK's edge are all, the clock and the queue stand. -/
theorem same_arbitrate_talkTaken : Same .clock s (arbitrate (talkTaken m s)) ∧ Same .queue s (arbitrate (talkTaken m s)) := by
  simp only [Same, Kept, arbitrate_clock, arbitrate_queue, arbitrate_lost, arbitrate_nextSeq]
  rw [talkTaken_only]
  exact ⟨rfl, rfl, rfl, rfl⟩

end

/-- Settles O32: the clock is set by its state where the preference becomes INTERNAL, and CLOCK_LOST raised in HOUSE. -/
theorem clockPreferenceChangeActs : Obligations.ClockPreferenceChangeActs := by
  intro s m hs hm hoff hpref
  have hshadow : (arbitrate (preferenceChanged (talkTaken m s))).shadow = (talkTaken m s).shadow := by
    rw [arbitrate_shadow, preferenceChanged_only]
  have hexec := exec_merges (i := .clockPreferenceWrite) (by simp [mergeRows]) hpref hm
  rw [performMerge_preferenceWord hs hm.1.2 hoff hpref] at hexec
  refine ⟨_, hexec, ?_⟩
  rw [hshadow, ← talkTaken_clock (m := m)]
  refine ⟨fun hp => ?_, fun _ hstate => ?_, fun hp hstate => ?_, fun hp hstate => ?_, unchangedBut_preferenceChanged (by omega)⟩
  · rw [preferenceChanged_external hp]
    exact same_arbitrate_talkTaken
  · rw [preferenceChanged_freerun hstate]
    exact same_arbitrate_talkTaken
  · rw [preferenceChanged_relocking hp hstate]
    obtain ⟨-, -, -, -, hqueue⟩ :=
      queueAlike_setClock_talkTaken (s := s) (m := m) { (talkTaken m s).clock with state := .freerun, relock := 0, gap := 0 }
    refine ⟨by rw [arbitrate_clock, setClock_only], ?_⟩
    simp only [Same, Kept, arbitrate_queue, arbitrate_lost, arbitrate_nextSeq]
    exact hqueue
  · rw [preferenceChanged_house hp hstate]
    refine ⟨by rw [arbitrate_clock, raiseEvent_only, setClock_only], raises_of_mergeWord (m := m) (port_of_portMerge hm.1.1) ?_⟩
    exact raises_arbitrate (queueAlike_setClock_talkTaken _) ⟨rfl, rfl, rfl⟩

end Sys2Proof.Machine
end

section
/-!
PROOF. The end of an event record's write (O48): the head record goes, W and ATTN move, a LOST record follows where events were lost,
and the mark of block 0 stands until the grant behind the write takes it.
-/

namespace Sys2Proof.Machine

/-! ### The LOST record (R174) -/

section
variable {s : State}

/-- No LOST record follows where no event was lost. -/
theorem appendLost_of_none (h : s.lost = 0) : appendLost s = s := if_pos h

theorem appendLost_of_some (h : s.lost ≠ 0) :
    appendLost s = { appendEvent .lost 0 0 (BitVec.ofNat 32 s.lost) s with lost := 0 } := if_neg h

/-- The LOST record changes the pending queue and the next sequence number, and clears the lost count. -/
theorem appendLost_only (s : State) :
    appendLost s = { s with queue := (appendLost s).queue, lost := 0, nextSeq := (appendLost s).nextSeq } := by
  by_cases h : s.lost = 0
  · rw [appendLost_of_none h, ← h]
  · rw [appendLost_of_some h]
    rfl

/-! ### Behind an event record's write (R175, R176) -/

/-- Behind the write of an event record W has advanced, ATTN is judged by it and block 0 is marked; of the rest the pending queue and
its counts alone change. -/
theorem eventWritten_only (s : State) : eventWritten s = { s with
    queue := (eventWritten s).queue
    lost := 0
    nextSeq := (eventWritten s).nextSeq
    w := s.w + 1
    attn := !s.rst && decide (s.w + 1 ≠ rd s.shadow)
    marks := bankSet s.marks 0 true } :=
  appendLost_only (mark 0 (judgeAttn { s with queue := s.queue.drop 1, w := s.w + 1 }))

theorem eventWritten_queue_of_none (h : s.lost = 0) :
    (eventWritten s).queue = s.queue.drop 1 ∧ (eventWritten s).nextSeq = s.nextSeq := by
  rw [eventWritten, appendLost_of_none]
  exacts [⟨rfl, rfl⟩, h]

theorem eventWritten_queue_of_some (h : s.lost ≠ 0) :
    (eventWritten s).queue = s.queue.drop 1 ++ [⟨s.nextSeq, .lost, 0, s.frameCounter, 0, 0, BitVec.ofNat 32 s.lost⟩] ∧
      (eventWritten s).nextSeq = s.nextSeq + 1 := by
  rw [eventWritten, appendLost_of_some]
  exacts [⟨rfl, rfl⟩, h]

theorem eventWritten_marks_block0 (s : State) : bankGet (eventWritten s).marks 0 false = true := by
  rw [eventWritten_only]
  dsimp only
  rw [bankGet_bankSet, if_pos ⟨rfl, by decide⟩]

/-! ### The row -/

theorem exec_eventRecordWrite {addr : Nat} {bytes : List Byte} (hport : s.port = some (.report .event addr bytes false)) :
    exec .eventRecordWrite s = .next (arbitrate (eventWritten (partWrite addr bytes false s))) :=
  reportStep_of_port (p := fun k => k == .event) hport rfl

/-- The frame of an event record's write. -/
theorem unchangedBut_eventWritten (addr : Nat) (bytes : List Byte) (s : State) :
    unchangedBut [.port, .mem, .shadow, .queue, .ring, .marks] s (arbitrate (eventWritten (partWrite addr bytes false s))) := by
  have honly := eventWritten_only (partWrite addr bytes false s)
  have hport : (eventWritten (partWrite addr bytes false s)).port = none := by
    rw [honly]
    rfl
  refine unchangedBut_arbitrated (fun p hp => ?_) (by simp [hport])
  cases p
  case port | mem | shadow | queue | ring | marks => simp at hp
  case stale =>
    intro b _ hb
    exact absurd (hport.symm.trans hb) (by simp)
  all_goals
    rw [honly]
    simp [Same, Kept, servedVoice, writeBacksLeft, againLeft, CopyLeft, voiceOf, partWrite]

end

/-- Settles O48: the write reaches memory, what follows it is by whether events were lost, and the grant at the end of the step takes
nothing of it but the mark. -/
theorem eventRecordLeavesTheQueue : Obligations.EventRecordLeavesTheQueue := by
  intro s addr bytes hs hport
  have honly := eventWritten_only (partWrite addr bytes false s)
  have hmem := partWrite_mem hs bytes false addr
  refine ⟨_, exec_eventRecordWrite hport, ?_, ?_, ?_, ?_, fun h => ?_, fun h => ?_,
    mark_stands_or_granted (eventWritten_marks_block0 _), unchangedBut_eventWritten addr bytes s⟩
  · rwa [arbitrate_mem, honly]
  · rw [arbitrate_w, honly]
    rfl
  · rw [arbitrate_attn, arbitrate_shadow, honly]
    rfl
  · rw [arbitrate_lost, honly]
  · rw [arbitrate_queue, arbitrate_nextSeq]
    exact eventWritten_queue_of_none (s := partWrite addr bytes false s) h
  · rw [arbitrate_queue, arbitrate_nextSeq]
    exact eventWritten_queue_of_some (s := partWrite addr bytes false s) h

end Sys2Proof.Machine
end

section
/-!
PROOF. A step with a command waiting (O1).
-/

namespace Sys2Proof.Machine

theorem step_of_pending_cons {s : State} {c : Instr} {cs : List Instr} (hqueue : s.pending = c :: cs) :
    step s = exec c { s with pending := cs } := by
  simp only [step, hqueue]

/-- Settles O1: the state's own queue is replaced before the step, so nothing of it reaches the command. -/
theorem stepRunsFrontCommand : Obligations.StepRunsFrontCommand :=
  fun c cs s => step_of_pending_cons (s := { s with pending := c :: cs }) rfl

end Sys2Proof.Machine
end
